-- ==== Sys2Proof/Word.lean ====
section
/-! DEFINITION. The byte, and the numbering of the six pump positions and the 32 alarm points. -/

namespace Sys2Proof

/-- One byte of a request or a reply (R176). -/
abbrev Byte := BitVec 8

/-- A pump position. Pump n of the manual (1 to 6) is position n - 1. -/
abbrev PumpNo := Fin 6

/-- An alarm point. Point n of Table 9-1 (1 to 32) is index n - 1. -/
abbrev PointNo := Fin 32

end Sys2Proof
end

