-- ==== Sys2Proof/Syntax.lean ====
section
/-! DEFINITION. The commands of the PL-604: one constructor for each row of the table of operations and events.
A request row carries the port and the bytes that followed its code byte in the select period (length byte, parameters,
padding); an event row carries what the event names and, where the manual lets two things of one step come in either
order, the order in which they come. -/

namespace Sys2Proof

/-- The two SPI target ports: A (panel) and B (telemetry). -/
inductive PortId where
  | a | b
deriving DecidableEq, Repr

/-- The 33 contact inputs of Table 3-1. -/
inductive Input where
  | hoaHand (n : PumpNo) | hoaAuto (n : PumpNo) | runFb (n : PumpNo) | pumpFault (n : PumpNo)
  | limTop | limBottom | torqueTrip | skipFull | floatHigh | floatLow | modeRemote | maintKey | genRun
deriving DecidableEq, Repr

/-- The five blocks that receive a level update (R24). No reader depends on another's reaction, so a measurement
cycle names the order in which they take it (assumption 6). -/
inductive Reader where
  | duty | rake | overflow | trace | reports
deriving DecidableEq, Repr

/-- The commands, one constructor for each row of spec/opcode_table.json. -/
inductive Instr where
  /-- POWER_UP (R187). -/
  | powerUp
  /-- RESET_HOLD (R187): the supply is low or RESET_N is held low. -/
  | resetHold
  /-- SELECT_FALL (R176). -/
  | selectFall (p : PortId)
  /-- EMPTY_PERIOD (R177): the rise of select after `clocked` bytes, none of them a request. -/
  | emptyPeriod (p : PortId) (clocked : Nat)
  /-- REQUEST_NOT_TAKEN (R177 step 2): the rise of select after a period of these bytes, behind a PENDING reply. -/
  | requestNotTaken (p : PortId) (bytes : List Byte)
  /-- UNKNOWN_REQUEST (R177 step 3): a code that is not in the catalogue, and the bytes after it. -/
  | unknownRequest (p : PortId) (code : Byte) (rest : List Byte)
  /-- PORT_CLEAR (R189). -/
  | portClear (p : PortId)
  /-- READ STATUS, code 01h (R181). -/
  | readStatus (p : PortId) (rest : List Byte)
  /-- READ CHANNELS, code 02h (R7). -/
  | readChannels (p : PortId) (rest : List Byte)
  /-- READ WELL, code 03h (R25). -/
  | readWell (p : PortId) (rest : List Byte)
  /-- READ PUMP, code 04h (R57, R93). -/
  | readPump (p : PortId) (rest : List Byte)
  /-- READ RAKE, code 05h (R131). -/
  | readRake (p : PortId) (rest : List Byte)
  /-- READ OVERFLOW, code 06h (R145). -/
  | readOverflow (p : PortId) (rest : List Byte)
  /-- READ ALARMS, code 07h (R162). -/
  | readAlarms (p : PortId) (rest : List Byte)
  /-- READ CURVE, code 08h (R35). -/
  | readCurve (p : PortId) (rest : List Byte)
  /-- SET TRACE WINDOW, code 09h (R150). -/
  | setTraceWindow (p : PortId) (rest : List Byte)
  /-- READ TRACE, code 0Ah (R151). -/
  | readTrace (p : PortId) (rest : List Byte)
  /-- PEEK REPORT, code 0Bh (R172). -/
  | peekReport (p : PortId) (rest : List Byte)
  /-- READ ARITH, code 0Ch (R14). -/
  | readArith (p : PortId) (rest : List Byte)
  /-- READ SETTINGS, code 0Dh (R181). -/
  | readSettings (p : PortId) (rest : List Byte)
  /-- ACK ALARM, code 20h (R156). -/
  | ackAlarm (p : PortId) (rest : List Byte)
  /-- CLEAR ATTENTION, code 21h (R160). -/
  | clearAttention (p : PortId) (rest : List Byte)
  /-- SET ATTENTION MASKS, code 22h (R160). -/
  | setAttentionMasks (p : PortId) (rest : List Byte)
  /-- RELEASE TRACE, code 23h (R149). -/
  | releaseTrace (p : PortId) (rest : List Byte)
  /-- SET SETPOINTS, code 40h (R65). -/
  | setSetpoints (p : PortId) (rest : List Byte)
  /-- INHIBIT PUMP, code 41h (R108). -/
  | inhibitPump (p : PortId) (rest : List Byte)
  /-- RELEASE PUMP, code 42h (R108). -/
  | releasePump (p : PortId) (rest : List Byte)
  /-- RESET PUMP FAULT, code 43h (R109). -/
  | resetPumpFault (p : PortId) (rest : List Byte)
  /-- REQUEST RAKE CYCLE, code 44h (R120). -/
  | requestRakeCycle (p : PortId) (rest : List Byte)
  /-- RESET RAKE, code 45h (R127). -/
  | resetRake (p : PortId) (rest : List Byte)
  /-- WRITE CHANNEL, code 60h (R2). -/
  | writeChannel (p : PortId) (rest : List Byte)
  /-- WRITE PUMP RECORD, code 61h (R58, R59). -/
  | writePumpRecord (p : PortId) (rest : List Byte)
  /-- WRITE ROTATION, code 62h (R61). -/
  | writeRotation (p : PortId) (rest : List Byte)
  /-- WRITE STATION CONSTANTS, code 63h (R182). -/
  | writeStationConstants (p : PortId) (rest : List Byte)
  /-- COPY CURVE, code 64h (R32). -/
  | copyCurve (p : PortId) (rest : List Byte)
  /-- WRITE CURVE POINTS, code 65h (R33). -/
  | writeCurvePoints (p : PortId) (rest : List Byte)
  /-- SET CURVE COUNT, code 66h (R34). -/
  | setCurveCount (p : PortId) (rest : List Byte)
  /-- COMMIT CURVE, code 67h (R38). -/
  | commitCurve (p : PortId) (rest : List Byte)
  /-- SET ARITH CONTROL, code 68h (R13). -/
  | setArithControl (p : PortId) (rest : List Byte)
  /-- SAVE SETTINGS, code 69h (R185). -/
  | saveSettings (p : PortId) (rest : List Byte)
  /-- STATION RESET, code 6Ah (R188). -/
  | stationReset (p : PortId) (rest : List Byte)
  /-- TAKE REPORT, code 80h (R173). -/
  | takeReport (p : PortId) (rest : List Byte)
  /-- SET CLOCK, code 81h (R165). -/
  | setClock (p : PortId) (rest : List Byte)
  /-- MEASUREMENT_CYCLE (R1): the four converter counts and the order in which the readers take the update. -/
  | measurementCycle (wellA wellB inlet weir : BitVec 12) (order : List Reader)
  /-- RAW_LEVEL_CHANGE (R46): the terminal of an input comes to this level. -/
  | rawLevelChange (i : Input) (level : Bool)
  /-- DEBOUNCE_EXPIRY (R46). `swapped`: where Table 3-1 names two blocks, the second takes the change first. -/
  | debounceExpiry (i : Input) (swapped : Bool)
  /-- FIRST_SETTLING (R48). `swapped`: the second block of Table 3-1 takes its settling notice first. -/
  | firstSettling (i : Input) (swapped : Bool)
  /-- SPACING_EXPIRY (R81). -/
  | spacingExpiry
  /-- BUDGET_EXPIRY (R85). -/
  | budgetExpiry
  /-- CONFIRM_EXPIRY (R99). -/
  | confirmExpiry (n : PumpNo)
  /-- MIN_RUN_EXPIRY (R100). -/
  | minRunExpiry (n : PumpNo)
  /-- STOP_CONFIRM_EXPIRY (R101). -/
  | stopConfirmExpiry (n : PumpNo)
  /-- MIN_OFF_EXPIRY (R102). -/
  | minOffExpiry (n : PumpNo)
  /-- PRUNE_EXPIRY (R110). -/
  | pruneExpiry (n : PumpNo)
  /-- DEAD_INTERVAL_EXPIRY (R54). -/
  | deadIntervalExpiry
  /-- LOWER_TIMER_EXPIRY (R123). -/
  | lowerTimerExpiry
  /-- RAISE_TIMER_EXPIRY (R124). -/
  | raiseTimerExpiry
  /-- REVERSE_TIMER_EXPIRY (R125). -/
  | reverseTimerExpiry
  /-- DWELL_EXPIRY (R126). -/
  | dwellExpiry
  /-- REST_TIMER_EXPIRY (R126). -/
  | restTimerExpiry
  /-- INTERVAL_EXPIRY (R119). -/
  | intervalExpiry
  /-- STATION_TIME_ADVANCE (R164). `rolloverFirst`: a day rollover of this advance comes before its accruals (R167). -/
  | stationTimeAdvance (rolloverFirst : Bool)
  /-- STORE_WRITE_END (R184). `defect` is what the read-back check word differs by: 0 is a sound image. -/
  | storeWriteEnd (defect : BitVec 16)
deriving DecidableEq, Repr

end Sys2Proof
end

