-- ==== Sys2Proof/WellFormed.lean ====
section
/-! DEFINITION. Which operands a row can have at all: the shape of a select period (R176, R177, R189) and of a reader order. -/

namespace Sys2Proof

/-- The request codes of the catalogue (Table 11-3). -/
def catalogueCodes : List Byte :=
  [0x01, 0x02, 0x03, 0x04, 0x05, 0x06, 0x07, 0x08, 0x09, 0x0A, 0x0B, 0x0C, 0x0D,
   0x20, 0x21, 0x22, 0x23, 0x40, 0x41, 0x42, 0x43, 0x44, 0x45,
   0x60, 0x61, 0x62, 0x63, 0x64, 0x65, 0x66, 0x67, 0x68, 0x69, 0x6A, 0x80, 0x81]

/-- The five readers of a level update, each once, in some order. -/
def orderOk (order : List Reader) : Bool :=
  order.length == 5 && [Reader.duty, .rake, .overflow, .trace, .reports].all (order.contains ·)

/-- The operands that a row can have. An empty period has not exactly one byte: that would be a PORT_CLEAR (R176, R189). A
period that is not taken carries a request, so its first byte is not 0. An unknown request has a code from 1 to 255 outside
Table 11-3. A measurement cycle is taken by each of the five readers once (R24). -/
def Instr.wellFormed : Instr → Bool
  | .emptyPeriod _ clocked => clocked != 1
  | .requestNotTaken _ bytes => match bytes with
    | [] => false
    | b :: _ => b != 0
  | .unknownRequest _ code _ => code != 0 && !catalogueCodes.contains code
  | .measurementCycle _ _ _ _ order => orderOk order
  | .powerUp | .resetHold | .selectFall _ | .portClear _
  | .readStatus _ _ | .readChannels _ _ | .readWell _ _ | .readPump _ _ | .readRake _ _ | .readOverflow _ _
  | .readAlarms _ _ | .readCurve _ _ | .setTraceWindow _ _ | .readTrace _ _ | .peekReport _ _ | .readArith _ _
  | .readSettings _ _ | .ackAlarm _ _ | .clearAttention _ _ | .setAttentionMasks _ _ | .releaseTrace _ _
  | .setSetpoints _ _ | .inhibitPump _ _ | .releasePump _ _ | .resetPumpFault _ _ | .requestRakeCycle _ _
  | .resetRake _ _ | .writeChannel _ _ | .writePumpRecord _ _ | .writeRotation _ _ | .writeStationConstants _ _
  | .copyCurve _ _ | .writeCurvePoints _ _ | .setCurveCount _ _ | .commitCurve _ _ | .setArithControl _ _
  | .saveSettings _ _ | .stationReset _ _ | .takeReport _ _ | .setClock _ _
  | .rawLevelChange _ _ | .debounceExpiry _ _ | .firstSettling _ _ | .spacingExpiry | .budgetExpiry
  | .confirmExpiry _ | .minRunExpiry _ | .stopConfirmExpiry _ | .minOffExpiry _ | .pruneExpiry _
  | .deadIntervalExpiry | .lowerTimerExpiry | .raiseTimerExpiry | .reverseTimerExpiry | .dwellExpiry
  | .restTimerExpiry | .intervalExpiry | .stationTimeAdvance _ | .storeWriteEnd _ => true

end Sys2Proof
end

