-- ==== Sys2Proof/Decode.lean ====
section
/-! DEFINITION. From bytes to commands. The table of operations gives no row bits, so no table word spells a command. The bytes
of a select period do (R176, R177, R189): the period at whose rise a command is judged is decoded here and encoded again. -/

namespace Sys2Proof

/-- No row of the table carries bits: no word spells a command (assumption 32). -/
def decodeTableWord (nbits w : Nat) : Option Instr :=
  match nbits, w with
  | _, _ => none

/-- The request of a code of the catalogue (Table 11-3), with the bytes that followed the code. -/
def requestOf (p : PortId) (code : Byte) (rest : List Byte) : Instr :=
  match code.toNat with
  | 0x01 => .readStatus p rest
  | 0x02 => .readChannels p rest
  | 0x03 => .readWell p rest
  | 0x04 => .readPump p rest
  | 0x05 => .readRake p rest
  | 0x06 => .readOverflow p rest
  | 0x07 => .readAlarms p rest
  | 0x08 => .readCurve p rest
  | 0x09 => .setTraceWindow p rest
  | 0x0A => .readTrace p rest
  | 0x0B => .peekReport p rest
  | 0x0C => .readArith p rest
  | 0x0D => .readSettings p rest
  | 0x20 => .ackAlarm p rest
  | 0x21 => .clearAttention p rest
  | 0x22 => .setAttentionMasks p rest
  | 0x23 => .releaseTrace p rest
  | 0x40 => .setSetpoints p rest
  | 0x41 => .inhibitPump p rest
  | 0x42 => .releasePump p rest
  | 0x43 => .resetPumpFault p rest
  | 0x44 => .requestRakeCycle p rest
  | 0x45 => .resetRake p rest
  | 0x60 => .writeChannel p rest
  | 0x61 => .writePumpRecord p rest
  | 0x62 => .writeRotation p rest
  | 0x63 => .writeStationConstants p rest
  | 0x64 => .copyCurve p rest
  | 0x65 => .writeCurvePoints p rest
  | 0x66 => .setCurveCount p rest
  | 0x67 => .commitCurve p rest
  | 0x68 => .setArithControl p rest
  | 0x69 => .saveSettings p rest
  | 0x6A => .stationReset p rest
  | 0x80 => .takeReport p rest
  | 0x81 => .setClock p rest
  | _ => .unknownRequest p code rest

/-- What a select period that clocked these bytes gives at its rise (R176, R177, R189): no byte at all or a first byte 0 carries
no request, and a single byte 0 is a PORT_CLEAR. Whether a request is taken is judged when it runs. -/
def decodePeriod (p : PortId) : List Byte → Instr
  | [] => .emptyPeriod p 0
  | b :: rest =>
    if b = 0 then (match rest with
      | [] => .portClear p
      | r :: rs => .emptyPeriod p (1 + (r :: rs).length))
    else requestOf p b rest

/-- The port and the bytes of the select period that gives a command: none for a command that no period gives. An empty period
is written with zeros, since only its length is kept. -/
def encodePeriod : Instr → Option (PortId × List Byte)
  | .emptyPeriod p clocked => some (p, List.replicate clocked 0)
  | .portClear p => some (p, [0])
  | .unknownRequest p code rest => some (p, code :: rest)
  | .readStatus p rest => some (p, 0x01 :: rest)
  | .readChannels p rest => some (p, 0x02 :: rest)
  | .readWell p rest => some (p, 0x03 :: rest)
  | .readPump p rest => some (p, 0x04 :: rest)
  | .readRake p rest => some (p, 0x05 :: rest)
  | .readOverflow p rest => some (p, 0x06 :: rest)
  | .readAlarms p rest => some (p, 0x07 :: rest)
  | .readCurve p rest => some (p, 0x08 :: rest)
  | .setTraceWindow p rest => some (p, 0x09 :: rest)
  | .readTrace p rest => some (p, 0x0A :: rest)
  | .peekReport p rest => some (p, 0x0B :: rest)
  | .readArith p rest => some (p, 0x0C :: rest)
  | .readSettings p rest => some (p, 0x0D :: rest)
  | .ackAlarm p rest => some (p, 0x20 :: rest)
  | .clearAttention p rest => some (p, 0x21 :: rest)
  | .setAttentionMasks p rest => some (p, 0x22 :: rest)
  | .releaseTrace p rest => some (p, 0x23 :: rest)
  | .setSetpoints p rest => some (p, 0x40 :: rest)
  | .inhibitPump p rest => some (p, 0x41 :: rest)
  | .releasePump p rest => some (p, 0x42 :: rest)
  | .resetPumpFault p rest => some (p, 0x43 :: rest)
  | .requestRakeCycle p rest => some (p, 0x44 :: rest)
  | .resetRake p rest => some (p, 0x45 :: rest)
  | .writeChannel p rest => some (p, 0x60 :: rest)
  | .writePumpRecord p rest => some (p, 0x61 :: rest)
  | .writeRotation p rest => some (p, 0x62 :: rest)
  | .writeStationConstants p rest => some (p, 0x63 :: rest)
  | .copyCurve p rest => some (p, 0x64 :: rest)
  | .writeCurvePoints p rest => some (p, 0x65 :: rest)
  | .setCurveCount p rest => some (p, 0x66 :: rest)
  | .commitCurve p rest => some (p, 0x67 :: rest)
  | .setArithControl p rest => some (p, 0x68 :: rest)
  | .saveSettings p rest => some (p, 0x69 :: rest)
  | .stationReset p rest => some (p, 0x6A :: rest)
  | .takeReport p rest => some (p, 0x80 :: rest)
  | .setClock p rest => some (p, 0x81 :: rest)
  | .powerUp | .resetHold | .selectFall _ | .requestNotTaken _ _ | .measurementCycle _ _ _ _ _ | .rawLevelChange _ _
  | .debounceExpiry _ _ | .firstSettling _ _ | .spacingExpiry | .budgetExpiry | .confirmExpiry _ | .minRunExpiry _
  | .stopConfirmExpiry _ | .minOffExpiry _ | .pruneExpiry _ | .deadIntervalExpiry | .lowerTimerExpiry
  | .raiseTimerExpiry | .reverseTimerExpiry | .dwellExpiry | .restTimerExpiry | .intervalExpiry
  | .stationTimeAdvance _ | .storeWriteEnd _ => none

end Sys2Proof
end

