-- ==== Sys2Proof/Machine/Bytes.lean ====
section
/-! DEFINITION. Multi-byte fields, most significant byte first (section 11.8). -/

namespace Sys2Proof.Machine

/-- `v` in `w` bytes, most significant byte first. -/
def be : Nat → Nat → List Byte
  | 0, _ => []
  | w + 1, v => BitVec.ofNat 8 (v / 256 ^ w) :: be w v

/-- The number that bytes spell, most significant byte first. -/
def ofBe (bs : List Byte) : Nat := bs.foldl (fun a b => a * 256 + b.toNat) 0

/-- Cut bytes into fields of the given widths and read each. -/
def readFields : List Nat → List Byte → List Nat
  | [], _ => []
  | w :: ws, bs => ofBe (bs.take w) :: readFields ws (bs.drop w)

/-- Write fields, each a width and a value, one after the other. -/
def writeFields (fs : List (Nat × Nat)) : List Byte := fs.flatMap fun f => be f.1 f.2

/-- The k-th field read, 0 where there is none. -/
def nth (l : List Nat) (k : Nat) : Nat := l.getD k 0

/-- One byte for a code or a count. -/
def byte (v : Nat) : List Byte := be 1 v

/-- One byte for an indication (R190), 1 when it is set, on or yes and 0 when it is clear, off or no: the two values are assumption 17,
DESIGN CHOICE. -/
def flagByte (b : Bool) : List Byte := [if b then 1 else 0]

/-- Bits of one byte, bit 0 first. -/
def bitsByte (bs : List Bool) : Byte :=
  bs.foldr (fun b acc => (acc <<< 1) ||| (if b then 1 else 0)) 0

/-- A presence byte: one bit per field, the last field of the list at bit 0 (as in Tables 11-9 and 11-11, assumption 17). -/
def presence (fields : List (Option Nat)) : Byte := bitsByte (fields.reverse.map Option.isSome)

/-- An optional field: an absent one reads as 0 (section 11.8). -/
def optField (w : Nat) (o : Option Nat) : List Byte := be w (o.getD 0)

/-- A single optional field with a presence byte of its own before it (assumption 17). -/
def optional (w : Nat) (o : Option Nat) : List Byte := presence [o] :: optField w o

end Sys2Proof.Machine
end

