-- ==== Sys2Proof/Config.lean ====
section
/-! DEFINITION. Capacities the manual fixes, and the free values: what the manual leaves open and what the world outside
supplies when nobody says it. A free value is an opaque constant, so that nothing can be proved of the value it gives. -/

namespace Sys2Proof.Config

/-- 32-bit top of range (Table 0-3). -/
def top32 : Nat := 4294967295
/-- 24-bit top of range: a volume in litres (Table 0-3). -/
def top24 : Nat := 16777215
/-- 16-bit top of range (Table 0-3). -/
def top16 : Nat := 65535
/-- Records the report queue holds (R169). -/
def queueCap : Nat := 64
/-- Entries the trace holds (R147). -/
def traceCap : Nat := 256
/-- Cycle records the inflow ring holds (R20). -/
def ringCap : Nat := 16
/-- The rake drive's dead interval, 0.5 s in 10 ms steps (R53). -/
def deadInterval : Nat := 50
/-- Data bytes of a request or reply (Table 11-6). -/
def dataCap : Nat := 250

/-- Free value (assumption 5): the converter count at analog input `k` (0 WELL_A to 3 WEIR) of a measurement cycle that no
sender supplied with counts. -/
opaque analogCount : Nat → Nat → BitVec 12

/-- Free value (assumptions 5, 6): which of the 120 orders the readers of a level update take it in, where no sender said. -/
opaque readerChoice : Nat → Fin 120

/-- Free value (assumptions 5, 7, 8): which of two things that may come in either order comes first, where no sender said. -/
opaque swapChoice : Nat → Bool

/-- Free value (assumption 5): what the check word read back at the end of a store write differs by, where no sender said. -/
opaque storeDefect : Nat → BitVec 16

/-- Free value (assumption 19): the field code in the REFUSED_RANGE reply to a WRITE PUMP RECORD whose pump number is out of
range. R58 gives codes to the fields of Table 4-1 alone. -/
opaque pumpNumberFieldCode : Byte

/-- Free values (assumption 31): the cycle uptime and the station time that READ WELL carries before the first level update. R25
gives the fields that may be absent, the source and the indication; these two are never absent and no value is stated. -/
opaque unpublishedUptime : Nat

opaque unpublishedTime : Nat

/-- Free value (assumption 1): which of the timed events that fall due in one step is taken first. -/
opaque dueChoice : Nat → Nat

end Sys2Proof.Config
end

