-- ==== Sys2Proof/Machine/State.lean ====
section
/-! DEFINITION. The state of the PL-604, block by block (Table 0-1), as plain data, and the machine right after power-up.
Uptimes are in ticks of 0.1 s; `Station.clock` counts the 10 ms steps that the debounce timers resolve (R47, assumption 3). -/

namespace Sys2Proof.Machine

/-! ### Stop reasons -/

/-- Why the machine stops with a fault. The manual gives every step an effect, so no command faults: the one constructor is
raised by nothing. -/
inductive Fault where
  /-- Raised by no command (safe: it stops nothing). -/
  | none_
deriving DecidableEq, Repr

/-- Why a command has no meaning. -/
inductive Refusal where
  /-- An arm of exec whose command has no meaning yet. Raised by no arm of this model. Safe. -/
  | notModelled (mnemonic : String)
  /-- The operands are not ones that the row can have (see `Instr.wellFormed`): an empty period of one byte, a not-taken
  period that carries no request, an unknown request whose code is in the catalogue, a reader order that is no permutation.
  Raised by EMPTY_PERIOD, REQUEST_NOT_TAKEN, UNKNOWN_REQUEST and MEASUREMENT_CYCLE on such operands alone. Safe: no period
  and no cycle of the part has them (assumption 21). -/
  | illFormed
deriving DecidableEq, Repr

/-! ### Level Engine (Chapter 1) -/

/-- Channel names (Table 1-1). -/
inductive ChanName where
  | wellA | wellB | inlet | weir
deriving DecidableEq, Repr

/-- Channel states (Table 1-4). -/
inductive ChanState where
  | ok | suspect | failed | recovering
deriving DecidableEq, Repr

/-- Sample classes (Table 1-3); `none` before the first cycle (R7). -/
inductive SampleClass where
  | under | clamped | good | over | none
deriving DecidableEq, Repr

/-- Channel settings (Table 1-2). -/
structure ChanSettings where
  span   : Nat
  offset : Nat
  shift  : Nat
deriving DecidableEq, Repr

/-- Channel record (R2 to R8): settings, last sample, filter state F in sixteenths of a millimetre, level L, run counts. -/
structure Channel where
  settings : ChanSettings
  state    : ChanState
  sample   : SampleClass
  raw      : BitVec 12
  filter   : Nat
  level    : Nat
  badRun   : Nat
  goodRun  : Nat
deriving DecidableEq, Repr

/-- Rounding modes (Table 1-5). -/
inductive RoundMode where
  | nearestAway | nearestEven | towardZero
deriving DecidableEq, Repr

/-- One indication per sticky flag of Table 1-6: the flags themselves, the masks, a clear-set. -/
structure FlagSet where
  scaleClamp : Bool
  curveLow   : Bool
  curveHigh  : Bool
  inflowNeg  : Bool
  saturated  : Bool
deriving DecidableEq, Repr

/-- The arithmetic control (section 1.6). -/
structure ArithControl where
  mode  : RoundMode
  flags : FlagSet
  masks : FlagSet
deriving DecidableEq, Repr

/-- Level source (Table 1-7). -/
inductive Source where
  | dual | singleA | singleB | float
deriving DecidableEq, Repr

/-- The level update (Table 1-8). -/
structure LevelUpdate where
  cycleUptime : Nat
  stationTime : Nat
  w           : Option Nat
  source      : Source
  v           : Option Nat
  qIn         : Option Nat
  inlet       : Option Nat
  weirState   : ChanState
  head        : Option Nat
  qWeir       : Option Nat
deriving DecidableEq, Repr

/-- A cycle record of the inflow ring (R20). -/
structure CycleRec where
  v    : Option Nat
  qOut : Nat
deriving DecidableEq, Repr

/-- The Level Engine. `published` is none until the first cycle after a power-up (R25); `fresh` holds until the first cycle
after a power-up or a soft reset (R9, R12, R17, R26, R27); `nextCycle` is the uptime of the next cycle (R1). -/
structure LevelEngine where
  wellA       : Channel
  wellB       : Channel
  inlet       : Channel
  weir        : Channel
  arith       : ArithControl
  disagreeRun : Nat
  ring        : List CycleRec
  published   : Option LevelUpdate
  highLevel   : Bool
  lowLevel    : Bool
  nextCycle   : Nat
  fresh       : Bool
deriving DecidableEq, Repr

/-! ### Curve Store (Chapter 2) -/

/-- The two curves (Table 2-1). -/
inductive CurveId where
  | volume | weir
deriving DecidableEq, Repr

/-- A point slot (R28). -/
structure Point where
  x : Nat
  y : Nat
deriving DecidableEq, Repr

/-- A copy of a curve: a point count and sixteen slots (R28). -/
structure CurveCopy where
  n     : Nat
  slots : Vector Point 16
deriving DecidableEq, Repr

/-- A curve: active copy, shadow copy, pending-commit mark (R28). -/
structure Curve where
  active : CurveCopy
  shadow : CurveCopy
  mark   : Option PortId
deriving DecidableEq, Repr

/-- The Curve Store. -/
structure CurveStore where
  volume : Curve
  weir   : Curve
deriving DecidableEq, Repr

/-! ### Contact Unit (Chapter 3) -/

/-- A running debounce candidate: the 10 ms step it began at and the debounce time in milliseconds it latched (R45). -/
structure Candidate where
  began : Nat
  ms    : Nat
deriving DecidableEq, Repr

/-- An input record (R45). -/
structure InputRec where
  raw        : Bool
  settled    : Bool
  hasSettled : Bool
  candidate  : Option Candidate
  lastChange : Option Nat
deriving DecidableEq, Repr

/-- Selector positions (Table 3-3). -/
inductive Position where
  | off | hand | auto
deriving DecidableEq, Repr

/-- A pump's selector record (R50). -/
structure Selector where
  position : Position
  conflict : Bool
deriving DecidableEq, Repr

/-- Rake directions. -/
inductive Dir where
  | down | up
deriving DecidableEq, Repr

/-- The rake drive (R53): CLEAR, a direction output on, or a dead interval with its expiry, in 10 ms
steps (assumption 3), and its waiting direction. -/
inductive Drive where
  | clear
  | driven (d : Dir)
  | dead (expiry : Nat) (waiting : Option Dir)
deriving DecidableEq, Repr

/-- The Contact Unit: 33 inputs, six selectors, six pump outputs, the rake drive, the beacon. -/
structure ContactUnit where
  hoaHand    : Vector InputRec 6
  hoaAuto    : Vector InputRec 6
  runFb      : Vector InputRec 6
  pumpFault  : Vector InputRec 6
  limTop     : InputRec
  limBottom  : InputRec
  torqueTrip : InputRec
  skipFull   : InputRec
  floatHigh  : InputRec
  floatLow   : InputRec
  modeRemote : InputRec
  maintKey   : InputRec
  genRun     : InputRec
  selectors  : Vector Selector 6
  pumpRun    : Vector Bool 6
  drive      : Drive
  beacon     : Bool
deriving DecidableEq, Repr

/-! ### Duty Controller (Chapter 4) -/

/-- Alternation modes (Table 4-2). -/
inductive AltMode where
  | onCycle | onHours | fixed
deriving DecidableEq, Repr

/-- The setpoint table (Table 4-3). -/
structure Setpoints where
  start       : Vector Nat 6
  stop        : Vector Nat 6
  highAlarm   : Nat
  lowAlarm    : Nat
  lowCutoff   : Nat
  anticipate  : Nat
  margin      : Nat
  floatDemand : Nat
deriving DecidableEq, Repr

/-- Demand orders (Table 4-5). -/
inductive Order where
  | start | keep | stop | cutoffStop | withdraw
deriving DecidableEq, Repr

/-- Which of the four modifications of R69 changed D_eff at the last evaluation (R74). -/
structure Modifications where
  anticipation : Bool
  highFloor    : Bool
  lowCutoff    : Bool
  floatFloor   : Bool
deriving DecidableEq, Repr

/-- The Duty Controller. `lastSource` is none before the first evaluation after a reset (R74). -/
structure Duty where
  rotation   : List PumpNo
  mode       : AltMode
  altMark    : Bool
  setpoints  : Setpoints
  held       : Nat
  effective  : Nat
  hand       : Nat
  need       : Nat
  unmet      : Nat
  lastSource : Option Source
  mods       : Modifications
  cutoff     : Bool
  orders     : Vector (Option Order) 6
deriving DecidableEq, Repr

/-! ### Pump records (Chapters 4 and 6) -/

/-- Pump record settings (Table 4-1). -/
structure PumpSettings where
  installed       : Bool
  ratedFlow       : Nat
  ratedPower      : Nat
  minRun          : Nat
  minOff          : Nat
  maxStarts       : Nat
  confirmTime     : Nat
  stopConfirmTime : Nat
deriving DecidableEq, Repr

/-- Pump states (Table 6-2). -/
inductive PumpState where
  | uninstalled | off | hand | inhibited | ready | waiting | starting | running | stopping | resting | faulted
deriving DecidableEq, Repr

/-- Fault causes (Table 6-1). -/
inductive PumpCause where
  | failToStart | failToStop | motorFault | uncommandedRun
deriving DecidableEq, Repr

/-- Deferred-stop mark (Table 6-1). -/
inductive Deferred where
  | none | normal | cutoff
deriving DecidableEq, Repr

/-- A pump record: settings (Table 4-1) and runtime fields (Table 6-1). The prune expiry is `PumpRec.pruneExpiry`, a view of
the history's oldest entry (R110). -/
structure PumpRec where
  settings        : PumpSettings
  state           : PumpState
  cause           : Option PumpCause
  demand          : Bool
  shed            : Bool
  deferred        : Deferred
  inhibit         : Bool
  runLost         : Bool
  minRunElapsed   : Bool
  timer           : Option Nat
  history         : List Nat
  startsToday     : Nat
  runToday        : Nat
  startsTotal     : Nat
  runTotal        : Nat
  stateChange     : Nat
deriving DecidableEq, Repr

/-! ### Start Controller (Chapter 5) -/

/-- The motors that may stand in the start queue (R75). -/
inductive Motor where
  | pump (n : PumpNo)
  | rake
deriving DecidableEq, Repr

/-- Hold reasons (R75). -/
inductive Hold where
  | none | spacing | budget
deriving DecidableEq, Repr

/-- A start queue entry (R75). -/
structure QEntry where
  motor    : Motor
  enqueued : Nat
  hold     : Hold
deriving DecidableEq, Repr

/-- The Start Controller. Of the motor table (R79) the RUN_FB column is held here; its other columns are views of the pump
records, the rake record and the constants (assumption 12). `genSeen` is the GEN_RUN level the active limit was last formed
from (R80). `heard` is the model's own: an event has reached the STC that it has not yet handled (assumption 10). -/
structure StartControl where
  queue         : List QEntry
  lastGrant     : Option Nat
  spacingExpiry : Option Nat
  genSeen       : Bool
  runFbSeen     : Vector Bool 6
  budgetSince   : Option Nat
  capacityHeld  : Bool
  shedPumps     : Vector Bool 6
  shedRake      : Bool
  loadShed      : Bool
  heard         : Bool
deriving DecidableEq, Repr

/-! ### Rake Controller (Chapter 7) -/

/-- Rake states (Table 7-3). -/
inductive RakeState where
  | idle | waiting | lowering | raising | reversing | discharging | resting | jammed
deriving DecidableEq, Repr

/-- Jam causes (Table 7-2). -/
inductive JamCause where
  | torque | travelLower | travelRaise
deriving DecidableEq, Repr

/-- The rake record (Table 7-2). The interval expiry is `Station.intervalExpiry`, a view of the origin and the length. -/
structure Rake where
  state          : RakeState
  homing         : Bool
  jamCause       : Option JamCause
  demand         : Bool
  retries        : Nat
  drivePending   : Bool
  timer          : Option Nat
  lastCycleEnd   : Option Nat
  intervalOrigin : Nat
  shortInterval  : Bool
  lastDiff       : Option Int
  blindCount     : Nat
  blinded        : Bool
  cyclesToday    : Nat
  jamsToday      : Nat
  cyclesTotal    : Nat
  stateChange    : Nat
deriving DecidableEq, Repr

/-! ### Overflow Monitor and Trace Buffer (Chapter 8) -/

/-- Monitor states (Table 8-4). -/
inductive MonState where
  | quiet | onset | spilling | easing
deriving DecidableEq, Repr

/-- Condition flags of an event (Table 8-3). -/
structure EventFlags where
  capacityHeld  : Bool
  screenBlinded : Bool
  levelDegraded : Bool
  curveChanged  : Bool
  clockChanged  : Bool
  weirGap       : Bool
  saturated     : Bool
deriving DecidableEq, Repr

/-- Close reasons (Table 8-3). -/
inductive CloseReason where
  | normal | reset
deriving DecidableEq, Repr

/-- The event record (Table 8-3). -/
structure EventRec where
  number       : Nat
  isOpen       : Bool
  openTime     : Nat
  closeTime    : Option Nat
  spillSeconds : Nat
  gapSeconds   : Nat
  peakHead     : Nat
  peakFlow     : Nat
  volume       : Nat
  flags        : EventFlags
  closeReason  : Option CloseReason
deriving DecidableEq, Repr

/-- The monitor record (Table 8-2) with the event record. -/
structure Overflow where
  state        : MonState
  onsetCount   : Nat
  provisional  : Nat
  onsetTime    : Option Nat
  onsetHead    : Option Nat
  onsetFlow    : Option Nat
  easingCount  : Nat
  eventCounter : Nat
  lastHead     : Option Nat
  lastFlow     : Option Nat
  event        : Option EventRec
deriving DecidableEq, Repr

/-- Trace states (R148). -/
inductive TraceState where
  | live | triggered | frozen
deriving DecidableEq, Repr

/-- A trace entry (Table 8-7). -/
structure TraceEntry where
  stationTime : Nat
  w           : Option Nat
  source      : Source
  inlet       : Option Nat
  head        : Option Nat
  qIn         : Option Nat
  running     : Vector Bool 6
  rake        : RakeState
deriving DecidableEq, Repr

/-- The Trace Buffer (R147); entries oldest first. -/
structure Trace where
  entries       : List TraceEntry
  state         : TraceState
  postCount     : Nat
  triggerUptime : Option Nat
  divider       : Nat
deriving DecidableEq, Repr

/-! ### Alarm Table (Chapter 9) -/

/-- Point states (Table 9-2). -/
inductive PointState where
  | normal | activeUnack | activeAck | clearedUnack
deriving DecidableEq, Repr

/-- A point record (R153); the priority stands among the station constants (R158). -/
structure PointRec where
  state       : PointState
  condition   : Bool
  firstActive : Nat
  lastChange  : Nat
  occurrences : Nat
deriving DecidableEq, Repr

/-- One port's masks and pending set (R159); bit n - 1 stands for point n (R190). -/
structure Attention where
  rise    : BitVec 32
  fall    : BitVec 32
  pending : BitVec 32
deriving DecidableEq, Repr

/-- The Alarm Table. -/
structure AlarmTable where
  points       : Vector PointRec 32
  attnA        : Attention
  attnB        : Attention
  beaconDemand : Bool
deriving DecidableEq, Repr

/-! ### Station Clock, Daily Summary and Report Queue (Chapter 10) -/

/-- The accumulators of the summary in force (Table 10-1) that the RPQ itself holds; the per-pump and rake figures stand in
the PRUs and the RKC until the close (R166, R175). -/
structure Summary where
  day             : Nat
  clockNotSet     : Bool
  clockChanged    : Bool
  partialDay      : Bool
  eventOpenAtEnd  : Bool
  overflowVolume  : Nat
  overflowSeconds : Nat
  eventsOpened    : Nat
  maxW            : Option Nat
  minW            : Option Nat
  peakQin         : Option Nat
  floatSeconds    : Nat
  genSeconds      : Nat
  budgetSeconds   : Nat
deriving DecidableEq, Repr

/-- A closed daily summary: every field of Table 10-1. -/
structure DailyRec where
  summary    : Summary
  starts     : Vector Nat 6
  runSeconds : Vector Nat 6
  pumped     : Vector Nat 6
  rakeCycles : Nat
  rakeJams   : Nat
deriving DecidableEq, Repr

/-- Kinds of STATION record (Table 10-2). -/
inductive StationKind where
  | powerUp | softReset | settingsDefault
  | clockSet (oldTime newTime : Nat)
deriving DecidableEq, Repr

/-- Record bodies (Table 10-2). -/
inductive RecordBody where
  | alarmChange (point : PointNo) (state : PointState)
  | station (kind : StationKind)
  | overflowOpen (event openTime head : Nat)
  | daily (d : DailyRec)
  | overflowClose (e : EventRec)
deriving DecidableEq, Repr

/-- A report record (R169); type and class follow from the body (Table 10-2). -/
structure Report where
  seq     : Nat
  created : Nat
  body    : RecordBody
deriving DecidableEq, Repr

/-- The Report Queue and Station Clock; the queue stands oldest first. `nextSecond` is the uptime of the next one-second
advance (R164). -/
structure ReportQueue where
  stationTime : Nat
  clockNotSet : Bool
  nextSecond  : Nat
  summary     : Summary
  queue       : List Report
  nextSeq     : Nat
deriving DecidableEq, Repr

/-! ### Port units and Settings Store (Chapter 11) -/

/-- Reply statuses (Table 11-6). -/
inductive ReplyStatus where
  | none | done | pending | refusedFormat | refusedAuthority | refusedRange | refusedState | refusedBusy | refusedStale
deriving DecidableEq, Repr

/-- The reply slot (R176, Table 11-6). -/
structure Slot where
  status : ReplyStatus
  code   : Byte
  data   : List Byte
deriving DecidableEq, Repr

/-- The request whose reply stands PENDING in a slot (R178). -/
inductive PendingRequest where
  | commit (c : CurveId)
  | save
deriving DecidableEq, Repr

/-- What a port latched at the fall of select: the status byte and the slot (R176). -/
structure Latched where
  statusByte : Byte
  slot       : Slot
deriving DecidableEq, Repr

/-- A port's trace window (R150). -/
structure Window where
  start : Nat
  stop  : Nat
  next  : Nat
deriving DecidableEq, Repr

/-- A port unit: reply slot, pending request, read indication, not-taken flag, the output latched for the select period in
progress, trace window (R176 to R178, R150). -/
structure Port where
  slot     : Slot
  awaits   : Option PendingRequest
  readInd  : Bool
  notTaken : Bool
  latched  : Option Latched
  window   : Window
deriving DecidableEq, Repr

/-- The 58 station constants, in the field order of R182. -/
structure Constants where
  utilityLimit  : Nat
  genLimit      : Nat
  startSpacing  : Nat
  rakeKw        : Nat
  diffStart     : Nat
  diffHigh      : Nat
  blindCycles   : Nat
  intervalMin   : Nat
  lowerMax      : Nat
  raiseMax      : Nat
  reverseTime   : Nat
  retries       : Nat
  dwell         : Nat
  restTime      : Nat
  ovfStart      : Nat
  ovfEnd        : Nat
  onCycles      : Nat
  offCycles     : Nat
  traceInterval : Nat
  debFast       : Nat
  debMotion     : Nat
  debSlow       : Nat
  inflowWindow  : Nat
  disagree      : Nat
  priorities    : Vector Nat 32
  thresholdA    : Nat
  thresholdB    : Nat
deriving DecidableEq, Repr

/-- The items of the store image (R183). The rotation list, the alternation mode and the rounding mode are kept as the numbers
and codes that they are stored as, since a restored one may be judged unfit (R62, R186). -/
structure StoredItems where
  wellA        : ChanSettings
  wellB        : ChanSettings
  inlet        : ChanSettings
  weir         : ChanSettings
  pumps        : Vector PumpSettings 6
  rotation     : List Nat
  altMode      : Nat
  setpoints    : Setpoints
  constants    : Constants
  roundMode    : Nat
  masks        : FlagSet
  volumeCurve  : CurveCopy
  weirCurve    : CurveCopy
  startsTotal  : Vector Nat 6
  runTotal     : Vector Nat 6
  cyclesTotal  : Nat
  eventCounter : Nat
deriving DecidableEq, Repr

/-- The nonvolatile image (R183). -/
structure Image where
  items     : StoredItems
  writeMark : Bool
  check     : BitVec 16
deriving DecidableEq, Repr

/-- Coverage of a port's save (R184). -/
inductive Coverage where
  | none | current | followUp
deriving DecidableEq, Repr

/-- Outcome of the last store write (R181). -/
inductive WriteOutcome where
  | none | done | failed
deriving DecidableEq, Repr

/-- A store write in flight: the items it copied when it began and the uptime by which it ends (R184). -/
structure StoreWrite where
  items    : StoredItems
  deadline : Nat
deriving DecidableEq, Repr

/-- The Settings Store; the write-in-flight flag is whether `inFlight` holds a write. -/
structure Store where
  image     : Image
  inFlight  : Option StoreWrite
  followUp  : Bool
  coverA    : Coverage
  coverB    : Coverage
  outcome   : WriteOutcome
  writes    : Nat
  fellBack  : Bool
deriving DecidableEq, Repr

/-! ### The machine -/

/-- The station: everything but the queue of commands. `held` while the part is held in reset (R187); `clock` counts 10 ms
steps since the power-up; `draws` is the model's own: how many free values have been drawn (assumption 5). -/
structure Station where
  held    : Bool
  clock   : Nat
  lve     : LevelEngine
  crv     : CurveStore
  ctu     : ContactUnit
  dty     : Duty
  stc     : StartControl
  pumps   : Vector PumpRec 6
  rkc     : Rake
  ofm     : Overflow
  trb     : Trace
  alt     : AlarmTable
  rpq     : ReportQueue
  portA   : Port
  portB   : Port
  consts  : Constants
  sst     : Store
  draws   : Nat
deriving DecidableEq, Repr

/-- The machine: the station and the commands that are waiting, first in, first out. -/
structure State where
  st      : Station
  pending : List Instr
deriving DecidableEq, Repr

/-! ### Defaults (the default columns of the tables) and the state each block takes at a power-up -/

/-- Defaults of Table 1-2. -/
def ChanSettings.default : ChanSettings := { span := 5000, offset := 0, shift := 2 }

/-- Every flag clear, every flag unmasked. -/
def FlagSet.clear : FlagSet :=
  { scaleClamp := false, curveLow := false, curveHigh := false, inflowNeg := false, saturated := false }

/-- Default VOLUME curve (Table 2-5). -/
def CurveCopy.defaultVolume : CurveCopy :=
  { n := 2, slots := (Vector.replicate 16 ⟨0, 0⟩).set 1 ⟨30000, 3000000⟩ }

/-- Default WEIR curve (Table 2-5). -/
def CurveCopy.defaultWeir : CurveCopy :=
  { n := 2, slots := (Vector.replicate 16 ⟨0, 0⟩).set 1 ⟨1000, 2000⟩ }

/-- Defaults of Table 4-1 but for `installed`. -/
def PumpSettings.default (installed : Bool) : PumpSettings :=
  { installed := installed, ratedFlow := 150, ratedPower := 150, minRun := 60, minOff := 30, maxStarts := 6,
    confirmTime := 5, stopConfirmTime := 5 }

/-- Pumps 1 and 2 installed (Table 4-1). -/
def PumpSettings.defaults : Vector PumpSettings 6 :=
  #v[.default true, .default true, .default false, .default false, .default false, .default false]

/-- Defaults of Table 4-3. -/
def Setpoints.default : Setpoints :=
  { start := #v[1500, 1900, 2300, 2700, 3100, 3500], stop := #v[800, 900, 1000, 1100, 1200, 1300],
    highAlarm := 4000, lowAlarm := 600, lowCutoff := 500, anticipate := 200, margin := 20, floatDemand := 2 }

/-- Default priorities of points 1 to 32 (Table 9-1). -/
def Constants.defaultPriorities : Vector Nat 32 :=
  #v[1, 1, 1, 1, 1, 1, 2, 2, 2, 2, 2, 2, 1, 1, 3, 3, 2, 2, 1, 3, 2, 1, 2, 2, 3, 2, 3, 2, 3, 3, 3, 2]

/-- Defaults of Tables 5-2, 7-1, 8-1, 3-2 and 9-1, and of R147, R21, R15 and R161. -/
def Constants.default : Constants :=
  { utilityLimit := 1200, genLimit := 600, startSpacing := 10, rakeKw := 55, diffStart := 150, diffHigh := 400,
    blindCycles := 60, intervalMin := 30, lowerMax := 40, raiseMax := 60, reverseTime := 2, retries := 2, dwell := 5,
    restTime := 20, ovfStart := 20, ovfEnd := 10, onCycles := 5, offCycles := 120, traceInterval := 5, debFast := 50,
    debMotion := 20, debSlow := 500, inflowWindow := 8, disagree := 150, priorities := Constants.defaultPriorities,
    thresholdA := 0, thresholdB := 1 }

/-- What the store hands out when it falls back to defaults (R186). -/
def StoredItems.defaults : StoredItems :=
  { wellA := .default, wellB := .default, inlet := .default, weir := .default, pumps := PumpSettings.defaults,
    rotation := [1, 2], altMode := 0, setpoints := .default, constants := .default, roundMode := 0, masks := .clear,
    volumeCurve := .defaultVolume, weirCurve := .defaultWeir, startsTotal := Vector.replicate 6 0,
    runTotal := Vector.replicate 6 0, cyclesTotal := 0, eventCounter := 0 }

/-- A channel at power-up (R8, R7). -/
def Channel.powerUp (c : ChanSettings) : Channel :=
  { settings := c, state := .failed, sample := .none, raw := 0, filter := 0, level := 0, badRun := 0, goodRun := 0 }

/-- The Level Engine at power-up (R1, R8, R14, R16, R23, R25, R26). -/
def LevelEngine.powerUp (a b i w : ChanSettings) (mode : RoundMode) (masks : FlagSet) : LevelEngine :=
  { wellA := .powerUp a, wellB := .powerUp b, inlet := .powerUp i, weir := .powerUp w,
    arith := { mode := mode, flags := .clear, masks := masks }, disagreeRun := 0, ring := [], published := none,
    highLevel := false, lowLevel := false, nextCycle := 10, fresh := true }

/-- A curve at power-up: the shadow is a copy of the active copy (R43). -/
def Curve.powerUp (c : CurveCopy) : Curve := { active := c, shadow := c, mark := none }

/-- An input at power-up: a candidate begins against the raw level (R45, R48). -/
def InputRec.powerUp (ms : Nat) (raw : Bool) : InputRec :=
  { raw := raw, settled := false, hasSettled := false, candidate := some ⟨0, ms⟩, lastChange := none }

/-- The Duty Controller at power-up (R74). -/
def Duty.powerUp (rotation : List PumpNo) (mode : AltMode) (sp : Setpoints) : Duty :=
  { rotation := rotation, mode := mode, altMark := false, setpoints := sp, held := 0, effective := 0, hand := 0,
    need := 0, unmet := 0, lastSource := none,
    mods := { anticipation := false, highFloor := false, lowCutoff := false, floatFloor := false }, cutoff := false,
    orders := Vector.replicate 6 none }

/-- A pump record at power-up (R113). -/
def PumpRec.powerUp (c : PumpSettings) (startsTotal runTotal : Nat) : PumpRec :=
  { settings := c, state := if c.installed then .off else .uninstalled, cause := none, demand := false, shed := false,
    deferred := .none, inhibit := false, runLost := false, minRunElapsed := false, timer := none, history := [],
    startsToday := 0, runToday := 0, startsTotal := startsTotal, runTotal := runTotal, stateChange := 0 }

/-- The Start Controller at power-up (R90). -/
def StartControl.powerUp : StartControl :=
  { queue := [], lastGrant := none, spacingExpiry := none, genSeen := false, runFbSeen := Vector.replicate 6 false,
    budgetSince := none, capacityHeld := false, shedPumps := Vector.replicate 6 false, shedRake := false,
    loadShed := false, heard := false }

/-- The Rake Controller at power-up (R132). -/
def Rake.powerUp (cyclesTotal : Nat) : Rake :=
  { state := .idle, homing := false, jamCause := none, demand := false, retries := 0, drivePending := false,
    timer := none, lastCycleEnd := none, intervalOrigin := 0, shortInterval := true, lastDiff := none, blindCount := 0,
    blinded := false, cyclesToday := 0, jamsToday := 0, cyclesTotal := cyclesTotal, stateChange := 0 }

/-- The Overflow Monitor at power-up (R146). -/
def Overflow.powerUp (eventCounter : Nat) : Overflow :=
  { state := .quiet, onsetCount := 0, provisional := 0, onsetTime := none, onsetHead := none, onsetFlow := none,
    easingCount := 0, eventCounter := eventCounter, lastHead := none, lastFlow := none, event := none }

/-- The Trace Buffer at power-up (R152). -/
def Trace.powerUp : Trace := { entries := [], state := .live, postCount := 0, triggerUptime := none, divider := 0 }

/-- An alarm point at power-up (R163). -/
def PointRec.powerUp : PointRec :=
  { state := .normal, condition := false, firstActive := 0, lastChange := 0, occurrences := 0 }

/-- A port's masks and pending set at power-up (R163). -/
def Attention.powerUp : Attention := { rise := 0xFFFFFFFF, fall := 0, pending := 0 }

/-- The Alarm Table at power-up (R163). -/
def AlarmTable.powerUp : AlarmTable :=
  { points := Vector.replicate 32 .powerUp, attnA := .powerUp, attnB := .powerUp, beaconDemand := false }

/-- A summary newly begun for a day: the starting values of Table 10-1. -/
def Summary.begun (day : Nat) (clockNotSet partialDay : Bool) : Summary :=
  { day := day, clockNotSet := clockNotSet, clockChanged := false, partialDay := partialDay, eventOpenAtEnd := false,
    overflowVolume := 0, overflowSeconds := 0, eventsOpened := 0, maxW := none, minW := none, peakQin := none,
    floatSeconds := 0, genSeconds := 0, budgetSeconds := 0 }

/-- The Report Queue and Station Clock at power-up, before any record (R164, R167, R174). -/
def ReportQueue.powerUp : ReportQueue :=
  { stationTime := 0, clockNotSet := true, nextSecond := 10, summary := .begun 0 true true, queue := [], nextSeq := 0 }

/-- A port unit at power-up (R178, R187, R152). -/
def Port.powerUp : Port :=
  { slot := { status := .none, code := 0, data := [] }, awaits := none, readInd := false, notTaken := false,
    latched := none, window := { start := 0, stop := 255, next := 0 } }

/-- The Settings Store at power-up, keeping its image (R186). -/
def Store.powerUp (image : Image) (fellBack : Bool) : Store :=
  { image := image, inFlight := none, followUp := false, coverA := .none, coverB := .none, outcome := .none,
    writes := 0, fellBack := fellBack }

/-- The Contact Unit at power-up with every terminal at the off level: an open input reads off (section 11.9). -/
def ContactUnit.powerUpOpen (c : Constants) : ContactUnit :=
  { hoaHand := Vector.replicate 6 (.powerUp c.debSlow false), hoaAuto := Vector.replicate 6 (.powerUp c.debSlow false),
    runFb := Vector.replicate 6 (.powerUp c.debFast false), pumpFault := Vector.replicate 6 (.powerUp c.debFast false),
    limTop := .powerUp c.debMotion false, limBottom := .powerUp c.debMotion false,
    torqueTrip := .powerUp c.debMotion false, skipFull := .powerUp c.debSlow false,
    floatHigh := .powerUp c.debSlow false, floatLow := .powerUp c.debSlow false,
    modeRemote := .powerUp c.debSlow false, maintKey := .powerUp c.debSlow false, genRun := .powerUp c.debSlow false,
    selectors := Vector.replicate 6 { position := .off, conflict := false }, pumpRun := Vector.replicate 6 false,
    drive := .dead Config.deadInterval none, beacon := false }

/-- A store that has never been written: its write mark is set, so the image is unsound (DESIGN CHOICE, assumption 13). -/
def Image.blank : Image := { items := .defaults, writeMark := true, check := 0 }

/-- Point 32, SETTINGS_DEFAULT, once the fallback has been reported (R186, R154). -/
def PointRec.settingsDefaultRaised : PointRec :=
  { state := .activeUnack, condition := true, firstActive := 0, lastChange := 0, occurrences := 1 }

/-- The station right after a power-up of a part whose store has never been written, its contact terminals open: the store
falls back to defaults (R186), the records STATION(POWER_UP), STATION(SETTINGS_DEFAULT) and ALARM_CHANGE of point 32 stand in
the queue in that order (R174). -/
def Station.reset : Station :=
  { held := false, clock := 0,
    lve := .powerUp .default .default .default .default .nearestAway .clear,
    crv := { volume := .powerUp .defaultVolume, weir := .powerUp .defaultWeir },
    ctu := .powerUpOpen .default,
    dty := .powerUp [0, 1] .onCycle .default,
    stc := .powerUp,
    pumps := #v[.powerUp (.default true) 0 0, .powerUp (.default true) 0 0, .powerUp (.default false) 0 0,
      .powerUp (.default false) 0 0, .powerUp (.default false) 0 0, .powerUp (.default false) 0 0],
    rkc := .powerUp 0, ofm := .powerUp 0, trb := .powerUp,
    alt := { AlarmTable.powerUp with
      points := (Vector.replicate 32 .powerUp).set 31 .settingsDefaultRaised,
      attnA := { Attention.powerUp with pending := 0x80000000 },
      attnB := { Attention.powerUp with pending := 0x80000000 } },
    rpq := { ReportQueue.powerUp with
      queue := [⟨0, 0, .station .powerUp⟩, ⟨1, 0, .station .settingsDefault⟩, ⟨2, 0, .alarmChange 31 .activeUnack⟩],
      nextSeq := 3 },
    portA := .powerUp, portB := .powerUp, consts := .default, sst := .powerUp .blank true, draws := 0 }

/-- The machine right after reset: the station of `Station.reset` with no command waiting. -/
def State.reset : State := { st := .reset, pending := [] }

end Sys2Proof.Machine
end

