-- ==== Sys2Proof/Machine/Flags.lean ====
section
/-! DEFINITION. Rounding (R10), the sticky flags and what stands of them (R11, R12). -/

namespace Sys2Proof.Machine

/-- The exact quotient `num / den` rounded to an integer under a mode (R10, Table 1-5). -/
def roundDiv (mode : RoundMode) (num : Int) (den : Nat) : Int :=
  let q := num.natAbs / den
  let r := num.natAbs % den
  match mode with
  | .towardZero => num.sign * (q : Int)
  | .nearestAway => num.sign * (((2 * num.natAbs + den) / (2 * den) : Nat) : Int)
  | .nearestEven =>
    num.sign * ((if 2 * r < den then q else if den < 2 * r then q + 1 else if q % 2 = 0 then q else q + 1 : Nat) : Int)

/-- The round mode of a code of Table 1-5. -/
def RoundMode.ofCode : Nat → Option RoundMode
  | 0 => some .nearestAway
  | 1 => some .nearestEven
  | 2 => some .towardZero
  | _ => none

/-- The code of a mode (Table 1-5). -/
def RoundMode.code : RoundMode → Nat
  | .nearestAway => 0
  | .nearestEven => 1
  | .towardZero => 2

/-- Flags set by either of two sets of steps: a flag once set stays set (R11). -/
def FlagSet.or (f g : FlagSet) : FlagSet :=
  { scaleClamp := f.scaleClamp || g.scaleClamp, curveLow := f.curveLow || g.curveLow,
    curveHigh := f.curveHigh || g.curveHigh, inflowNeg := f.inflowNeg || g.inflowNeg,
    saturated := f.saturated || g.saturated }

/-- The flags of `f` that `g` does not name: a clear-set taken away (R13), or a mask applied. -/
def FlagSet.without (f g : FlagSet) : FlagSet :=
  { scaleClamp := f.scaleClamp && !g.scaleClamp, curveLow := f.curveLow && !g.curveLow,
    curveHigh := f.curveHigh && !g.curveHigh, inflowNeg := f.inflowNeg && !g.inflowNeg,
    saturated := f.saturated && !g.saturated }

/-- The indications in the order of Table 1-6. -/
def FlagSet.toList (f : FlagSet) : List Bool := [f.scaleClamp, f.curveLow, f.curveHigh, f.inflowNeg, f.saturated]

/-- The flags that stand: set and unmasked (section 1.6). -/
def ArithControl.standing (a : ArithControl) : FlagSet := a.flags.without a.masks

/-- CURVE_RANGE: CURVE_LOW or CURVE_HIGH stands (R12). -/
def ArithControl.curveRange (a : ArithControl) : Bool := a.standing.curveLow || a.standing.curveHigh

/-- ARITH_SATURATED: SATURATED stands (R12). -/
def ArithControl.arithSaturated (a : ArithControl) : Bool := a.standing.saturated

/-- The notice indication: SCALE_CLAMP or INFLOW_NEG stands (R12). -/
def ArithControl.notice (a : ArithControl) : Bool := a.standing.scaleClamp || a.standing.inflowNeg

end Sys2Proof.Machine
end

