-- ==== Sys2Proof/Machine/Ops.lean ====
section
/-! DEFINITION. The shared operations over the station: uptime and the moments at which timed events fall due, the input and
port records, the creation of report records, the movement of alarm points, the attention lines, finalisation of replies. -/

namespace Sys2Proof.Machine

/-! ### Small helpers -/

/-- Saturating addition (Introduction, Saturation). -/
def satAdd (top a b : Nat) : Nat := min top (a + b)

/-- The six pump positions in pump order. -/
def allPumps : List PumpNo := List.finRange 6

/-- The 32 points in point order. -/
def allPoints : List PointNo := List.finRange 32

/-- The pump position of a pump number 1 to 6. -/
def pumpOfNumber (k : Nat) : Option PumpNo := if h : 1 ≤ k ∧ k ≤ 6 then some ⟨k - 1, by omega⟩ else none

/-- The point of a point number 1 to 32. -/
def pointOfNumber (k : Nat) : Option PointNo := if h : 1 ≤ k ∧ k ≤ 32 then some ⟨k - 1, by omega⟩ else none

/-- The 33 inputs in the order of Table 3-1, each group of six in pump order. -/
def allInputs : List Input :=
  allPumps.map .hoaHand ++ allPumps.map .hoaAuto ++ allPumps.map .runFb ++ allPumps.map .pumpFault ++
  [.limTop, .limBottom, .torqueTrip, .skipFull, .floatHigh, .floatLow, .modeRemote, .maintKey, .genRun]

/-! ### Records reached by name -/

/-- The record of an input (R45). -/
def ContactUnit.input (c : ContactUnit) : Input → InputRec
  | .hoaHand n => c.hoaHand[n]
  | .hoaAuto n => c.hoaAuto[n]
  | .runFb n => c.runFb[n]
  | .pumpFault n => c.pumpFault[n]
  | .limTop => c.limTop
  | .limBottom => c.limBottom
  | .torqueTrip => c.torqueTrip
  | .skipFull => c.skipFull
  | .floatHigh => c.floatHigh
  | .floatLow => c.floatLow
  | .modeRemote => c.modeRemote
  | .maintKey => c.maintKey
  | .genRun => c.genRun

/-- Replace the record of an input. -/
def ContactUnit.setInput (c : ContactUnit) (r : InputRec) : Input → ContactUnit
  | .hoaHand n => { c with hoaHand := c.hoaHand.set n r }
  | .hoaAuto n => { c with hoaAuto := c.hoaAuto.set n r }
  | .runFb n => { c with runFb := c.runFb.set n r }
  | .pumpFault n => { c with pumpFault := c.pumpFault.set n r }
  | .limTop => { c with limTop := r }
  | .limBottom => { c with limBottom := r }
  | .torqueTrip => { c with torqueTrip := r }
  | .skipFull => { c with skipFull := r }
  | .floatHigh => { c with floatHigh := r }
  | .floatLow => { c with floatLow := r }
  | .modeRemote => { c with modeRemote := r }
  | .maintKey => { c with maintKey := r }
  | .genRun => { c with genRun := r }

/-- The settled level of an input: the level that every block and every reply uses (R45). -/
def Station.settled (st : Station) (i : Input) : Bool := (st.ctu.input i).settled

/-- The debounce time in milliseconds of an input's group (Table 3-2). -/
def Constants.debounce (c : Constants) : Input → Nat
  | .runFb _ | .pumpFault _ => c.debFast
  | .limTop | .limBottom | .torqueTrip => c.debMotion
  | .hoaHand _ | .hoaAuto _ | .skipFull | .floatHigh | .floatLow | .modeRemote | .maintKey | .genRun => c.debSlow

/-- A port unit. -/
def Station.port (st : Station) : PortId → Port
  | .a => st.portA
  | .b => st.portB

/-- Replace a port unit. -/
def Station.setPort (st : Station) (q : Port) : PortId → Station
  | .a => { st with portA := q }
  | .b => { st with portB := q }

/-- A port's masks and pending set (R159). -/
def AlarmTable.attn (t : AlarmTable) : PortId → Attention
  | .a => t.attnA
  | .b => t.attnB

/-- Replace a port's masks and pending set. -/
def AlarmTable.setAttn (t : AlarmTable) (q : Attention) : PortId → AlarmTable
  | .a => { t with attnA := q }
  | .b => { t with attnB := q }

/-- A port's REPORT_THRESHOLD (R161). -/
def Constants.threshold (c : Constants) : PortId → Nat
  | .a => c.thresholdA
  | .b => c.thresholdB

/-- A curve of the store. -/
def CurveStore.curve (c : CurveStore) : CurveId → Curve
  | .volume => c.volume
  | .weir => c.weir

/-- Replace a curve of the store. -/
def CurveStore.setCurve (c : CurveStore) (q : Curve) : CurveId → CurveStore
  | .volume => { c with volume := q }
  | .weir => { c with weir := q }

/-- Replace a pump record. -/
def Station.setPump (st : Station) (n : PumpNo) (p : PumpRec) : Station := { st with pumps := st.pumps.set n p }

/-- The number of installed pumps, npos (R57). -/
def Station.npos (st : Station) : Nat := allPumps.countP fun n => st.pumps[n].settings.installed

/-! ### Time -/

/-- Uptime in ticks of 0.1 s (Table 0-3). -/
def Station.uptime (st : Station) : Nat := st.clock / 10

/-- Seconds in ticks. -/
def secs (n : Nat) : Nat := 10 * n

/-- An uptime as a reply carries it, in 32 bits (assumption 4). -/
def shownUptime (u : Nat) : Nat := min Config.top32 u

/-- The 10 ms step at which a candidate has run its latched time (R46). -/
def Candidate.due (c : Candidate) : Nat := c.began + c.ms / 10

/-- The prune expiry: the uptime at which the oldest history entry ages out, 3,600.1 s after its grant (R110). -/
def PumpRec.pruneExpiry (p : PumpRec) : Option Nat := p.history.head?.map (· + 36001)

/-- The interval length in force, in ticks (R119). -/
def Station.intervalLength (st : Station) : Nat :=
  secs (60 * (if st.rkc.shortInterval then max 1 (st.consts.intervalMin / 4) else st.consts.intervalMin))

/-- The interval expiry: the interval origin plus the length in force (R119). -/
def Station.intervalExpiry (st : Station) : Nat := st.rkc.intervalOrigin + st.intervalLength

/-- The budget expiry: armed 60 s after the head came to be held for BUDGET, until CAPACITY_HELD turns on (R85). -/
def StartControl.budgetExpiry (c : StartControl) : Option Nat :=
  if c.capacityHeld then none else c.budgetSince.map (· + secs 60)

/-- The 10 ms step at which the rake drive's dead interval expires, 0.5 s after the turn-off that began it (R53, assumption 3). -/
def Drive.deadExpiry : Drive → Option Nat
  | .dead e _ => some e
  | .clear => none
  | .driven _ => none

/-- The uptimes at which the timed events fall due, but for the debounce and dead-interval expiries, which count 10 ms steps. -/
def Station.dueTicks (st : Station) : List Nat :=
  [st.lve.nextCycle, st.rpq.nextSecond, st.intervalExpiry] ++
  st.stc.spacingExpiry.toList ++ st.stc.budgetExpiry.toList ++ st.rkc.timer.toList ++
  allPumps.flatMap (fun n => st.pumps[n].timer.toList ++ st.pumps[n].pruneExpiry.toList) ++
  (st.sst.inFlight.map (·.deadline)).toList

/-- The 10 ms steps at which every timed event that is armed falls due. -/
def Station.dues (st : Station) : List Nat :=
  st.dueTicks.map (10 * ·) ++ st.ctu.drive.deadExpiry.toList ++
  allInputs.flatMap fun i => ((st.ctu.input i).candidate.map (·.due)).toList

/-- Time comes to the 10 ms step `due`. It is there already, or it moves on to it; it does not move past another timed event,
and then the answer is none (assumption 2). -/
def Station.reach (st : Station) (due : Nat) : Option Station :=
  if due ≤ st.clock then some st
  else if st.dues.all (due ≤ ·) then some { st with clock := due }
  else none

/-- What a timed event does: nothing where it is not armed or time cannot come to it, else its effect there (assumption 2). -/
def Station.atStep (st : Station) (due : Option Nat) (effect : Station → Station) : Station :=
  match due with
  | none => st
  | some d =>
    match st.reach d with
    | none => st
    | some st' => effect st'

/-- `Station.atStep` for an expiry held as an uptime. -/
def Station.atTick (st : Station) (expiry : Option Nat) (effect : Station → Station) : Station :=
  st.atStep (expiry.map (10 * ·)) effect

/-- Nothing but a power-up happens while the part is held in reset (R187). -/
def Station.live (st : Station) (effect : Station → Station) : Station := if st.held then st else effect st

/-- A command acts on the station, and the commands that are waiting stay as they are. -/
def State.on (s : State) (effect : Station → Station) : Host.Outcome State Fault Refusal :=
  .next { s with st := effect s.st }

/-! ### Report records (Chapter 10) -/

/-- The class of a record (Table 10-2). -/
def RecordBody.cls : RecordBody → Nat
  | .alarmChange _ _ => 0
  | .station _ => 0
  | .overflowOpen _ _ _ => 1
  | .daily _ => 2
  | .overflowClose _ => 3

/-- The lowest class present in a queue, none when it is empty. -/
def lowestClass : List Report → Option Nat
  | [] => none
  | r :: rs => some (match lowestClass rs with
    | none => r.body.cls
    | some c => min r.body.cls c)

/-- The queue without its oldest record of class `c`. -/
def dropOldestOf (c : Nat) : List Report → List Report
  | [] => []
  | r :: rs => if r.body.cls = c then rs else r :: dropOldestOf c rs

/-- A new record is appended, or appended over the oldest record of the lowest class present, or discarded (R171). -/
def addRecord (q : List Report) (r : Report) : List Report :=
  if q.length < Config.queueCap then q ++ [r]
  else match lowestClass q with
    | none => q ++ [r]
    | some c => if c ≤ r.body.cls then dropOldestOf c q ++ [r] else q

/-- A record is created: numbered, stamped and added; the number is consumed either way (R169). -/
def ReportQueue.create (q : ReportQueue) (body : RecordBody) : ReportQueue :=
  { q with queue := addRecord q.queue ⟨q.nextSeq, q.stationTime, body⟩, nextSeq := (q.nextSeq + 1) % 65536 }

/-- A block hands a record to the Report Queue. -/
def Station.record (st : Station) (body : RecordBody) : Station := { st with rpq := st.rpq.create body }

/-! ### Alarm points (Chapter 9) -/

/-- Points of Table 9-1 by name. -/
def Alarm.pumpFault (n : PumpNo) : PointNo := ⟨n.val, by omega⟩
def Alarm.runLost (n : PumpNo) : PointNo := ⟨6 + n.val, by omega⟩
def Alarm.highLevel : PointNo := 12
def Alarm.floatHigh : PointNo := 13
def Alarm.lowLevel : PointNo := 14
def Alarm.levelDisagree : PointNo := 15
def Alarm.wellAFailed : PointNo := 16
def Alarm.wellBFailed : PointNo := 17
def Alarm.sourceFloat : PointNo := 18
def Alarm.inletFailed : PointNo := 19
def Alarm.weirFailed : PointNo := 20
def Alarm.overflow : PointNo := 21
def Alarm.screenBlinded : PointNo := 22
def Alarm.rakeJammed : PointNo := 23
def Alarm.skipFull : PointNo := 24
def Alarm.capacityHeld : PointNo := 25
def Alarm.genRunning : PointNo := 26
def Alarm.loadShed : PointNo := 27
def Alarm.curveRange : PointNo := 28
def Alarm.startLimited : PointNo := 29
def Alarm.arithSaturated : PointNo := 30
def Alarm.settingsDefault : PointNo := 31

/-- Table 9-2, the condition turns on. -/
def PointState.turnOn : PointState → PointState
  | .normal => .activeUnack
  | .clearedUnack => .activeUnack
  | .activeUnack => .activeUnack
  | .activeAck => .activeAck

/-- Table 9-2, the condition turns off. -/
def PointState.turnOff : PointState → PointState
  | .activeUnack => .clearedUnack
  | .activeAck => .normal
  | .normal => .normal
  | .clearedUnack => .clearedUnack

/-- Table 9-2, ACK. -/
def PointState.ack : PointState → PointState
  | .activeUnack => .activeAck
  | .clearedUnack => .normal
  | .normal => .normal
  | .activeAck => .activeAck

/-- A point after a report that differs from the condition held (R154). -/
def PointRec.reported (p : PointRec) (on : Bool) (now : Nat) : PointRec :=
  if on then
    { state := p.state.turnOn, condition := true, firstActive := now, lastChange := now,
      occurrences := satAdd 255 p.occurrences 1 }
  else { p with state := p.state.turnOff, condition := false, lastChange := now }

/-- The bit of a point in a mask or set (R190). -/
def pointBit (k : PointNo) : BitVec 32 := 1#32 <<< k.val

/-- A qualifying transition adds the point to a port's pending set when the port's mask selects it (R159). -/
def Attention.qualify (q : Attention) (k : PointNo) (rising : Bool) : Attention :=
  if (if rising then q.rise else q.fall).getLsbD k.val then { q with pending := q.pending ||| pointBit k } else q

/-- The beacon demand: a point of priority 1 is ACTIVE_UNACK (R158). -/
def beaconJudged (points : Vector PointRec 32) (priorities : Vector Nat 32) : Bool :=
  allPoints.any fun k => points[k].state == .activeUnack && priorities[k] == 1

/-- The ALT re-judges the beacon demand and reports a change of it to the CTU, which drives BEACON (R158, R55). -/
def Station.judgeBeacon (st : Station) : Station :=
  let demand := beaconJudged st.alt.points st.consts.priorities
  { st with
    alt := { st.alt with beaconDemand := demand }
    ctu := { st.ctu with beacon := if demand = st.alt.beaconDemand then st.ctu.beacon else demand } }

/-- A point changes state: its record is replaced, an ALARM_CHANGE record is handed over, the beacon demand is re-judged
(R155). -/
def Station.movePoint (st : Station) (k : PointNo) (p : PointRec) : Station :=
  (({ st with alt := { st.alt with points := st.alt.points.set k p } }).record (.alarmChange k p.state)).judgeBeacon

/-- An owner reports a condition (R154): a report equal to the condition held changes nothing. -/
def Station.report (st : Station) (k : PointNo) (on : Bool) : Station :=
  if st.alt.points[k].condition = on then st
  else
    let st := st.movePoint k (st.alt.points[k].reported on st.rpq.stationTime)
    { st with alt := { st.alt with attnA := st.alt.attnA.qualify k on, attnB := st.alt.attnB.qualify k on } }

/-- The ALT acknowledges a point by the ACK column of Table 9-2 (R156). -/
def Station.ackPoint (st : Station) (k : PointNo) : Station :=
  let p := st.alt.points[k]
  if p.state.ack = p.state then st
  else st.movePoint k { p with state := p.state.ack, lastChange := st.rpq.stationTime }

/-! ### Sticky flags (section 1.6) -/

/-- The LVE evaluates CURVE_RANGE and ARITH_SATURATED and reports them (R12). -/
def Station.judgeArith (st : Station) : Station :=
  (st.report Alarm.curveRange st.lve.arith.curveRange).report Alarm.arithSaturated st.lve.arith.arithSaturated

/-- A block sets sticky flags, and both alarm conditions are evaluated (R11, R12). -/
def Station.raiseFlags (st : Station) (f : FlagSet) : Station :=
  let arith := { st.lve.arith with flags := st.lve.arith.flags.or f }
  ({ st with lve := { st.lve with arith := arith } }).judgeArith

/-- The set that holds SATURATED alone. -/
def FlagSet.saturatedOnly : FlagSet := { FlagSet.clear with saturated := true }

/-! ### Attention lines and the status byte (R161, R179) -/

/-- A final status: neither NONE nor PENDING. -/
def ReplyStatus.final : ReplyStatus → Bool
  | .none => false
  | .pending => false
  | .done | .refusedFormat | .refusedAuthority | .refusedRange | .refusedState | .refusedBusy | .refusedStale => true

/-- First source: the port's pending set is not empty. -/
def Station.pendingSource (st : Station) (p : PortId) : Bool := (st.alt.attn p).pending != 0

/-- Second source: a reply that has turned from PENDING to final stands unread (R178). The read indication is clear only from
a finalisation to the reading of its reply. -/
def Station.replySource (st : Station) (p : PortId) : Bool := (st.port p).slot.status.final && !(st.port p).readInd

/-- Third source: the report queue holds at least REPORT_THRESHOLD records. -/
def Station.queueSource (st : Station) (p : PortId) : Bool :=
  st.consts.threshold p != 0 && decide (st.consts.threshold p ≤ st.rpq.queue.length)

/-- The attention line is asserted (R161); both lines are released while the part is held in reset (R187). -/
def Station.attention (st : Station) (p : PortId) : Bool :=
  !st.held && (st.pendingSource p || st.replySource p || st.queueSource p)

/-! ### Replies -/

/-- A reply as an owner forms it: status, data and, for a PENDING one, the request that is waiting. -/
structure Reply where
  status : ReplyStatus
  data   : List Byte
  awaits : Option PendingRequest
deriving DecidableEq, Repr

/-- A reply that is final at intake. -/
def Reply.final (status : ReplyStatus) (data : List Byte) : Reply := ⟨status, data, none⟩

/-- DONE with data. -/
def Reply.done (data : List Byte) : Reply := .final .done data

/-- REFUSED_RANGE without data. -/
def Reply.range : Reply := .final .refusedRange []

/-- REFUSED_STATE without data. -/
def Reply.state : Reply := .final .refusedState []

/-- The reply slot is replaced at an intake: the read indication is set and the not-taken flag cleared (R177, R178). -/
def Station.putReply (st : Station) (p : PortId) (code : Byte) (r : Reply) : Station :=
  st.setPort { st.port p with
    slot := ⟨r.status, code, r.data⟩, awaits := r.awaits, readInd := true, notTaken := false } p

/-- A PENDING reply turns final, while the slot still holds the PENDING reply of that request (R178). -/
def Station.finalise (st : Station) (p : PortId) (req : PendingRequest) (status : ReplyStatus) (data : List Byte) :
    Station :=
  let q := st.port p
  if q.slot.status = .pending ∧ q.awaits = some req then
    st.setPort { q with slot := { q.slot with status := status, data := data }, awaits := none, readInd := false } p
  else st

end Sys2Proof.Machine
end

