-- ==== Sys2Proof/Machine/Layout.lean ====
section
/-! DEFINITION. Codes and record layouts of section 11.8 (R190). A code that no table numbers takes 0, 1 and so on in the order
in which its rule first lists the values; a value "none" that a rule adds to a list takes the next number (assumption 17). -/

namespace Sys2Proof.Machine

/-! ### Codes -/

def ChanState.code : ChanState → Nat
  | .ok => 0 | .suspect => 1 | .failed => 2 | .recovering => 3

/-- Table 1-3 in its order, then NONE. -/
def SampleClass.code : SampleClass → Nat
  | .under => 0 | .clamped => 1 | .good => 2 | .over => 3 | .none => 4

/-- Table 11-11. -/
def Source.code : Source → Nat
  | .dual => 0 | .singleA => 1 | .singleB => 2 | .float => 3

/-- Table 11-10's neighbour R190: position codes. -/
def Position.code : Position → Nat
  | .off => 0 | .hand => 1 | .auto => 2

/-- Table 6-2 in its order. -/
def PumpState.code : PumpState → Nat
  | .uninstalled => 0 | .off => 1 | .hand => 2 | .inhibited => 3 | .ready => 4 | .waiting => 5 | .starting => 6
  | .running => 7 | .stopping => 8 | .resting => 9 | .faulted => 10

/-- Table 6-1, absent as its first value (assumption 17): absent, FAIL_TO_START, FAIL_TO_STOP, MOTOR_FAULT, UNCOMMANDED_RUN. -/
def causeCode : Option PumpCause → Nat
  | none => 0
  | some .failToStart => 1 | some .failToStop => 2 | some .motorFault => 3 | some .uncommandedRun => 4

/-- Table 6-1: none, NORMAL, CUTOFF. -/
def Deferred.code : Deferred → Nat
  | .none => 0 | .normal => 1 | .cutoff => 2

/-- R75: P1 to P6 and RAKE. -/
def Motor.code : Motor → Nat
  | .pump n => n.val
  | .rake => 6

/-- R75: none, SPACING, BUDGET. -/
def Hold.code : Hold → Nat
  | .none => 0 | .spacing => 1 | .budget => 2

/-- Table 4-5 in its order, then none. -/
def orderCode : Option Order → Nat
  | some .start => 0 | some .keep => 1 | some .stop => 2 | some .cutoffStop => 3 | some .withdraw => 4
  | none => 5

/-- Table 4-2. -/
def AltMode.code : AltMode → Nat
  | .onCycle => 0 | .onHours => 1 | .fixed => 2

/-- The mode of a code of Table 4-2. -/
def AltMode.ofCode : Nat → Option AltMode
  | 0 => some .onCycle
  | 1 => some .onHours
  | 2 => some .fixed
  | _ => none

/-- Table 7-3 in its order (Table 11-11). -/
def RakeState.code : RakeState → Nat
  | .idle => 0 | .waiting => 1 | .lowering => 2 | .raising => 3 | .reversing => 4 | .discharging => 5 | .resting => 6
  | .jammed => 7

/-- Table 7-2, absent as its first value (assumption 17): absent, TORQUE, TRAVEL_LOWER, TRAVEL_RAISE. -/
def jamCode : Option JamCause → Nat
  | none => 0
  | some .torque => 1 | some .travelLower => 2 | some .travelRaise => 3

/-- R53: CLEAR, DOWN, UP, DEAD. -/
def Drive.code : Drive → Nat
  | .clear => 0 | .driven .down => 1 | .driven .up => 2 | .dead _ _ => 3

/-- The waiting direction: R53 lists none, DOWN and UP. READ RAKE shows the direction driven with the same codes: assumption 17, DESIGN
CHOICE. -/
def dirCode : Option Dir → Nat
  | none => 0
  | some .down => 1 | some .up => 2

/-- Table 8-2's states in the order of Table 8-4. -/
def MonState.code : MonState → Nat
  | .quiet => 0 | .onset => 1 | .spilling => 2 | .easing => 3

/-- Table 11-9: 0 absent, 1 NORMAL, 2 RESET. -/
def closeCode : Option CloseReason → Nat
  | none => 0
  | some .normal => 1 | some .reset => 2

/-- R148: LIVE, TRIGGERED, FROZEN. -/
def TraceState.code : TraceState → Nat
  | .live => 0 | .triggered => 1 | .frozen => 2

/-- Table 11-8. -/
def PointState.code : PointState → Nat
  | .normal => 0 | .activeUnack => 1 | .activeAck => 2 | .clearedUnack => 3

/-- R181: NONE, DONE, FAILED. -/
def WriteOutcome.code : WriteOutcome → Nat
  | .none => 0 | .done => 1 | .failed => 2

/-- Table 11-6. -/
def ReplyStatus.code : ReplyStatus → Nat
  | .none => 0 | .done => 1 | .pending => 2 | .refusedFormat => 3 | .refusedAuthority => 4 | .refusedRange => 5
  | .refusedState => 6 | .refusedBusy => 7 | .refusedStale => 8

/-- Table 2-1. -/
def CurveId.code : CurveId → Nat
  | .volume => 0 | .weir => 1

/-- The curve of a code of Table 2-1. -/
def CurveId.ofCode : Nat → Option CurveId
  | 0 => some .volume
  | 1 => some .weir
  | _ => none

/-- R190: 0 WELL_A, 1 WELL_B, 2 INLET, 3 WEIR. -/
def ChanName.ofCode : Nat → Option ChanName
  | 0 => some .wellA
  | 1 => some .wellB
  | 2 => some .inlet
  | 3 => some .weir
  | _ => none

/-! ### Settings as fields -/

/-- The widths of a channel's settings (Table 1-2). -/
def ChanSettings.widths : List Nat := [2, 2, 1]

def ChanSettings.ofValues (v : List Nat) : ChanSettings := { span := nth v 0, offset := nth v 1, shift := nth v 2 }

def ChanSettings.values (c : ChanSettings) : List Nat := [c.span, c.offset, c.shift]

/-- The widths of Table 11-10. -/
def PumpSettings.widths : List Nat := [1, 2, 2, 2, 2, 1, 1, 1]

def PumpSettings.ofValues (v : List Nat) : PumpSettings :=
  { installed := nth v 0 == 1, ratedFlow := nth v 1, ratedPower := nth v 2, minRun := nth v 3, minOff := nth v 4,
    maxStarts := nth v 5, confirmTime := nth v 6, stopConfirmTime := nth v 7 }

def PumpSettings.values (c : PumpSettings) : List Nat :=
  [if c.installed then 1 else 0, c.ratedFlow, c.ratedPower, c.minRun, c.minOff, c.maxStarts, c.confirmTime,
   c.stopConfirmTime]

/-- The widths of the setpoint table's fields, in the order of Table 4-3. -/
def Setpoints.widths : List Nat := List.replicate 17 2 ++ [1]

def Setpoints.ofValues (v : List Nat) : Setpoints :=
  { start := #v[nth v 0, nth v 1, nth v 2, nth v 3, nth v 4, nth v 5],
    stop := #v[nth v 6, nth v 7, nth v 8, nth v 9, nth v 10, nth v 11],
    highAlarm := nth v 12, lowAlarm := nth v 13, lowCutoff := nth v 14, anticipate := nth v 15, margin := nth v 16,
    floatDemand := nth v 17 }

def Setpoints.values (t : Setpoints) : List Nat :=
  t.start.toList ++ t.stop.toList ++ [t.highAlarm, t.lowAlarm, t.lowCutoff, t.anticipate, t.margin, t.floatDemand]

/-- The widths of the 58 station constants, in the field order of R182. -/
def Constants.widths : List Nat :=
  [2, 2, 1] ++ [2, 2, 2, 2, 1, 2, 2, 1, 1, 1, 2] ++ [2, 2, 1, 2] ++ [1] ++ [2, 2, 2] ++ [1, 2] ++
  List.replicate 32 1 ++ [1, 1]

def Constants.ofValues (v : List Nat) : Constants :=
  { utilityLimit := nth v 0, genLimit := nth v 1, startSpacing := nth v 2, rakeKw := nth v 3, diffStart := nth v 4,
    diffHigh := nth v 5, blindCycles := nth v 6, intervalMin := nth v 7, lowerMax := nth v 8, raiseMax := nth v 9,
    reverseTime := nth v 10, retries := nth v 11, dwell := nth v 12, restTime := nth v 13, ovfStart := nth v 14,
    ovfEnd := nth v 15, onCycles := nth v 16, offCycles := nth v 17, traceInterval := nth v 18, debFast := nth v 19,
    debMotion := nth v 20, debSlow := nth v 21, inflowWindow := nth v 22, disagree := nth v 23,
    priorities := Vector.ofFn fun k : Fin 32 => nth v (24 + k.val),
    thresholdA := nth v 56, thresholdB := nth v 57 }

def Constants.values (c : Constants) : List Nat :=
  [c.utilityLimit, c.genLimit, c.startSpacing, c.rakeKw, c.diffStart, c.diffHigh, c.blindCycles, c.intervalMin,
   c.lowerMax, c.raiseMax, c.reverseTime, c.retries, c.dwell, c.restTime, c.ovfStart, c.ovfEnd, c.onCycles, c.offCycles,
   c.traceInterval, c.debFast, c.debMotion, c.debSlow, c.inflowWindow, c.disagree] ++
  c.priorities.toList ++ [c.thresholdA, c.thresholdB]

/-- Values written with their widths. -/
def encode (widths values : List Nat) : List Byte := writeFields (widths.zip values)

/-! ### Ranges -/

/-- A value within a range. -/
def within (lo hi v : Nat) : Bool := decide (lo ≤ v) && decide (v ≤ hi)

/-- The tests of Table 1-2. -/
def ChanSettings.checks (c : ChanSettings) : List Bool :=
  [within 100 20000 c.span, within 0 10000 c.offset, within 0 5 c.shift]

/-- The tests of Table 4-1 on fields as carried, in its order. -/
def pumpFieldChecks (v : List Nat) : List Bool :=
  [within 0 1 (nth v 0), within 1 2000 (nth v 1), within 1 5000 (nth v 2), within 0 1800 (nth v 3),
   within 0 1800 (nth v 4), within 1 12 (nth v 5), within 1 60 (nth v 6), within 1 60 (nth v 7)]

/-- A debounce time: within its range and a whole multiple of 10 ms (R47). -/
def debounceOk (lo hi v : Nat) : Bool := within lo hi v && v % 10 == 0

/-- The tests of the 58 constants in the field order of R182: Tables 5-2, 7-1, 8-1, R147, Table 3-2, R21, R15, R158, R161. -/
def Constants.checks (c : Constants) : List Bool :=
  [within 0 65535 c.utilityLimit, within 0 65535 c.genLimit, within 1 120 c.startSpacing,
   within 0 65535 c.rakeKw, within 10 2000 c.diffStart, within (c.diffStart + 1) 5000 c.diffHigh,
   within 1 600 c.blindCycles, within 1 240 c.intervalMin, within 5 300 c.lowerMax, within 5 300 c.raiseMax,
   within 1 10 c.reverseTime, within 0 5 c.retries, within 1 60 c.dwell, within 5 600 c.restTime,
   within 1 1000 c.ovfStart, decide (c.ovfEnd < c.ovfStart), within 1 60 c.onCycles, within 1 900 c.offCycles,
   within 1 60 c.traceInterval,
   debounceOk 10 500 c.debFast, debounceOk 10 200 c.debMotion, debounceOk 100 2000 c.debSlow,
   within 2 16 c.inflowWindow, within 10 2000 c.disagree] ++
  c.priorities.toList.map (within 1 3) ++ [within 0 64 c.thresholdA, within 0 64 c.thresholdB]

/-- The number, from 1, of the first test that fails. -/
def firstFailing (checks : List Bool) : Option Nat := (checks.findIdx? (· == false)).map (· + 1)

/-- Restored settings: one found outside its range takes its default, the others are kept (R186). -/
def mendValues (checks : List Bool) (values defaults : List Nat) : List Nat :=
  (checks.zip (values.zip defaults)).map fun t => if t.1 then t.2.1 else t.2.2

/-! ### Records -/

/-- The copy of a curve as it is stored: count and sixteen slots, x in 2 bytes and y in 3 (R28, R183). -/
def CurveCopy.bytes (c : CurveCopy) : List Byte :=
  byte c.n ++ c.slots.toList.flatMap fun p => be 2 p.x ++ be 3 p.y

/-- One indication byte per flag. -/
def FlagSet.bytes (f : FlagSet) : List Byte := f.toList.flatMap flagByte

/-- The bytes of the store image between the write mark and the check word, item by item in the order of R183. Their sum does
not depend on the order (assumption 15). -/
def StoredItems.bytes (t : StoredItems) : List Byte :=
  [t.wellA, t.wellB, t.inlet, t.weir].flatMap (fun c => encode ChanSettings.widths c.values) ++
  t.pumps.toList.flatMap (fun c => encode PumpSettings.widths c.values) ++
  byte t.rotation.length ++ t.rotation.flatMap byte ++ byte t.altMode ++
  encode Setpoints.widths t.setpoints.values ++ encode Constants.widths t.constants.values ++
  byte t.roundMode ++ t.masks.bytes ++ t.volumeCurve.bytes ++ t.weirCurve.bytes ++
  t.startsTotal.toList.flatMap (be 4) ++ t.runTotal.toList.flatMap (be 4) ++ be 4 t.cyclesTotal ++ be 2 t.eventCounter

/-- The check word: 65,535 less the sum, modulo 65,536, of the bytes (R183). -/
def StoredItems.checkWord (t : StoredItems) : BitVec 16 :=
  BitVec.ofNat 16 (65535 - (t.bytes.map BitVec.toNat).sum % 65536)

/-- An image is sound when its write mark is clear and its check word agrees with its bytes (R183). -/
def Image.sound (m : Image) : Bool := !m.writeMark && m.check == m.items.checkWord

/-- The bytes of the short body of a STATION record (Table 11-8). -/
def StationKind.bytes : StationKind → List Byte
  | .powerUp => byte 0 ++ be 4 0 ++ be 4 0
  | .softReset => byte 1 ++ be 4 0 ++ be 4 0
  | .settingsDefault => byte 2 ++ be 4 0 ++ be 4 0
  | .clockSet old new => byte 3 ++ be 4 old ++ be 4 new

/-- The DAILY body (Table 11-9). -/
def DailyRec.bytes (d : DailyRec) : List Byte :=
  let s := d.summary
  be 2 s.day ++ [bitsByte [s.eventOpenAtEnd, s.partialDay, s.clockChanged, s.clockNotSet]] ++
  allPumps.flatMap (fun n => be 2 d.starts[n] ++ be 4 d.runSeconds[n] ++ be 2 d.pumped[n]) ++
  be 2 d.rakeCycles ++ be 2 d.rakeJams ++ be 3 s.overflowVolume ++ be 4 s.overflowSeconds ++ be 2 s.eventsOpened ++
  [presence [s.maxW, s.minW, s.peakQin]] ++ optField 2 s.maxW ++ optField 2 s.minW ++ optField 2 s.peakQin ++
  be 4 s.floatSeconds ++ be 4 s.genSeconds ++ be 4 s.budgetSeconds

/-- The condition flags of an event in one byte (Table 11-9). -/
def EventFlags.byte (f : EventFlags) : Byte :=
  bitsByte [f.saturated, f.weirGap, f.clockChanged, f.curveChanged, f.levelDegraded, f.screenBlinded, f.capacityHeld]

/-- The event record in the layout of the OVERFLOW_CLOSE body (Table 11-9). -/
def EventRec.bytes (e : EventRec) : List Byte :=
  be 2 e.number ++
  [BitVec.ofNat 8 ((if e.isOpen then 128 else 0) + (if e.closeTime.isSome then 64 else 0) + closeCode e.closeReason)] ++
  be 4 e.openTime ++ optField 4 e.closeTime ++ be 4 e.spillSeconds ++ be 4 e.gapSeconds ++ be 2 e.peakHead ++
  be 2 e.peakFlow ++ be 3 e.volume ++ [e.flags.byte]

/-- The type code of a record (Table 11-8). -/
def RecordBody.typeCode : RecordBody → Nat
  | .alarmChange _ _ => 0
  | .station _ => 1
  | .overflowOpen _ _ _ => 2
  | .daily _ => 3
  | .overflowClose _ => 4

/-- The body of a record (Tables 11-8 and 11-9). -/
def RecordBody.bytes : RecordBody → List Byte
  | .alarmChange k s => byte (k.val + 1) ++ byte s.code
  | .station kind => kind.bytes
  | .overflowOpen event openTime head => be 2 event ++ be 4 openTime ++ be 2 head
  | .daily d => d.bytes
  | .overflowClose e => e.bytes

/-- A report record: header and body (Table 11-8). -/
def Report.bytes (r : Report) : List Byte :=
  be 2 r.seq ++ be 4 r.created ++ byte r.body.typeCode ++ byte r.body.cls ++ byte r.body.bytes.length ++ r.body.bytes

/-- The pumps running of a trace entry: bit n - 1 for pump n (Table 11-11). -/
def pumpBits (v : Vector Bool 6) : Byte := bitsByte v.toList

/-- A trace entry as READ TRACE returns it (Table 11-11); an index past the newest entry reads as an empty entry. In SHORT form
the presence bits of the two fields left out are clear (assumption 17). -/
def traceBytes (long : Bool) (index : Nat) (entry : Option TraceEntry) : List Byte :=
  match entry with
  | none => byte index ++ be 4 0 ++ byte 128 ++ be 2 0 ++ byte 0 ++ be 2 0 ++ byte 0 ++ byte 0 ++
      (if long then be 2 0 ++ be 2 0 else [])
  | some e =>
    byte index ++ be 4 e.stationTime ++
    [if long then presence [e.w, e.head, e.inlet, e.qIn] else presence [e.w, e.head, none, none]] ++
    optField 2 e.w ++ byte e.source.code ++ optField 2 e.head ++ [pumpBits e.running] ++ byte e.rake.code ++
    (if long then optField 2 e.inlet ++ optField 2 e.qIn else [])

/-- The level update with its fields in the order of Table 1-8 (R25); the presence byte stands before the first field that may
be absent (assumption 17). -/
def LevelUpdate.bytes (u : LevelUpdate) : List Byte :=
  be 4 (shownUptime u.cycleUptime) ++ be 4 u.stationTime ++ [presence [u.w, u.v, u.qIn, u.inlet, u.head, u.qWeir]] ++
  optField 2 u.w ++ byte u.source.code ++ optField 3 u.v ++ optField 2 u.qIn ++ optField 2 u.inlet ++
  byte u.weirState.code ++ optField 2 u.head ++ optField 2 u.qWeir

end Sys2Proof.Machine
end

