-- ==== Sys2Proof/Machine/StartQueue.lean ====
section
/-! DEFINITION. The start queue and the loads (sections 5.1 and 5.2), the rotation list's alternation (section 4.4). -/

namespace Sys2Proof.Machine

/-! ### Queue order -/

/-- An event has reached the STC (R82, assumption 10). -/
def Station.ring (st : Station) : Station := { st with stc := { st.stc with heard := true } }

/-- Where a motor stands in the queue's fixed order: the RAKE in front of every pump while the screen is blinded and behind
every pump otherwise, pumps by their place in the rotation list (R76). -/
def queueKey (rotation : List PumpNo) (blinded : Bool) : Motor → Nat
  | .rake => if blinded then 0 else 100
  | .pump n => 1 + rotation.idxOf n

/-- Insert an entry behind those of no higher key. -/
def insertEntry (key : Motor → Nat) (e : QEntry) : List QEntry → List QEntry
  | [] => [e]
  | x :: xs => if key e.motor < key x.motor then e :: x :: xs else x :: insertEntry key e xs

/-- The queue in its fixed order. -/
def sortQueue (key : Motor → Nat) : List QEntry → List QEntry
  | [] => []
  | e :: es => insertEntry key e (sortQueue key es)

/-- Every entry behind the head has hold reason none (R75). -/
def clearTail : List QEntry → List QEntry
  | [] => []
  | e :: es => e :: es.map fun x => ({ x with hold := .none } : QEntry)

/-- A re-sort (R76): an entry that stops being the head takes hold reason none. -/
def Station.resort (st : Station) : Station :=
  { st with stc := { st.stc with
      queue := clearTail (sortQueue (queueKey st.dty.rotation st.rkc.blinded) st.stc.queue) } }

/-- The motor stands in the queue. -/
def Station.queued (st : Station) (m : Motor) : Bool := st.stc.queue.any fun e => e.motor == m

/-- An addition (R77): a motor that already has an entry changes nothing. -/
def Station.enqueue (st : Station) (m : Motor) : Station :=
  (if st.queued m then st
   else ({ st with stc := { st.stc with
      queue := st.stc.queue ++ [(⟨m, st.uptime, .none⟩ : QEntry)] } }).resort).ring

/-- Take a motor off the shed list (R88). -/
def StartControl.unshed (c : StartControl) : Motor → StartControl
  | .pump n => { c with shedPumps := c.shedPumps.set n false }
  | .rake => { c with shedRake := false }

/-- Put a motor on the shed list (R88). -/
def StartControl.addShed (c : StartControl) : Motor → StartControl
  | .pump n => { c with shedPumps := c.shedPumps.set n true }
  | .rake => { c with shedRake := true }

/-- Remove a motor's entry. -/
def Station.dequeue (st : Station) (m : Motor) : Station :=
  { st with stc := { st.stc with queue := st.stc.queue.filter fun e => e.motor != m } }

/-- A withdrawal by a PRU (R78); one naming a motor without an entry is ignored. -/
def Station.withdraw (st : Station) (m : Motor) : Station := (st.dequeue m).ring

/-- A withdrawal of the RAKE also takes it off the shed list (R88). -/
def Station.withdrawRake (st : Station) : Station :=
  let st := st.withdraw .rake
  { st with stc := st.stc.unshed .rake }

/-- A PRU reports that its shed mark has been cleared without a grant (R93): the pump leaves the shed list (R88). -/
def Station.reportUnshed (st : Station) (n : PumpNo) : Station :=
  ({ st with stc := st.stc.unshed (.pump n) }).ring

/-! ### Loads (Table 5-1) -/

/-- In STARTING or RUNNING. -/
def PumpState.inMotion : PumpState → Bool
  | .starting => true
  | .running => true
  | .uninstalled | .off | .hand | .inhibited | .ready | .waiting | .stopping | .resting | .faulted => false

/-- The rake is in motion while LOWERING, RAISING or REVERSING, drive pending or not (R117, R79). -/
def RakeState.inMotion : RakeState → Bool
  | .lowering => true
  | .raising => true
  | .reversing => true
  | .idle | .waiting | .discharging | .resting | .jammed => false

/-- A sum over the six pumps. -/
def sumPumps (f : PumpNo → Nat) : Nat := (allPumps.map f).sum

/-- The pump counts in connected load: its RUN_FB is on, installed or not, or it is installed and STARTING. -/
def Station.connects (st : Station) (n : PumpNo) : Bool :=
  st.stc.runFbSeen[n] || (st.pumps[n].settings.installed && st.pumps[n].state == .starting)

/-- The pump counts in committed load: installed and in STARTING or RUNNING. -/
def Station.commits (st : Station) (n : PumpNo) : Bool := st.pumps[n].settings.installed && st.pumps[n].state.inMotion

/-- A pump's rated_power. -/
def Station.power (st : Station) (n : PumpNo) : Nat := st.pumps[n].settings.ratedPower

/-- RAKE_KW while the rake is in motion. -/
def Station.rakeLoad (st : Station) : Nat := if st.rkc.state.inMotion then st.consts.rakeKw else 0

/-- Connected load. -/
def Station.connectedLoad (st : Station) : Nat :=
  sumPumps (fun n => if st.connects n then st.power n else 0) + st.rakeLoad

/-- Committed load. -/
def Station.committedLoad (st : Station) : Nat :=
  sumPumps (fun n => if st.commits n then st.power n else 0) + st.rakeLoad

/-- The rated_power of every pump on the shed list whose RUN_FB is on. -/
def Station.shedLoad (st : Station) : Nat :=
  sumPumps fun n => if st.stc.shedPumps[n] && st.stc.runFbSeen[n] then st.power n else 0

/-- Load after shedding. -/
def Station.loadAfterShedding (st : Station) : Nat := st.connectedLoad - st.shedLoad

/-- The active limit (R80). -/
def Station.activeLimit (st : Station) : Nat := if st.stc.genSeen then st.consts.genLimit else st.consts.utilityLimit

/-- A motor's power: rated_power or RAKE_KW. -/
def Station.motorPower (st : Station) : Motor → Nat
  | .pump n => st.power n
  | .rake => st.consts.rakeKw

/-- Spacing is elapsed (R81). -/
def Station.spacingElapsed (st : Station) : Bool :=
  match st.stc.lastGrant with
  | none => true
  | some g => decide (g + secs st.consts.startSpacing ≤ st.uptime)

/-- The spacing expiry armed from the last grant; nothing when that uptime has already passed (R81). -/
def Station.armSpacing (st : Station) : Station :=
  { st with stc := { st.stc with
      spacingExpiry := match st.stc.lastGrant with
        | none => none
        | some g => if g + secs st.consts.startSpacing < st.uptime then none
            else some (g + secs st.consts.startSpacing) } }

/-! ### Alternation (section 4.4) -/

/-- Insert a pump into a list sorted by run seconds, then pump number. -/
def insertByHours (hours : PumpNo → Nat) (n : PumpNo) : List PumpNo → List PumpNo
  | [] => [n]
  | x :: xs =>
    if hours n < hours x ∨ (hours n = hours x ∧ n.val < x.val) then n :: x :: xs else x :: insertByHours hours n xs

/-- The list sorted by run_seconds_total ascending, equal totals in ascending pump number (Table 4-2). -/
def sortByHours (hours : PumpNo → Nat) : List PumpNo → List PumpNo
  | [] => []
  | n :: ns => insertByHours hours n (sortByHours hours ns)

/-- The head moves to the tail (Table 4-2). -/
def rotateOnce : List PumpNo → List PumpNo
  | [] => []
  | n :: ns => ns ++ [n]

/-- The rotation list changes, and the DTY reports it to the STC, which re-sorts its queue (R60, R76). -/
def Station.setRotation (st : Station) (rotation : List PumpNo) : Station :=
  ({ st with dty := { st.dty with rotation := rotation } }).resort.ring

/-- Alternation at pump-down end (R64); FIXED makes no report. The mark is cleared (R63). -/
def Station.alternate (st : Station) : Station :=
  let st := match st.dty.mode with
    | .onCycle => st.setRotation (rotateOnce st.dty.rotation)
    | .onHours => st.setRotation (sortByHours (fun n => st.pumps[n].runTotal) st.dty.rotation)
    | .fixed => st
  { st with dty := { st.dty with altMark := false } }

/-- A pump that holds off pump-down end: installed, in STARTING, RUNNING or STOPPING (R63). -/
def Station.holdsOff (st : Station) (n : PumpNo) : Bool :=
  st.pumps[n].settings.installed && (st.pumps[n].state.inMotion || st.pumps[n].state == .stopping)

/-- Pump-down end is reached (R63). -/
def Station.pumpDownEnd (st : Station) : Bool :=
  st.dty.altMark && st.dty.held == 0 && st.dty.effective == 0 && !(allPumps.any fun n => st.holdsOff n)

/-- The DTY tests for pump-down end (R63). -/
def Station.testPumpDown (st : Station) : Station := if st.pumpDownEnd then st.alternate else st

end Sys2Proof.Machine
end

