-- ==== Sys2Proof/Machine/Pumps.lean ====
section
/-! DEFINITION. The Pump Run Units (Chapter 6) and the pump record's settings (R57 to R59). What the STC does about a PRU's
reports follows in StartControl.lean; here a report to it rings it (`Station.ring`). -/

namespace Sys2Proof.Machine

/-! ### States, conditions, history -/

/-- The auto states (R93). -/
def PumpState.auto : PumpState → Bool
  | .inhibited | .ready | .waiting | .starting | .running | .stopping | .resting => true
  | .uninstalled | .off | .hand | .faulted => false

/-- The Contact Unit's settling notice for the four contacts of pump n has been delivered (R48, R113). -/
def Station.pumpNoticed (st : Station) (n : PumpNo) : Bool :=
  st.ctu.hoaHand[n].hasSettled && st.ctu.hoaAuto[n].hasSettled && st.ctu.runFb[n].hasSettled &&
  st.ctu.pumpFault[n].hasSettled

/-- PUMP_n_FAULT (Table 6-4); no condition of a pump in OFF before its settling notice (R113), also of one that was moved from OFF and
back: assumption 49, DESIGN CHOICE. -/
def Station.pumpFaultCondition (st : Station) (n : PumpNo) : Bool :=
  match st.pumps[n].state with
  | .faulted => true
  | .hand => st.settled (.pumpFault n)
  | .off => st.settled (.pumpFault n) && st.pumpNoticed n
  | .uninstalled | .inhibited | .ready | .waiting | .starting | .running | .stopping | .resting => false

/-- The pump is start-limited: its pruned history holds max_starts_per_hour entries (R110). -/
def PumpRec.startLimited (p : PumpRec) : Bool := decide (p.settings.maxStarts ≤ p.history.length)

/-- START_LIMITED (Table 6-4): at least one installed pump is start-limited. -/
def Station.startLimitedCondition (st : Station) : Bool :=
  allPumps.any fun n => st.pumps[n].settings.installed && st.pumps[n].startLimited

/-- The joint judgement of START_LIMITED is made and reported (R111). -/
def Station.judgeStartLimited (st : Station) : Station := st.report Alarm.startLimited st.startLimitedCondition

/-- PRU n reports its two conditions, and the joint judgement is made (R111). -/
def Station.reportPump (st : Station) (n : PumpNo) : Station :=
  let st := st.report (Alarm.pumpFault n) (st.pumpFaultCondition n)
  let st := st.report (Alarm.runLost n) st.pumps[n].runLost
  st.judgeStartLimited

/-- Pruning removes every entry older than 3,600 s from the head of the list (R110). -/
def pruned (now : Nat) (history : List Nat) : List Nat := history.dropWhile fun g => decide (g + 36000 < now)

/-- PRU n prunes its start history (R110). -/
def Station.prune (st : Station) (n : PumpNo) : Station :=
  st.setPump n { st.pumps[n] with history := pruned st.uptime st.pumps[n].history }

/-! ### Moves -/

/-- PRU n asks for PUMP_RUN n; the CTU carries it out at once (R52). -/
def Station.setPumpRun (st : Station) (n : PumpNo) (on : Bool) : Station :=
  { st with ctu := { st.ctu with pumpRun := st.ctu.pumpRun.set n on } }

/-- The state timer that a state uses, begun now (R92). -/
def PumpSettings.timerFor (c : PumpSettings) (now : Nat) : PumpState → Option Nat
  | .starting => some (now + secs c.confirmTime)
  | .running => some (now + secs c.minRun)
  | .stopping => some (now + secs c.stopConfirmTime)
  | .resting => some (now + secs c.minOff)
  | .uninstalled | .off | .hand | .inhibited | .ready | .waiting | .faulted => none

/-- The pump enters a state (R92): state-change uptime, state timer, report to the DTY, and to the STC when the change is into
or out of STARTING or RUNNING (R93). min_run elapsed, which Table 6-1 gives a meaning in RUNNING alone, is set to no at every
entry, so that READ PUMP shows no outside RUNNING: assumption 45, DESIGN CHOICE. -/
def Station.enter (st : Station) (n : PumpNo) (s : PumpState) : Station :=
  let p := st.pumps[n]
  let st := if p.state.inMotion || s.inMotion then st.ring else st
  (st.setPump n { p with
    state := s, stateChange := st.uptime, timer := p.settings.timerFor st.uptime s, minRunElapsed := false }).testPumpDown

/-- The standing demand is cleared, and with it the shed mark; a shed mark so cleared is reported (R92, R95). -/
def Station.clearDemand (st : Station) (n : PumpNo) : Station :=
  let p := st.pumps[n]
  let st := st.setPump n { p with demand := false, shed := false }
  if p.shed then st.reportUnshed n else st

/-- Set the standing demand. -/
def Station.setPumpDemand (st : Station) (n : PumpNo) : Station := st.setPump n { st.pumps[n] with demand := true }

/-- Set the deferred-stop mark. -/
def Station.setDeferred (st : Station) (n : PumpNo) (d : Deferred) : Station :=
  st.setPump n { st.pumps[n] with deferred := d }

/-- Set the inhibit mark. -/
def Station.setInhibit (st : Station) (n : PumpNo) (on : Bool) : Station :=
  st.setPump n { st.pumps[n] with inhibit := on }

/-- The pump enters WAITING and is added to the start queue (R96, R77). -/
def Station.enterWaiting (st : Station) (n : PumpNo) : Station := (st.enter n .waiting).enqueue (.pump n)

/-- A WAITING pump is withdrawn from the queue (R78). -/
def Station.withdrawPump (st : Station) (n : PumpNo) : Station :=
  if st.pumps[n].state = .waiting then st.withdraw (.pump n) else st

/-- The pump enters FAULTED with a cause. -/
def Station.enterFaulted (st : Station) (n : PumpNo) (c : PumpCause) : Station :=
  let st := st.enter n .faulted
  st.setPump n { st.pumps[n] with cause := some c }

/-- The rest ends (R102). With the inhibit mark set the history is not pruned, whether or not the demand stood (R110): assumption 50,
DESIGN CHOICE. -/
def Station.endRest (st : Station) (n : PumpNo) : Station :=
  if st.pumps[n].inhibit then (st.clearDemand n).enter n .inhibited
  else if st.pumps[n].demand then
    let st := st.prune n
    if st.pumps[n].startLimited then
      let p := st.pumps[n]
      let st := st.setPump n { p with shed := false }
      (if p.shed then st.reportUnshed n else st).enter n .ready
    else st.enterWaiting n
  else st.enter n .ready

/-- The pump enters RESTING; with min_off 0 it passes through within the event (R102). -/
def Station.enterResting (st : Station) (n : PumpNo) : Station :=
  let st := st.enter n .resting
  if st.pumps[n].settings.minOff = 0 then st.endRest n else st

/-- Stop now (R100). -/
def Station.stopNow (st : Station) (n : PumpNo) : Station :=
  ((st.setPumpRun n false).setDeferred n .none).enter n .stopping

/-! ### Orders (Table 6-3) -/

/-- START or KEEP (Table 6-3, R96). -/
def Station.orderStart (st : Station) (n : PumpNo) : Station :=
  match st.pumps[n].state with
  | .ready =>
    let st := (st.setPumpDemand n).prune n
    if st.pumps[n].startLimited then st else st.enterWaiting n
  | .waiting | .stopping | .resting => st.setPumpDemand n
  | .starting | .running => (st.setPumpDemand n).setDeferred n .none
  | .uninstalled | .off | .hand | .inhibited | .faulted => st

/-- STOP or WITHDRAW (Table 6-3). -/
def Station.orderStop (st : Station) (n : PumpNo) : Station :=
  match st.pumps[n].state with
  | .ready | .stopping | .resting => st.clearDemand n
  | .waiting => ((st.clearDemand n).withdraw (.pump n)).enter n .ready
  | .starting => (st.clearDemand n).setDeferred n .normal
  | .running =>
    if st.pumps[n].minRunElapsed then (st.clearDemand n).stopNow n else (st.clearDemand n).setDeferred n .normal
  | .uninstalled | .off | .hand | .inhibited | .faulted => st

/-- CUTOFF_STOP (Table 6-3). -/
def Station.orderCutoff (st : Station) (n : PumpNo) : Station :=
  match st.pumps[n].state with
  | .ready | .stopping | .resting => st.clearDemand n
  | .waiting => ((st.clearDemand n).withdraw (.pump n)).enter n .ready
  | .starting => (st.clearDemand n).setDeferred n .cutoff
  | .running => (st.clearDemand n).stopNow n
  | .uninstalled | .off | .hand | .inhibited | .faulted => st

/-- PRU n answers an order (R95). -/
def Station.order (st : Station) (n : PumpNo) : Order → Station
  | .start => st.orderStart n
  | .keep => st.orderStart n
  | .stop => st.orderStop n
  | .withdraw => st.orderStop n
  | .cutoffStop => st.orderCutoff n

/-! ### Grant and shed -/

/-- A grant delivered to PRU n (R97). -/
def Station.grantPump (st : Station) (n : PumpNo) : Station :=
  if st.pumps[n].state = .waiting then
    let st := st.prune n
    let p := st.pumps[n]
    let st := st.setPump n { p with
      history := p.history ++ [st.uptime]
      startsToday := satAdd Config.top16 p.startsToday 1
      startsTotal := satAdd Config.top32 p.startsTotal 1
      deferred := .none, shed := false }
    ((st.setPumpRun n true).enter n .starting).reportPump n
  else st

/-- A shed order delivered to PRU n (R106). -/
def Station.shedPump (st : Station) (n : PumpNo) : Station :=
  if st.pumps[n].state.inMotion then
    let marked := st.pumps[n].demand
    let st := st.stopNow n
    if marked then st.setPump n { st.pumps[n] with shed := true } else st.reportUnshed n
  else st.reportUnshed n

/-! ### Contacts -/

/-- An uncommanded run (R104). -/
def Station.uncommandedRun (st : Station) (n : PumpNo) : Station :=
  (((st.withdrawPump n).clearDemand n).setInhibit n false).enterFaulted n .uncommandedRun

/-- A motor fault (R105). -/
def Station.motorFault (st : Station) (n : PumpNo) : Station :=
  ((((((st.withdrawPump n).setPumpRun n false).clearDemand n).setDeferred n .none).setInhibit n false).enterFaulted n
    .motorFault)

/-- RUN_FB n taken on in STARTING (R98). -/
def Station.runConfirmed (st : Station) (n : PumpNo) : Station :=
  let st := st.setPump n { st.pumps[n] with runLost := false }
  let st := st.enter n .running
  match st.pumps[n].deferred with
  | .cutoff => st.stopNow n
  | .normal => if st.pumps[n].settings.minRun = 0 then st.stopNow n else st
  | .none => st

/-- RUN_FB n taken off in RUNNING (R103). -/
def Station.lostRun (st : Station) (n : PumpNo) : Station :=
  let st := st.setPumpRun n false
  (st.setPump n { st.pumps[n] with deferred := .none, runLost := true }).enterResting n

/-- A taken change of RUN_FB n delivered to PRU n (R98, R101, R103, R104, R113). A pump found in OFF before its settling notice counts as
still in OFF, also when it was moved from OFF and back: assumption 49, DESIGN CHOICE. -/
def Station.pumpFeedback (st : Station) (n : PumpNo) (on : Bool) : Station :=
  match st.pumps[n].state, on with
  | .starting, true => st.runConfirmed n
  | .ready, true | .waiting, true | .resting, true | .inhibited, true => st.uncommandedRun n
  | .off, true => if st.pumpNoticed n then st.uncommandedRun n else st
  | .running, false => st.lostRun n
  | .stopping, false => st.enterResting n
  | .running, true | .stopping, true | .hand, true | .faulted, true | .uninstalled, true => st
  | .starting, false | .ready, false | .waiting, false | .resting, false | .inhibited, false | .off, false
  | .hand, false | .faulted, false | .uninstalled, false => st

/-- A taken change of PUMP_FAULT n delivered to PRU n (R105). -/
def Station.pumpFaultChange (st : Station) (n : PumpNo) (on : Bool) : Station :=
  if on && st.pumps[n].state.auto then st.motorFault n else st

/-- READY, then the settled contacts judged in the same event: what a turn to AUTO and an installation in AUTO give
(R107, R59). -/
def Station.enterAuto (st : Station) (n : PumpNo) : Station :=
  let st := st.enter n .ready
  if st.settled (.pumpFault n) then st.motorFault n
  else if st.settled (.runFb n) then st.stopNow n
  else st

/-- The selector leaves auto operation, or releases a fault (R107). -/
def Station.leaveAuto (st : Station) (n : PumpNo) (s : PumpState) : Station :=
  let st := ((((st.withdrawPump n).setPumpRun n false).clearDemand n).setDeferred n .none).setInhibit n false
  (st.setPump n { st.pumps[n] with cause := none }).enter n s

/-- A selector change delivered to PRU n (R107). One that finds the pump already where it would take it, to AUTO in an auto state, to
OFF in OFF or to HAND in HAND, changes nothing: assumption 48, DESIGN CHOICE. -/
def Station.selectorChange (st : Station) (n : PumpNo) (pos : Position) : Station :=
  match pos, st.pumps[n].state with
  | _, .uninstalled => st
  | .auto, .off | .auto, .hand => st.enterAuto n
  | .auto, .inhibited | .auto, .ready | .auto, .waiting | .auto, .starting | .auto, .running | .auto, .stopping
  | .auto, .resting | .auto, .faulted => st
  | .off, .off => st
  | .hand, .hand => st
  | .off, .hand => st.enter n .off
  | .hand, .off => st.enter n .hand
  | .off, .inhibited | .off, .ready | .off, .waiting | .off, .starting | .off, .running | .off, .stopping
  | .off, .resting | .off, .faulted => st.leaveAuto n .off
  | .hand, .inhibited | .hand, .ready | .hand, .waiting | .hand, .starting | .hand, .running | .hand, .stopping
  | .hand, .resting | .hand, .faulted => st.leaveAuto n .hand

/-- The settling notice for pump n's four contacts (R113): a pump still in OFF takes the settled selector. One that was moved from OFF and
back before the notice counts as still in OFF: assumption 49, DESIGN CHOICE. -/
def Station.pumpNotice (st : Station) (n : PumpNo) : Station :=
  if st.pumps[n].state = .off then st.selectorChange n st.ctu.selectors[n].position else st

/-! ### Timer expiries -/

/-- The confirm window expires in STARTING (R99). -/
def Station.confirmExpired (st : Station) (n : PumpNo) : Station :=
  (((st.setPumpRun n false).clearDemand n).setDeferred n .none).enterFaulted n .failToStart

/-- The min_run timer expires in RUNNING (R100). -/
def Station.minRunExpired (st : Station) (n : PumpNo) : Station :=
  match st.pumps[n].deferred with
  | .normal => st.stopNow n
  | .none | .cutoff => st.setPump n { st.pumps[n] with minRunElapsed := true, timer := none }

/-- The stop-confirm window expires in STOPPING (R101). -/
def Station.stopConfirmExpired (st : Station) (n : PumpNo) : Station :=
  if st.settled (.runFb n) then (st.clearDemand n).enterFaulted n .failToStop else st.enterResting n

/-- The min_off timer expires in RESTING (R102). -/
def Station.minOffExpired (st : Station) (n : PumpNo) : Station := st.endRest n

/-! ### Requests -/

/-- INHIBIT PUMP at PRU n (R108). -/
def Station.inhibitPump (st : Station) (n : PumpNo) : Reply × Station :=
  match st.pumps[n].state with
  | .uninstalled | .off | .hand => (.state, st)
  | .inhibited => (.done [], st)
  | .ready => (.done [], (((st.setInhibit n true).clearDemand n).setDeferred n .none).enter n .inhibited)
  | .waiting =>
    (.done [], ((((st.setInhibit n true).clearDemand n).setDeferred n .none).withdraw (.pump n)).enter n .inhibited)
  | .starting | .running => (.done [], ((st.setInhibit n true).clearDemand n).stopNow n)
  | .stopping | .resting | .faulted => (.done [], ((st.setInhibit n true).clearDemand n).setDeferred n .none)

/-- RELEASE PUMP at PRU n (R108). -/
def Station.releasePump (st : Station) (n : PumpNo) : Reply × Station :=
  match st.pumps[n].state with
  | .inhibited => (.done [], (st.setInhibit n false).enter n .ready)
  | .stopping | .resting | .faulted =>
    if st.pumps[n].inhibit then (.done [], st.setInhibit n false) else (.state, st)
  | .uninstalled | .off | .hand | .ready | .waiting | .starting | .running => (.state, st)

/-- RESET PUMP FAULT at PRU n (R109). A FAULTED pump whose selector reads HAND enters HAND (assumption 23). -/
def Station.resetPumpFault (st : Station) (n : PumpNo) : Reply × Station :=
  if st.pumps[n].state ≠ .faulted ∨ st.settled (.pumpFault n) ∨ st.settled (.runFb n) then (.state, st)
  else
    let st := st.setPump n { st.pumps[n] with cause := none }
    (.done [], match st.ctu.selectors[n].position with
      | .auto => st.enterResting n
      | .off => st.enter n .off
      | .hand => st.enter n .hand)

/-! ### Setpoint tests (Table 4-4), shared by SET SETPOINTS and installation -/

/-- The tests of Table 4-4 in order for `npos` installed pumps: the number of the first that fails and its position. -/
def Setpoints.failing (t : Setpoints) (npos : Nat) : Option (Nat × Nat) :=
  let inRange := (t.start.toList ++ t.stop.toList ++ [t.highAlarm, t.lowAlarm, t.lowCutoff, t.anticipate]).all
      (within 0 30000) && within 0 65535 t.margin && within 1 6 t.floatDemand
  let start := fun k => t.start.toList.getD k 0
  let stop := fun k => t.stop.toList.getD k 0
  if !inRange then some (1, 0)
  else match (List.range npos).find? fun k => decide (start k ≤ stop k) with
    | some k => some (2, k + 1)
    | none => match (List.range (npos - 1)).find? fun k => decide (start (k + 1) ≤ start k) with
      | some k => some (3, k + 2)
      | none => match (List.range npos).find? fun k => decide (stop k ≤ t.lowCutoff) with
        | some k => some (4, k + 1)
        | none => none

/-! ### WRITE PUMP RECORD -/

/-- Removal (R59). -/
def Station.uninstall (st : Station) (n : PumpNo) (c : PumpSettings) : Station :=
  let st := st.clearDemand n
  let st := st.setPump n { st.pumps[n] with settings := c, cause := none, deferred := .none, runLost := false }
  let st := st.enter n .uninstalled
  let st := st.setRotation (st.dty.rotation.filter (· ≠ n))
  { st with dty := { st.dty with held := min st.dty.held st.npos } }

/-- Installation (R59): the number goes to the tail of the rotation list, and the pump leaves UNINSTALLED by its selector. -/
def Station.install (st : Station) (n : PumpNo) (c : PumpSettings) : Station :=
  let st := st.setPump n { st.pumps[n] with settings := c }
  let st := st.setRotation (st.dty.rotation ++ [n])
  match st.ctu.selectors[n].position with
  | .auto => st.enterAuto n
  | .hand => st.enter n .hand
  | .off => st.enter n .off

/-- A start history shortened to its newest `k` entries (R58). -/
def newest (k : Nat) (history : List Nat) : List Nat := history.drop (history.length - k)

/-- max_starts_per_hour applies at once (R58): the history is pruned and shortened, and a WAITING pump that is now start-limited
is withdrawn and returns to READY with its demand kept. Its shed mark stays too: assumption 22, DEDUCED. -/
def Station.applyMaxStarts (st : Station) (n : PumpNo) : Station :=
  let st := st.prune n
  let p := st.pumps[n]
  let st := st.setPump n { p with history := newest p.settings.maxStarts p.history }
  if st.pumps[n].state = .waiting ∧ st.pumps[n].startLimited then (st.withdraw (.pump n)).enter n .ready else st

/-- WRITE PUMP RECORD at PRU n, its history already pruned, with fields as carried (R58, R59). A refused one changes nothing.
Every accepted one rings the STC (R82), also one that changes neither rated_power nor installed: assumption 44, DESIGN CHOICE. -/
def Station.writePumpRecord (st : Station) (n : PumpNo) (fields : List Nat) : Reply × Station :=
  match firstFailing (pumpFieldChecks fields) with
  | some k => (.final .refusedRange (byte (k - 1)), st)
  | none =>
    let c := PumpSettings.ofValues fields
    let p := st.pumps[n]
    if p.settings.installed && !c.installed then
      match p.state with
      | .ready | .off | .hand | .faulted => (.done [], ((st.uninstall n c).applyMaxStarts n).ring)
      | .uninstalled | .inhibited | .waiting | .starting | .running | .stopping | .resting => (.state, st)
    else if !p.settings.installed && c.installed then
      match st.dty.setpoints.failing (st.npos + 1) with
      | some (test, k) => (.final .refusedState (byte test ++ byte k), st)
      | none => (.done [], ((st.install n c).applyMaxStarts n).ring)
    else (.done [], ((st.setPump n { p with settings := c }).applyMaxStarts n).ring)

/-! ### Accounting and soft reset -/

/-- Every installed pump whose RUN_FB is settled on gains one run second (R112). -/
def Station.runSecond (st : Station) : Station :=
  { st with pumps := Vector.ofFn fun n : Fin 6 =>
      let p := st.pumps[n]
      if p.settings.installed && st.settled (.runFb n) then
        { p with runToday := satAdd Config.top32 p.runToday 1, runTotal := satAdd Config.top32 p.runTotal 1 }
      else p }

/-- The state a soft reset gives (R114). -/
def PumpState.softReset (fb : Bool) : PumpState → PumpState
  | .faulted => .faulted
  | .starting | .running | .stopping => .stopping
  | .ready | .waiting | .resting | .inhibited => if fb then .stopping else .ready
  | .uninstalled => .uninstalled
  | .off => .off
  | .hand => .hand

/-- PRU n's soft reset handling (R114); the CTU has turned its output off (R52). -/
def Station.softResetPump (st : Station) (n : PumpNo) : Station :=
  let p := st.pumps[n]
  let s := p.state.softReset (st.settled (.runFb n))
  (st.setPump n { p with
    state := s, demand := false, shed := false, deferred := .none, inhibit := false, minRunElapsed := false,
    timer := p.settings.timerFor st.uptime s,
    stateChange := if s = p.state then p.stateChange else st.uptime }).ring

end Sys2Proof.Machine
end

