-- ==== Sys2Proof/Machine/Rake.lean ====
section
/-! DEFINITION. The rake drive's interlock (section 3.7) and the Rake Controller (Chapter 7). -/

namespace Sys2Proof.Machine

/-! ### The drive -/

/-- The drive's answer to a request at the 10 ms step `now`, none for OFF (Table 3-4). -/
def Drive.request (now : Nat) : Drive → Option Dir → Drive
  | .clear, none => .clear
  | .clear, some d => .driven d
  | .driven _, none => .dead (now + Config.deadInterval) none
  | .driven d, some d' => if d = d' then .driven d else .dead (now + Config.deadInterval) (some d')
  | .dead e _, req => .dead e req

/-- The dead interval expires (Table 3-4, last column). -/
def Drive.expire : Drive → Drive
  | .dead _ (some d) => .driven d
  | .dead _ none => .clear
  | .clear => .clear
  | .driven d => .driven d

/-- RAKE_DOWN and RAKE_UP as the drive's state gives them (R53). -/
def Drive.output (d : Drive) (dir : Dir) : Bool := d == .driven dir

/-- A soft reset turns the drive off (R53). -/
def Drive.softReset (now : Nat) : Drive → Drive
  | .clear => .clear
  | .driven _ => .dead (now + Config.deadInterval) none
  | .dead e _ => .dead e none

/-- The direction driven now, or none (R54). -/
def Drive.driving : Drive → Option Dir
  | .driven d => some d
  | .clear => none
  | .dead _ _ => none

/-- The RKC asks for the drive. -/
def Station.askDrive (st : Station) (req : Option Dir) : Station :=
  { st with ctu := { st.ctu with drive := st.ctu.drive.request st.clock req } }

/-! ### States -/

/-- The direction a state asks of the CTU (Table 7-3). -/
def RakeState.direction : RakeState → Option Dir
  | .lowering => some .down
  | .raising => some .up
  | .reversing => some .down
  | .idle | .waiting | .discharging | .resting | .jammed => none

/-- The phase timer a state begins at its entry (Table 7-3); a motion state's begins at the report that it is driven. -/
def Constants.entryTimer (c : Constants) (now : Nat) : RakeState → Option Nat
  | .discharging => some (now + secs c.dwell)
  | .resting => some (now + secs c.restTime)
  | .idle | .waiting | .lowering | .raising | .reversing | .jammed => none

/-- The rake enters a state (R116, R117): the direction is asked for, drive pending is set in a motion state, and an entry into
motion or an end of motion is reported to the STC. -/
def Station.rakeEnter (st : Station) (s : RakeState) : Station :=
  let st' := { st with rkc := { st.rkc with
    state := s, stateChange := st.uptime, timer := st.consts.entryTimer st.uptime s, drivePending := s.inMotion } }
  let st' := st'.askDrive s.direction
  if st.rkc.state.inMotion = s.inMotion then st' else st'.ring

/-- R121: the rake may enter WAITING from IDLE. -/
def Station.rakeMayWait (st : Station) : Bool := st.rkc.homing || (st.rkc.demand && !st.settled .skipFull)

/-- The RKC applies R121 in IDLE. -/
def Station.rakeTestWait (st : Station) : Station :=
  if st.rkc.state = .idle ∧ st.rakeMayWait then (st.rakeEnter .waiting).enqueue .rake else st

/-- The rake enters IDLE, and from there WAITING when R121 allows. -/
def Station.rakeIdle (st : Station) : Station := (st.rakeEnter .idle).rakeTestWait

/-- The cycle demand is set; in IDLE R121 is applied (R118, R120). -/
def Station.rakeSetDemand (st : Station) : Station :=
  ({ st with rkc := { st.rkc with demand := true } }).rakeTestWait

/-- The rake enters JAMMED (R127). -/
def Station.rakeJam (st : Station) (c : JamCause) : Station :=
  let st := st.rakeEnter .jammed
  ({ st with rkc := { st.rkc with
      jamCause := some c, homing := false, jamsToday := satAdd Config.top16 st.rkc.jamsToday 1 } }).report
    Alarm.rakeJammed true

/-- LIM_TOP in RAISING (R124): DISCHARGING, or the end of a homing raise (R128). -/
def Station.rakeAtTop (st : Station) : Station :=
  if st.rkc.homing then ({ st with rkc := { st.rkc with homing := false } }).rakeIdle else st.rakeEnter .discharging

/-- TORQUE_TRIP in RAISING (R124). -/
def Station.rakeTrip (st : Station) : Station :=
  if st.rkc.retries = 0 then st.rakeJam .torque
  else ({ st with rkc := { st.rkc with retries := st.rkc.retries - 1 } }).rakeEnter .reversing

/-- A motion state's phase timer begins, and drive pending is cleared (R117). -/
def Station.rakeBegin (st : Station) (limit : Nat) : Station :=
  { st with rkc := { st.rkc with drivePending := false, timer := some (st.uptime + secs limit) } }

/-- The requested direction is reported driven: the phase timer begins, and the settled contacts are judged (R117, R123 to
R125). -/
def Station.rakeDriven (st : Station) : Station :=
  match st.rkc.state with
  | .lowering =>
    let st := st.rakeBegin st.consts.lowerMax
    if st.settled .torqueTrip then st.rakeJam .torque
    else if st.settled .limBottom then st.rakeEnter .raising
    else st
  | .raising =>
    let st := st.rakeBegin st.consts.raiseMax
    if st.settled .limTop then st.rakeAtTop
    else if st.settled .torqueTrip then st.rakeTrip
    else st
  | .reversing =>
    let st := st.rakeBegin st.consts.reverseTime
    if st.settled .limBottom then st.rakeEnter .raising else st
  | .idle | .waiting | .discharging | .resting | .jammed => st

/-- The CTU reports the drive's state; a report of a direction other than the one last asked for leaves the RKC as it is
(R117). -/
def Station.driveReport (st : Station) : Station :=
  if st.rkc.drivePending = true ∧ st.rkc.state.direction.isSome = true ∧ st.ctu.drive.driving = st.rkc.state.direction then
    st.rakeDriven
  else st

/-! ### Grant and shed -/

/-- A grant delivered to the rake (R122). -/
def Station.grantRake (st : Station) : Station :=
  if st.rkc.state = .waiting then
    let st := { st with rkc := { st.rkc with retries := st.consts.retries } }
    (if st.rkc.homing then st.rakeEnter .raising
     else ({ st with rkc := { st.rkc with demand := false } }).rakeEnter .lowering).driveReport
  else st

/-- A shed order delivered to the rake (R129). -/
def Station.shedRake (st : Station) : Station :=
  if st.rkc.state.inMotion then
    (({ st with rkc := { st.rkc with demand := true } }).rakeEnter .waiting).enqueue .rake
  else st.withdrawRake

/-! ### Contacts -/

/-- A taken change of a rake contact (R121, R123 to R125). -/
def Station.rakeContact (st : Station) (i : Input) (on : Bool) : Station :=
  match i, on, st.rkc.state with
  | .limTop, true, .raising => st.rakeAtTop.driveReport
  | .limBottom, true, .lowering => (st.rakeEnter .raising).driveReport
  | .limBottom, true, .reversing => (st.rakeEnter .raising).driveReport
  | .torqueTrip, true, .lowering => st.rakeJam .torque
  | .torqueTrip, true, .raising => st.rakeTrip.driveReport
  | .torqueTrip, true, .reversing => st.rakeJam .torque
  | .skipFull, on, _ =>
    let st := st.report Alarm.skipFull on
    if on then
      (if st.rkc.state = .waiting ∧ st.rkc.homing = false then st.withdrawRake.rakeEnter .idle else st)
    else st.rakeTestWait
  | _, _, _ => st

/-- The settling notice for the rake contacts (R121, R132). -/
def Station.rakeNotice (st : Station) : Station := st.report Alarm.skipFull (st.settled .skipFull)

/-! ### Timers and counting -/

/-- A cycle is counted (R126): the interval origin moves to it. -/
def Station.countCycle (st : Station) : Station :=
  { st with rkc := { st.rkc with
      cyclesToday := satAdd Config.top16 st.rkc.cyclesToday 1
      cyclesTotal := satAdd Config.top32 st.rkc.cyclesTotal 1
      lastCycleEnd := some st.uptime, intervalOrigin := st.uptime } }

/-- The interval expiry is taken (R119). -/
def Station.intervalExpired (st : Station) : Station :=
  ({ st with rkc := { st.rkc with intervalOrigin := st.uptime } }).rakeSetDemand

/-- The interval expiry is re-armed; one that has already passed is taken now (R119). An expiry that equals the uptime counts as
passed: assumption 42, DESIGN CHOICE. -/
def Station.rearmInterval (st : Station) : Station :=
  if st.intervalExpiry ≤ st.uptime then st.intervalExpired else st

/-! ### Level updates -/

/-- DIFF = INLET level - W, when both are carried (R118). -/
def LevelUpdate.diff (u : LevelUpdate) : Option Int :=
  match u.source, u.w, u.inlet with
  | .float, _, _ => none
  | _, some w, some i => some ((i : Int) - w)
  | _, _, _ => none

/-- DIFF is recorded and may set the cycle demand (R118). -/
def Station.rakeDifferential (st : Station) (u : LevelUpdate) : Station :=
  let st := { st with rkc := { st.rkc with lastDiff := u.diff } }
  match u.diff with
  | none => st
  | some d => if (st.consts.diffStart : Int) ≤ d then st.rakeSetDemand else st

/-- The interval length follows the availability of DIFF (R119). -/
def Station.rakeInterval (st : Station) (u : LevelUpdate) : Station :=
  if st.rkc.shortInterval = u.diff.isNone then st
  else ({ st with rkc := { st.rkc with shortInterval := u.diff.isNone } }).rearmInterval

/-- The blinding count and condition that an update leaves (R130). -/
def Station.blinding (st : Station) (u : LevelUpdate) : Nat × Bool :=
  match u.diff with
  | none => (0, false)
  | some d =>
    if (st.consts.diffHigh : Int) ≤ d then
      let count := satAdd 600 st.rkc.blindCount 1
      (count, st.rkc.blinded || decide (st.consts.blindCycles ≤ count))
    else if (st.consts.diffStart : Int) ≤ d then (0, st.rkc.blinded)
    else (0, false)

/-- Blinding is judged; a change is reported to the ALT, and to the STC, which re-sorts its queue (R130, R76). -/
def Station.rakeBlinding (st : Station) (u : LevelUpdate) : Station :=
  let b := st.blinding u
  let st' := { st with rkc := { st.rkc with blindCount := b.1, blinded := b.2 } }
  if b.2 = st.rkc.blinded then st' else (st'.report Alarm.screenBlinded b.2).resort.ring

/-! ### Requests and soft reset -/

/-- RESET RAKE (R127). -/
def Station.resetRake (st : Station) : Reply × Station :=
  if st.rkc.state ≠ .jammed ∨ st.settled .torqueTrip then (.state, st)
  else
    let st := ({ st with rkc := { st.rkc with jamCause := none } }).report Alarm.rakeJammed false
    if st.settled .limTop then (.done [], st.rakeIdle)
    else (.done [], ({ st with rkc := { st.rkc with homing := true } }).rakeIdle)

/-- The RKC's soft reset handling (R133), after the CTU has turned the drive off. -/
def Station.softResetRake (st : Station) : Station :=
  let st := match st.rkc.state with
    | .lowering | .raising | .reversing | .waiting | .resting => st.rakeEnter .idle
    | .discharging => st.countCycle.rakeEnter .idle
    | .idle | .jammed => st
  let st := st.report Alarm.rakeJammed (st.rkc.state == .jammed)
  let st := st.report Alarm.skipFull (st.settled .skipFull)
  let st := st.report Alarm.screenBlinded st.rkc.blinded
  st.resort.ring.rakeTestWait

end Sys2Proof.Machine
end

