-- ==== Sys2Proof/Machine/StartControl.lean ====
section
/-! DEFINITION. What the Start Controller does at an event that reaches it: the shed pass, the grant test, LOAD_SHED and
CAPACITY_HELD (sections 5.3 to 5.5). -/

namespace Sys2Proof.Machine

/-! ### Shedding -/

/-- The loads exceed the active limit (R86). -/
def Station.overloaded (st : Station) : Bool :=
  decide (st.activeLimit < st.loadAfterShedding) || decide (st.activeLimit < st.committedLoad)

/-- The shed candidates in shed order (Table 5-3): pumps other than the lead from the highest rotation position, the rake, the
lead. -/
def Station.shedCandidates (st : Station) : List Motor :=
  (st.dty.rotation.tail.reverse.filter fun n => st.commits n).map .pump ++
  (if st.rkc.state.inMotion then [Motor.rake] else []) ++
  ((st.dty.rotation.take 1).filter fun n => st.commits n).map .pump

/-- The motor counts in connected load. -/
def Station.motorConnects (st : Station) : Motor → Bool
  | .pump n => st.connects n
  | .rake => true

/-- The candidates a pass takes, from the remaining connected and committed figures (R87). -/
def Station.shedChoice (st : Station) : List Motor → Nat → Nat → List Motor
  | [], _, _ => []
  | m :: ms, connected, committed =>
    if connected ≤ st.activeLimit ∧ committed ≤ st.activeLimit then []
    else m :: st.shedChoice ms (connected - if st.motorConnects m then st.motorPower m else 0)
      (committed - st.motorPower m)

/-- A motor is shed (R88): it goes on the shed list, and its owner has the shed order. -/
def Station.shedMotor (st : Station) (m : Motor) : Station :=
  let st := { st with stc := st.stc.addShed m }
  match m with
  | .pump n => (st.shedPump n).reportPump n
  | .rake => st.shedRake

/-- A shed pass (R87); LOAD_SHED turns on at a pass that sheds (R89). -/
def Station.shedPass (st : Station) : Station :=
  match st.shedChoice st.shedCandidates st.loadAfterShedding st.committedLoad with
  | [] => st
  | m :: ms =>
    (m :: ms).foldl Station.shedMotor
      (({ st with stc := { st.stc with loadShed := true } }).report Alarm.loadShed true)

/-- Shed passes while the loads exceed the limit (R86). A pass that removes a pump from the shed list calls for another; each
pass that sheds stops at least one of seven motors, so eight suffice (assumption 11). -/
def Station.shedPasses : Nat → Station → Station
  | 0, st => st
  | k + 1, st => if st.overloaded then Station.shedPasses k st.shedPass else st

/-! ### The grant test -/

/-- The budget part: the motor's power added to connected load, and to committed load, stays within the active limit (R82). -/
def Station.budgetFits (st : Station) (m : Motor) : Bool :=
  decide (st.connectedLoad + st.motorPower m ≤ st.activeLimit) &&
  decide (st.committedLoad + st.motorPower m ≤ st.activeLimit)

/-- The head takes a hold reason. -/
def holdHead (h : Hold) : List QEntry → List QEntry
  | [] => []
  | e :: es => { e with hold := h } :: es

/-- The head stays with a hold reason (R82). -/
def Station.hold (st : Station) (h : Hold) : Station :=
  { st with stc := { st.stc with queue := holdHead h st.stc.queue } }

/-- The new head after a grant, held for BUDGET or for SPACING: the owner's report judges it without a further grant (R83,
Table 5-5, assumption 10). -/
def Station.holdNewHead (st : Station) : Station :=
  match st.stc.queue with
  | [] => st
  | e :: _ => st.hold (if st.budgetFits e.motor then .spacing else .budget)

/-- The grant is delivered to its owner. -/
def Station.deliverGrant (st : Station) : Motor → Station
  | .pump n => st.grantPump n
  | .rake => st.grantRake

/-- A grant (R83). -/
def Station.grant (st : Station) (m : Motor) : Station :=
  let st := st.dequeue m
  let st := { st with stc := { st.stc.unshed m with lastGrant := some st.uptime } }
  ((st.armSpacing).deliverGrant m).holdNewHead

/-- The grant test on the head (R82): budget first, then spacing. -/
def Station.grantTest (st : Station) : Station :=
  match st.stc.queue with
  | [] => st
  | e :: _ =>
    if st.budgetFits e.motor then (if st.spacingElapsed then st.grant e.motor else st.hold .spacing)
    else st.hold .budget

/-! ### Conditions -/

/-- The shed list is empty. -/
def StartControl.shedEmpty (c : StartControl) : Bool := !c.shedRake && !(allPumps.any fun n => c.shedPumps[n])

/-- LOAD_SHED turns off with GEN_RUN settled off and the shed list empty (R89). -/
def Station.testLoadShed (st : Station) : Station :=
  if st.stc.loadShed = true ∧ st.settled .genRun = false ∧ st.stc.shedEmpty = true then
    ({ st with stc := { st.stc with loadShed := false } }).report Alarm.loadShed false
  else st

/-- The head is held for BUDGET. -/
def StartControl.budgetHeld (c : StartControl) : Bool :=
  match c.queue with
  | [] => false
  | e :: _ => e.hold == .budget

/-- The budget-held-since uptime is judged at the end of the event (R85). -/
def Station.judgeBudget (st : Station) : Station :=
  if st.stc.budgetHeld then
    match st.stc.budgetSince with
    | some _ => st
    | none => { st with stc := { st.stc with budgetSince := some st.uptime } }
  else
    ({ st with stc := { st.stc with budgetSince := none, capacityHeld := false } }).report Alarm.capacityHeld false

/-- An event that the STC handles (R82, R86, R85, R89). A pump shed with its standing demand clear leaves the shed list at once (R106),
and that removal is tested for LOAD_SHED in the pass's own event: assumption 40, DESIGN CHOICE. -/
def Station.stcEvent (st : Station) : Station :=
  let st := ((Station.shedPasses 8 st).grantTest).testLoadShed.judgeBudget
  { st with stc := { st.stc with heard := false } }

/-- The STC handles the event that has reached it, if one has. -/
def Station.settleStc (st : Station) : Station := if st.stc.heard then st.stcEvent else st

/-- One handling by PRU n, its condition reports, and what the STC does about it. -/
def Station.pumpEvent (st : Station) (n : PumpNo) (handle : Station → Station) : Station :=
  ((handle st).reportPump n).settleStc

/-! ### STC events of its own -/

/-- The active limit is formed from the settled GEN_RUN (R80). -/
def Station.formLimit (st : Station) : Station :=
  ({ st with stc := { st.stc with genSeen := st.settled .genRun } }).ring

/-- A taken change of GEN_RUN, or the settling notice (R80): the limit is re-formed, GEN_RUNNING reported. -/
def Station.genChange (st : Station) : Station :=
  (st.formLimit.report Alarm.genRunning (st.settled .genRun)).settleStc

/-- The RUN_FB column of the motor table takes a change of RUN_FB n at its taking, so that no grant made within the event counts
the motor at its old level (R79, R82, assumption 12). -/
def Station.seeFeedback (st : Station) (n : PumpNo) : Station :=
  { st with stc := { st.stc with runFbSeen := st.stc.runFbSeen.set n (st.settled (.runFb n)) } }

/-- A taken change of RUN_FB n delivered to the STC (R79). -/
def Station.stcFeedback (st : Station) (n : PumpNo) : Station := ((st.seeFeedback n).ring).settleStc

/-- The settling notice for the STC's contacts: the RUN_FB column is filled, the limit formed (R90, R80). -/
def Station.stcNotice (st : Station) : Station :=
  ({ st with stc := { st.stc with
      runFbSeen := Vector.ofFn fun n : Fin 6 => st.settled (.runFb n) } }).genChange

/-- The spacing expiry (R81). -/
def Station.spacingExpired (st : Station) : Station :=
  (({ st with stc := { st.stc with spacingExpiry := none } }).ring).settleStc

/-- The budget expiry (R85): CAPACITY_HELD turns on, and the grant test follows. -/
def Station.budgetExpired (st : Station) : Station :=
  ((({ st with stc := { st.stc with capacityHeld := true } }).report Alarm.capacityHeld true).ring).settleStc

/-- The STC's soft reset handling before the owners' (R90). -/
def Station.softResetStc (st : Station) : Station :=
  ({ st with stc := { st.stc with
      queue := [], shedPumps := Vector.replicate 6 false, shedRake := false, budgetSince := none,
      capacityHeld := false } }).armSpacing

/-- What the STC reports at the end of its soft reset handling (R90); the event closes with its grant test (R82). -/
def Station.finishStcReset (st : Station) : Station :=
  ((((st.report Alarm.genRunning (st.settled .genRun)).report Alarm.capacityHeld false).testLoadShed).ring).settleStc

end Sys2Proof.Machine
end

