-- ==== Sys2Proof/Machine/Duty.lean ====
section
/-! DEFINITION. The Duty Controller: demand and its assignment to pumps (sections 4.6 and 4.7), SET SETPOINTS, WRITE ROTATION. -/

namespace Sys2Proof.Machine

/-! ### Demand -/

/-- START_k for a position k from 1. -/
def Setpoints.startAt (t : Setpoints) (k : Nat) : Nat := t.start.toList.getD (k - 1) 0

/-- STOP_k for a position k from 1. -/
def Setpoints.stopAt (t : Setpoints) (k : Nat) : Nat := t.stop.toList.getD (k - 1) 0

/-- While D < npos and W ≥ START_{D+1}, D rises by one (R68); `fuel` bounds the places it can rise. -/
def riseDemand (t : Setpoints) (npos w : Nat) : Nat → Nat → Nat
  | 0, d => d
  | fuel + 1, d => if d < npos ∧ t.startAt (d + 1) ≤ w then riseDemand t npos w fuel (d + 1) else d

/-- While D > 0 and W ≤ STOP_D, D falls by one (R68). -/
def fallDemand (t : Setpoints) (w : Nat) : Nat → Nat
  | 0 => 0
  | d + 1 => if w ≤ t.stopAt (d + 1) then fallDemand t w d else d + 1

/-- The hysteresis of R68. -/
def moveDemand (t : Setpoints) (npos w d : Nat) : Nat := fallDemand t w (riseDemand t npos w 6 d)

/-- Q_running (R69): installed pumps in RUNNING, or in HAND with RUN_FB settled on. -/
def Station.runningFlow (st : Station) : Nat :=
  sumPumps fun n =>
    let p := st.pumps[n]
    if p.settings.installed && (p.state == .running || (p.state == .hand && st.settled (.runFb n))) then
      p.settings.ratedFlow
    else 0

/-- Modification 1 acts (R69): a surplus of inflow just below the next start level. -/
def Station.anticipates (st : Station) (npos w d : Nat) (qIn : Option Nat) : Bool :=
  match qIn with
  | none => false
  | some q =>
    decide (d < npos) && decide (st.dty.setpoints.startAt (d + 1) ≤ w + st.dty.setpoints.anticipate) &&
    decide (st.runningFlow + st.dty.setpoints.margin < q)

/-- What an evaluation forms before it assigns: D, D_eff, which modifications changed D_eff, whether it is a cutoff
evaluation. -/
structure Demand where
  held      : Nat
  effective : Nat
  mods      : Modifications
  cutoff    : Bool
deriving DecidableEq, Repr

/-- No modification. -/
def Modifications.none : Modifications :=
  { anticipation := false, highFloor := false, lowCutoff := false, floatFloor := false }

/-- D and D_eff with W present (R68, R69): the four modifications in order, each on the result of the one before. -/
def Station.demandAt (st : Station) (w : Nat) (qIn : Option Nat) : Demand :=
  let t := st.dty.setpoints
  let npos := st.npos
  let d := moveDemand t npos w st.dty.held
  let e1 := if st.anticipates npos w d qIn then d + 1 else d
  let e2 := if t.highAlarm ≤ w then npos else e1
  let e3 := if w ≤ t.lowCutoff then 0 else e2
  let e4 := if st.settled .floatHigh then max e3 (min t.floatDemand npos) else e3
  { held := d, effective := e4
    mods := { anticipation := e1 != d, highFloor := e2 != e1, lowCutoff := e3 != e2, floatFloor := e4 != e3 }
    cutoff := decide (w ≤ t.lowCutoff) && e4 == 0 }

/-- D and D_eff from the floats (R70). -/
def Station.demandFloat (st : Station) : Demand :=
  let npos := st.npos
  let high := st.settled .floatHigh
  let low := st.settled .floatLow
  let d := if high then min st.dty.setpoints.floatDemand npos else if low then st.dty.held else 0
  { held := d, effective := d, mods := .none, cutoff := !high && !low }

/-- D and D_eff for a level update (R67). -/
def Station.demand (st : Station) (u : LevelUpdate) : Demand :=
  match u.w with
  | some w => st.demandAt w u.qIn
  | none => st.demandFloat

/-! ### Assignment -/

/-- A pump in HAND with RUN_FB settled on (R71). -/
def Station.handRunning (st : Station) (n : PumpNo) : Bool :=
  st.pumps[n].settings.installed && st.pumps[n].state == .hand && st.settled (.runFb n)

/-- On the way back to its motor after a shed: in STOPPING, RESTING or WAITING (R71). -/
def PumpState.returning : PumpState → Bool
  | .stopping | .resting | .waiting => true
  | .uninstalled | .off | .hand | .inhibited | .ready | .starting | .running | .faulted => false

/-- A pump that keeps its place after a shed (R71): it carries a shed mark in STOPPING, RESTING or WAITING. A READY pump that
still carries one (R58) is not among them: assumption 22, DEDUCED. -/
def PumpRec.keepsPlace (p : PumpRec) : Bool := p.shed && p.state.returning

/-- A member of the held set (R71): installed, and in STARTING or RUNNING or keeping its place after a shed. -/
def Station.inHeldSet (st : Station) (n : PumpNo) : Bool :=
  st.pumps[n].settings.installed && (st.pumps[n].state.inMotion || st.pumps[n].keepsPlace)

/-- An eligible pump (R72). -/
def Station.eligible (st : Station) (n : PumpNo) : Bool :=
  st.pumps[n].settings.installed && (st.pumps[n].state == .ready || st.pumps[n].state == .waiting) &&
  !st.pumps[n].shed && !st.pumps[n].startLimited

/-- The assignment of D_eff (R71, R72): the hand count h, the need m, the chosen pumps of the held set, those chosen to fill,
the unmet count. -/
structure Assignment where
  hand   : Nat
  need   : Nat
  kept   : List PumpNo
  filled : List PumpNo
  unmet  : Nat
deriving DecidableEq, Repr

/-- R71 and R72 on the view of the evaluation. -/
def Station.assign (st : Station) (effective : Nat) : Assignment :=
  let hand := allPumps.countP st.handRunning
  let need := effective - hand
  let kept := (st.dty.rotation.filter st.inHeldSet).take need
  let filled := (st.dty.rotation.filter st.eligible).take (need - kept.length)
  { hand := hand, need := need, kept := kept, filled := filled, unmet := need - kept.length - filled.length }

/-- The order each pump receives (R71 to R73, Table 4-5). -/
def Station.orderFor (st : Station) (a : Assignment) (cutoff : Bool) (n : PumpNo) : Option Order :=
  let p := st.pumps[n]
  if !p.settings.installed then none
  else if a.kept.contains n then some .keep
  else if a.filled.contains n then (if p.state = .ready then some .start else some .keep)
  else if p.state.inMotion then (if cutoff then some .cutoffStop else some .stop)
  else if p.keepsPlace || p.state == .waiting || (cutoff && p.shed) then some .withdraw
  else none

/-- An order is sent: the PRU answers it, and the STC what it reports (R95). -/
def Station.send (st : Station) (orders : Vector (Option Order) 6) (n : PumpNo) : Station :=
  match orders[n] with
  | none => st
  | some o => st.pumpEvent n fun st => st.order n o

/-- Each PRU prunes as the DTY examines the histories (R72, R110). -/
def Station.pruneAll (st : Station) : Station :=
  (allPumps.foldl Station.prune st)

/-- A demand evaluation (R67): the histories are examined, D and D_eff formed, the orders formed from one view and sent in
rotation order, pump-down end tested. -/
def Station.evaluate (st : Station) (u : LevelUpdate) : Station :=
  let st := st.pruneAll.judgeStartLimited
  let d := st.demand u
  let a := st.assign d.effective
  let orders := Vector.ofFn fun n : Fin 6 => st.orderFor a d.cutoff n
  let st := { st with dty := { st.dty with
    held := d.held, effective := d.effective, hand := a.hand, need := a.need, unmet := a.unmet,
    lastSource := some u.source, mods := d.mods, cutoff := d.cutoff, orders := orders
    altMark := st.dty.altMark || decide (1 ≤ d.effective) } }
  ((st.dty.rotation.foldl (fun s n => s.send orders n) st).testPumpDown).settleStc

/-- A float change or the floats' settling notice causes an evaluation while the last level update has source FLOAT (R67). -/
def Station.floatEvaluation (st : Station) : Station :=
  match st.lve.published with
  | none => st
  | some u => if u.source = .float then st.evaluate u else st

/-! ### Requests -/

/-- SET SETPOINTS (R65). -/
def Station.setSetpoints (st : Station) (t : Setpoints) : Reply × Station :=
  match t.failing st.npos with
  | some (test, k) => (.final .refusedRange (byte test ++ byte k), st)
  | none => (.done [], { st with dty := { st.dty with setpoints := t } })

/-- The numbers of a list as pump positions, none when one is no pump number. -/
def pumpList : List Nat → Option (List PumpNo)
  | [] => some []
  | k :: ks => match pumpOfNumber k, pumpList ks with
    | some n, some ns => some (n :: ns)
    | _, _ => none

/-- A rotation list of the installed pumps: each exactly once and no other (R60). -/
def Station.isRotation (st : Station) (l : List PumpNo) : Bool :=
  l.length == st.npos && l.all (fun n => st.pumps[n].settings.installed) && decide l.Nodup

/-- WRITE ROTATION (R61). -/
def Station.writeRotation (st : Station) (mode : Nat) (numbers : List Nat) : Reply × Station :=
  match AltMode.ofCode mode, pumpList numbers with
  | some m, some l =>
    if st.isRotation l then
      (.done [], (({ st with dty := { st.dty with mode := m } }).setRotation l).settleStc)
    else (.range, st)
  | _, _ => (.range, st)

/-- The DTY's soft reset handling (R74). -/
def Station.softResetDuty (st : Station) : Station :=
  { st with dty := { st.dty with
      held := 0, effective := 0, hand := 0, need := 0, unmet := 0, altMark := false, lastSource := none,
      mods := .none, cutoff := false, orders := Vector.replicate 6 none } }

end Sys2Proof.Machine
end

