-- ==== Sys2Proof/Machine/Contacts.lean ====
section
/-! DEFINITION. The Contact Unit's inputs (Chapter 3): debounce, first settling, selector decoding, and the delivery of taken
changes and settling notices to the blocks that Table 3-1 names. -/

namespace Sys2Proof.Machine

/-! ### Input records -/

/-- The raw level of an input comes to `level` (R46, R48): a settled input runs a candidate while it differs from the settled
level; an input that has not settled begins its candidate afresh. -/
def InputRec.rawChange (r : InputRec) (level : Bool) (now ms : Nat) : InputRec :=
  if r.raw = level then r
  else { r with
    raw := level
    candidate := if r.hasSettled && level == r.settled then none else some ⟨now, ms⟩ }

/-- A change is taken (R46). -/
def InputRec.take (r : InputRec) (uptime : Nat) : InputRec :=
  { r with settled := r.raw, candidate := none, lastChange := some uptime }

/-- The first settling of an input (R48). -/
def InputRec.settle (r : InputRec) : InputRec := { r with settled := r.raw, hasSettled := true, candidate := none }

/-- The step at which an input's candidate has run, for one that has settled before or one that has not. -/
def InputRec.dueWhen (r : InputRec) (settledBefore : Bool) : Option Nat :=
  if r.hasSettled = settledBefore then r.candidate.map (·.due) else none

/-- Replace the record of an input. -/
def Station.setInput (st : Station) (i : Input) (r : InputRec) : Station := { st with ctu := st.ctu.setInput r i }

/-! ### Selectors -/

/-- Table 3-3. -/
def Selector.decode (hand auto : Bool) : Selector :=
  { position := if hand && !auto then .hand else if auto && !hand then .auto else .off, conflict := hand && auto }

/-- The selector of pump n as its settled contacts give it. -/
def Station.decoded (st : Station) (n : PumpNo) : Selector :=
  Selector.decode (st.settled (.hoaHand n)) (st.settled (.hoaAuto n))

/-- Replace pump n's selector record. -/
def Station.setSelector (st : Station) (n : PumpNo) (s : Selector) : Station :=
  { st with ctu := { st.ctu with selectors := st.ctu.selectors.set n s } }

/-- The CTU decodes again after a taken change of either contact, and delivers a position that differs (R50). -/
def Station.decodeSelector (st : Station) (n : PumpNo) : Station :=
  let old := st.ctu.selectors[n].position
  let new := st.decoded n
  let st := st.setSelector n new
  if new.position = old then st else st.pumpEvent n fun s => s.selectorChange n new.position

/-- Both contacts of a pair have settled. -/
def Station.pairSettled (st : Station) (n : PumpNo) : Bool :=
  st.ctu.hoaHand[n].hasSettled && st.ctu.hoaAuto[n].hasSettled

/-! ### Floats at the Level Engine (R27) -/

/-- Both level conditions are taken from the floats. -/
def Station.floatLevels (st : Station) : Station :=
  let high := st.settled .floatHigh
  let low := !st.settled .floatLow
  (({ st with lve := { st.lve with highLevel := high, lowLevel := low } }).report Alarm.highLevel high).report
    Alarm.lowLevel low

/-- The last published source is FLOAT (R27); before the first update there is none (assumption 27). -/
def LevelEngine.onFloat (l : LevelEngine) : Bool :=
  match l.published with
  | none => false
  | some u => u.source == .float

/-- The LVE takes a float change or the floats' settling notice; `high` when FLOAT_HIGH is to be reported (R27, R48). It reports
HIGH_LEVEL, LOW_LEVEL and then FLOAT_HIGH: the order is assumption 9, DESIGN CHOICE. -/
def Station.levelFloats (st : Station) (high : Bool) : Station :=
  let st := if st.lve.onFloat then st.floatLevels else st
  if high then st.report Alarm.floatHigh (st.settled .floatHigh) else st

/-- Two deliveries of one change, in either order (R49). -/
def Station.both (st : Station) (swapped : Bool) (f g : Station → Station) : Station := if swapped then f (g st) else g (f st)

/-! ### Delivery -/

/-- A taken change is delivered to the blocks that Table 3-1 names (R49). -/
def Station.deliver (st : Station) (i : Input) (on swapped : Bool) : Station :=
  match i with
  | .hoaHand n => st.decodeSelector n
  | .hoaAuto n => st.decodeSelector n
  | .runFb n =>
    (st.seeFeedback n).both swapped (fun s => s.pumpEvent n fun t => t.pumpFeedback n on) (fun s => s.stcFeedback n)
  | .pumpFault n => st.pumpEvent n fun s => s.pumpFaultChange n on
  | .limTop => (st.rakeContact .limTop on).settleStc
  | .limBottom => (st.rakeContact .limBottom on).settleStc
  | .torqueTrip => (st.rakeContact .torqueTrip on).settleStc
  | .skipFull => (st.rakeContact .skipFull on).settleStc
  | .floatHigh => st.both swapped Station.floatEvaluation (fun s => s.levelFloats true)
  | .floatLow => st.both swapped Station.floatEvaluation (fun s => s.levelFloats false)
  | .modeRemote => st
  | .maintKey => st
  | .genRun => st.genChange

/-- The STC's contacts have all settled (Table 3-1): RUN_FB 1 to 6 and GEN_RUN (assumption 26). -/
def Station.stcSettled (st : Station) : Bool :=
  (allPumps.all fun n => st.ctu.runFb[n].hasSettled) && st.ctu.genRun.hasSettled

/-- The RKC's contacts have all settled. -/
def Station.rakeSettled (st : Station) : Bool :=
  st.ctu.limTop.hasSettled && st.ctu.limBottom.hasSettled && st.ctu.torqueTrip.hasSettled && st.ctu.skipFull.hasSettled

/-- Both floats have settled. -/
def Station.floatsSettled (st : Station) : Bool := st.ctu.floatHigh.hasSettled && st.ctu.floatLow.hasSettled

/-- The first settling of a selector pair sets the held position and conflict without a delivery (R50). -/
def Station.settlePair (st : Station) (n : PumpNo) : Station :=
  if st.pairSettled n then st.setSelector n (st.decoded n) else st

/-- PRU n has its settling notice once its four contacts have settled (R48). -/
def Station.notePump (st : Station) (n : PumpNo) : Station :=
  if st.pumpNoticed n then st.pumpEvent n fun s => s.pumpNotice n else st

/-- The STC has its settling notice once its contacts have settled. -/
def Station.noteStc (st : Station) : Station := if st.stcSettled then st.stcNotice else st

/-- The RKC has its settling notice once its contacts have settled. -/
def Station.noteRake (st : Station) : Station := if st.rakeSettled then st.rakeNotice else st

/-- The DTY and the LVE have their settling notices once both floats have settled. -/
def Station.noteFloats (st : Station) (swapped : Bool) : Station :=
  if st.floatsSettled then st.both swapped Station.floatEvaluation (fun s => s.levelFloats true) else st

/-- A first settling delivers no change; the settling notice of a block follows the last of its contacts (R48). -/
def Station.notice (st : Station) (i : Input) (swapped : Bool) : Station :=
  match i with
  | .hoaHand n => (st.settlePair n).notePump n
  | .hoaAuto n => (st.settlePair n).notePump n
  | .runFb n => st.both swapped (fun s => s.notePump n) Station.noteStc
  | .pumpFault n => st.notePump n
  | .limTop => st.noteRake
  | .limBottom => st.noteRake
  | .torqueTrip => st.noteRake
  | .skipFull => st.noteRake
  | .floatHigh => st.noteFloats swapped
  | .floatLow => st.noteFloats swapped
  | .modeRemote => st
  | .maintKey => st
  | .genRun => st.noteStc

/-! ### The three rows -/

/-- RAW_LEVEL_CHANGE (R46, R48); a part held in reset goes on following its terminals and nothing else (R187, assumption 14). -/
def Station.rawLevel (st : Station) (i : Input) (level : Bool) : Station :=
  let r := st.ctu.input i
  st.setInput i (if st.held then { r with raw := level } else r.rawChange level st.clock (st.consts.debounce i))

/-- A change is taken and delivered (R46, R49). -/
def Station.takeChange (st : Station) (i : Input) (swapped : Bool) : Station :=
  let r := (st.ctu.input i).take st.uptime
  (st.setInput i r).deliver i r.settled swapped

/-- A first settling (R48). -/
def Station.firstSettle (st : Station) (i : Input) (swapped : Bool) : Station :=
  (st.setInput i (st.ctu.input i).settle).notice i swapped

/-- RAW_LEVEL_CHANGE. -/
def execRawLevelChange (i : Input) (level : Bool) (s : State) : Host.Outcome State Fault Refusal :=
  s.on fun st => st.rawLevel i level

/-- DEBOUNCE_EXPIRY. -/
def execDebounceExpiry (i : Input) (swapped : Bool) (s : State) : Host.Outcome State Fault Refusal :=
  s.on fun st => st.live fun st =>
    st.atStep ((st.ctu.input i).dueWhen true) fun st => st.takeChange i swapped

/-- FIRST_SETTLING. -/
def execFirstSettling (i : Input) (swapped : Bool) (s : State) : Host.Outcome State Fault Refusal :=
  s.on fun st => st.live fun st =>
    st.atStep ((st.ctu.input i).dueWhen false) fun st => st.firstSettle i swapped

end Sys2Proof.Machine
end

