-- ==== Sys2Proof/Machine/Curves.lean ====
section
/-! DEFINITION. The Curve Store (Chapter 2): validity, interpolation, loading, reading, commit and swap. -/

namespace Sys2Proof.Machine

/-- The top of a curve's y range (Table 2-1). -/
def CurveId.yTop : CurveId → Nat
  | .volume => Config.top24
  | .weir => Config.top16

/-- The points of a copy, slots 0 to n - 1 (R28). -/
def CurveCopy.points (c : CurveCopy) : List Point := c.slots.toList.take c.n

/-- Fault kinds (Table 2-2). -/
inductive CurveFault where
  | count | xRange | yRange | xOrder | yOrder
deriving DecidableEq, Repr

/-- Fault kinds take 0, 1 and so on in the order of Table 2-2 (R190). -/
def CurveFault.code : CurveFault → Nat
  | .count => 0 | .xRange => 1 | .yRange => 2 | .xOrder => 3 | .yOrder => 4

/-- The four point tests on a point, with its predecessor where it has one (Table 2-2, tests 2 to 5). -/
def pointFault (yTop : Nat) (prev : Option Point) (p : Point) : Option CurveFault :=
  if 30000 < p.x then some .xRange
  else if yTop < p.y then some .yRange
  else match prev with
    | none => none
    | some q => if p.x ≤ q.x then some .xOrder else if p.y < q.y then some .yOrder else none

/-- The point tests applied in ascending slot order, stopping at the first that fails (R29). -/
def pointsFault (yTop : Nat) : Nat → Option Point → List Point → Option (CurveFault × Nat)
  | _, _, [] => none
  | i, prev, p :: ps =>
    match pointFault yTop prev p with
    | some f => some (f, i)
    | none => pointsFault yTop (i + 1) (some p) ps

/-- The judgement of a copy: none when it is valid, else the fault kind and its position, 255 for a count fault (R29). -/
def CurveCopy.fault (id : CurveId) (c : CurveCopy) : Option (CurveFault × Nat) :=
  if c.n < 2 ∨ 16 < c.n then some (.count, 255) else pointsFault id.yTop 0 none c.points

/-- A copy is valid when every test passes (R29). -/
def CurveCopy.valid (id : CurveId) (c : CurveCopy) : Bool := (c.fault id).isNone

/-- The result of an interpolation: the value and the flags it sets (Table 2-3). -/
structure Interp where
  value : Nat
  low   : Bool
  high  : Bool
deriving DecidableEq, Repr

/-- The value within a segment (R31). -/
def segmentValue (mode : RoundMode) (p q : Point) (x : Nat) : Nat :=
  ((p.y : Int) + roundDiv mode (((q.y : Int) - p.y) * ((x : Int) - p.x)) (q.x - p.x)).toNat

/-- Interpolation at an `x` not below the first point: the segment whose points bound it, or the last point (Table 2-3). -/
def interpFrom (mode : RoundMode) (x : Nat) : Point → List Point → Interp
  | p, [] => { value := p.y, low := false, high := decide (p.x < x) }
  | p, q :: ps =>
    if x < q.x then { value := segmentValue mode p q x, low := false, high := false }
    else interpFrom mode x q ps

/-- Interpolation over points (R30). -/
def interpPoints (mode : RoundMode) (x : Nat) : List Point → Interp
  | [] => { value := 0, low := false, high := false }
  | p :: ps => if x < p.x then { value := p.y, low := true, high := false } else interpFrom mode x p ps

/-- Interpolation of a copy (R30). -/
def CurveCopy.interp (c : CurveCopy) (mode : RoundMode) (x : Nat) : Interp := interpPoints mode x c.points

/-- The sticky flags an interpolation sets (Table 2-3). -/
def Interp.flags (r : Interp) : FlagSet := { FlagSet.clear with curveLow := r.low, curveHigh := r.high }

/-! ### Requests -/

/-- Replace a curve. -/
def Station.setCurve (st : Station) (id : CurveId) (c : Curve) : Station := { st with crv := st.crv.setCurve c id }

/-- COPY CURVE (R32, R39). -/
def Station.copyCurve (st : Station) (code : Nat) : Reply × Station :=
  match CurveId.ofCode code with
  | none => (.range, st)
  | some id =>
    let c := st.crv.curve id
    if c.mark.isSome then (.final .refusedBusy [], st)
    else (.done (byte code ++ byte c.active.n), st.setCurve id { c with shadow := c.active })

/-- Write points into consecutive slots (R33). -/
def writePoints : List Point → Nat → Vector Point 16 → Vector Point 16
  | [], _, v => v
  | p :: ps, i, v => writePoints ps (i + 1) (v.setIfInBounds i p)

/-- WRITE CURVE POINTS (R33, R39): start slot `s`, and the points carried. -/
def Station.writeCurvePoints (st : Station) (code s : Nat) (points : List Point) : Reply × Station :=
  match CurveId.ofCode code with
  | none => (.range, st)
  | some id =>
    let c := st.crv.curve id
    let k := points.length
    if 15 < s ∨ k < 1 ∨ 16 < k ∨ 16 < s + k then (.range, st)
    else if c.mark.isSome then (.final .refusedBusy [], st)
    else (.done (byte code ++ byte (s + k)),
      st.setCurve id { c with shadow := { c.shadow with slots := writePoints points s c.shadow.slots } })

/-- SET CURVE COUNT (R34, R39). -/
def Station.setCurveCount (st : Station) (code n : Nat) : Reply × Station :=
  match CurveId.ofCode code with
  | none => (.range, st)
  | some id =>
    let c := st.crv.curve id
    if 16 < n then (.range, st)
    else if c.mark.isSome then (.final .refusedBusy [], st)
    else (.done (byte code ++ byte n), st.setCurve id { c with shadow := { c.shadow with n := n } })

/-- COMMIT CURVE presented at port `p` (R38, R39). -/
def Station.commitCurve (st : Station) (p : PortId) (code : Nat) : Reply × Station :=
  match CurveId.ofCode code with
  | none => (.range, st)
  | some id =>
    let c := st.crv.curve id
    if c.mark.isSome then (.final .refusedBusy [], st)
    else match c.shadow.fault id with
      | some (f, pos) => (.final .refusedRange (byte code ++ byte f.code ++ byte pos), st)
      | none => (⟨.pending, byte code, some (.commit id)⟩, st.setCurve id { c with mark := some p })

/-- The slots a READ CURVE reads from slot `i` with `k` points left, and whether it ends EXHAUSTED (R36). -/
def readSlots (descending : Bool) : Nat → Nat → List Nat × Bool
  | _, 0 => ([], true)
  | i, k + 1 =>
    if k = 0 then ([i], true)
    else if descending then
      (if i = 0 then ([i], false) else ((i :: (readSlots descending (i - 1) k).1), (readSlots descending (i - 1) k).2))
    else
      (if 15 ≤ i then ([i], false) else ((i :: (readSlots descending (i + 1) k).1), (readSlots descending (i + 1) k).2))

/-- One point of a READ CURVE reply: slot index, x, and y in full or limited to 65,535 (R37). That the limited y takes 2 bytes, on both
curves, is assumption 17: DESIGN CHOICE. -/
def pointBytes (long : Bool) (c : CurveCopy) (i : Nat) : List Byte :=
  let p := c.slots.toList.getD i ⟨0, 0⟩
  byte i ++ be 2 p.x ++ (if long then be 3 p.y else be 2 (min Config.top16 p.y))

/-- READ CURVE (R35 to R37): curve, copy, start slot, count, direction, form. The copy of the active points or of the shadow is
read whatever the pending-commit mark. -/
def Station.readCurve (st : Station) (code copy start count dir form : Nat) : Reply :=
  match CurveId.ofCode code with
  | none => .range
  | some id =>
    if 1 < copy ∨ 1 < dir ∨ 1 < form ∨ 15 < start ∨ count < 1 ∨ 16 < count then .range
    else
      let c := st.crv.curve id
      let k := if copy = 0 then c.active else c.shadow
      let long := form == 1
      let read := readSlots (dir == 1) start count
      let clipped := read.1.any fun i => decide (Config.top16 < (k.slots.toList.getD i ⟨0, 0⟩).y)
      .done (byte code ++ byte copy ++ byte k.n ++ flagByte c.mark.isSome ++ byte form ++
        read.1.flatMap (pointBytes long k) ++ byte read.1.length ++ byte (if read.2 then 0 else 1) ++
        (if long then [] else flagByte clipped))

/-! ### Commit stage and reset -/

/-- A pending commit of one curve is applied: the shadow becomes the active copy, the mark is cleared, and the reply of the
port the mark named is finalised (R40). -/
def Station.swap (st : Station) (id : CurveId) : Station :=
  let c := st.crv.curve id
  match c.mark with
  | none => st
  | some p =>
    (st.setCurve id { c with active := c.shadow, mark := none }).finalise p (.commit id) .done
      (byte id.code ++ byte c.shadow.n ++ be 4 (shownUptime st.uptime))

/-- A soft reset abandons a pending commit (R44). -/
def Station.abandon (st : Station) (id : CurveId) : Station :=
  let c := st.crv.curve id
  match c.mark with
  | none => st
  | some p =>
    (st.setCurve id { c with mark := none }).finalise p (.commit id) .refusedState (byte id.code ++ flagByte true)

end Sys2Proof.Machine
end

