-- ==== Sys2Proof/Machine/Store.lean ====
section
/-! DEFINITION. The Settings Store's operations (section 11.5): the items copied, a trigger, the end of a write. -/

namespace Sys2Proof.Machine

/-- Every item of R183 as it stands. -/
def Station.storedItems (st : Station) : StoredItems :=
  { wellA := st.lve.wellA.settings, wellB := st.lve.wellB.settings, inlet := st.lve.inlet.settings,
    weir := st.lve.weir.settings,
    pumps := Vector.ofFn fun n : Fin 6 => st.pumps[n].settings,
    rotation := st.dty.rotation.map (fun n => n.val + 1), altMode := st.dty.mode.code,
    setpoints := st.dty.setpoints, constants := st.consts,
    roundMode := st.lve.arith.mode.code, masks := st.lve.arith.masks,
    volumeCurve := st.crv.volume.active, weirCurve := st.crv.weir.active,
    startsTotal := Vector.ofFn fun n : Fin 6 => st.pumps[n].startsTotal,
    runTotal := Vector.ofFn fun n : Fin 6 => st.pumps[n].runTotal,
    cyclesTotal := st.rkc.cyclesTotal, eventCounter := st.ofm.eventCounter }

/-- A write begins: it copies every item and sets the write mark; it ends no more than 1.2 s later (R183, R184). -/
def Station.beginWrite (st : Station) : Station :=
  { st with sst := { st.sst with
      image := { st.sst.image with writeMark := true }
      inFlight := some { items := st.storedItems, deadline := st.uptime + 12 } } }

/-- A store write trigger (R184). -/
def Station.storeTrigger (st : Station) : Station :=
  match st.sst.inFlight with
  | none => st.beginWrite
  | some _ => { st with sst := { st.sst with followUp := true } }

/-- A port's coverage. -/
def Store.cover (s : Store) : PortId → Coverage
  | .a => s.coverA
  | .b => s.coverB

/-- Replace a port's coverage. -/
def Store.setCover (s : Store) (c : Coverage) : PortId → Store
  | .a => { s with coverA := c }
  | .b => { s with coverB := c }

/-- A save whose covering write has ended is finalised (R185). -/
def Station.finaliseSave (st : Station) (sound : Bool) (p : PortId) : Station :=
  match st.sst.cover p with
  | .current =>
    let st := if sound then st.finalise p .save .done (be 2 st.sst.writes)
      else st.finalise p .save .refusedState (flagByte true)
    { st with sst := st.sst.setCover .none p }
  | .none => st
  | .followUp => st

/-- A FOLLOW_UP coverage turns into CURRENT (R184). -/
def Coverage.promote : Coverage → Coverage
  | .followUp => .current
  | .current => .current
  | .none => .none

/-- A store write ends (R184): the image is read back and judged, covered saves are finalised, and a follow-up write begins or
the flag is cleared. `defect` is what the check word read back differs by. -/
def Station.endWrite (st : Station) (w : StoreWrite) (defect : BitVec 16) : Station :=
  let image : Image := { items := w.items, writeMark := false, check := w.items.checkWord ^^^ defect }
  let sound := image.sound
  let st := { st with sst := { st.sst with
    image := image, outcome := if sound then .done else .failed, writes := satAdd Config.top16 st.sst.writes 1 } }
  let st := if sound then st.report Alarm.settingsDefault false else st
  let st := (st.finaliseSave sound .a).finaliseSave sound .b
  if st.sst.followUp then
    ({ st with sst := { st.sst with
        followUp := false, coverA := st.sst.coverA.promote, coverB := st.sst.coverB.promote } }).beginWrite
  else { st with sst := { st.sst with inFlight := none } }

/-- SAVE SETTINGS at its owner (R185). -/
def Station.saveSettings (st : Station) (p : PortId) : Station :=
  let covered := match st.sst.inFlight with
    | none => Coverage.current
    | some _ => Coverage.followUp
  let st := st.storeTrigger
  { st with sst := st.sst.setCover covered p }

end Sys2Proof.Machine
end

