-- ==== Sys2Proof/Machine/Reports.lean ====
section
/-! DEFINITION. Station clock, daily summary, daily close and day rollover, TAKE REPORT and SET CLOCK (Chapter 10). -/

namespace Sys2Proof.Machine

/-- Seconds in a day. -/
def daySeconds : Nat := 86400

/-- Replace the summary in force. -/
def Station.setSummary (st : Station) (s : Summary) : Station := { st with rpq := { st.rpq with summary := s } }

/-- A pump's pumped volume in cubic metres, before it is held at 65,535 (R166). -/
def Station.pumpedVolume (st : Station) (n : PumpNo) : Nat :=
  (roundDiv st.lve.arith.mode ((st.pumps[n].runToday * st.pumps[n].settings.ratedFlow : Nat) : Int) 1000).toNat

/-- The summary with the figures it takes from the PRUs, the RKC and the OFM (R166). -/
def Station.dailyFigures (st : Station) : DailyRec :=
  { summary := st.rpq.summary
    starts := Vector.ofFn fun n : Fin 6 => min Config.top16 st.pumps[n].startsToday
    runSeconds := Vector.ofFn fun n : Fin 6 => st.pumps[n].runToday
    pumped := Vector.ofFn fun n : Fin 6 => min Config.top16 (st.pumpedVolume n)
    rakeCycles := st.rkc.cyclesToday, rakeJams := st.rkc.jamsToday }

/-- A pumped volume or a start count of the day lies above 65,535 (R166). -/
def Station.dailyOverRange (st : Station) : Bool :=
  allPumps.any fun n => decide (Config.top16 < st.pumpedVolume n) || decide (Config.top16 < st.pumps[n].startsToday)

/-- An event is open. -/
def Overflow.hasOpen (o : Overflow) : Bool :=
  match o.event with
  | none => false
  | some e => e.isOpen

/-- A daily close (R166): EVENT_OPEN_AT_END is fixed, the figures are taken and zeroed, a DAILY record is created. The summary
for the next day is begun by the caller. -/
def Station.dailyClose (st : Station) : Station :=
  let st := st.setSummary { st.rpq.summary with eventOpenAtEnd := st.ofm.hasOpen }
  let d := st.dailyFigures
  let st := if st.dailyOverRange then st.raiseFlags .saturatedOnly else st
  let st := { st with
    pumps := Vector.ofFn fun n : Fin 6 => { st.pumps[n] with startsToday := 0, runToday := 0 }
    rkc := { st.rkc with cyclesToday := 0, jamsToday := 0 } }
  st.record (.daily d)

/-- Day rollover (R167): a daily close, a new summary, a store write trigger. -/
def Station.rollover (st : Station) : Station :=
  let st := st.dailyClose
  (st.setSummary (.begun (st.rpq.stationTime / daySeconds) st.rpq.clockNotSet false)).storeTrigger

/-- What accrues at each whole second: run seconds (R112), seconds on generator and with a BUDGET-held head (R168). -/
def Station.accrueSecond (st : Station) : Station :=
  let st := st.runSecond
  let s := st.rpq.summary
  st.setSummary { s with
    genSeconds := if st.settled .genRun then satAdd Config.top32 s.genSeconds 1 else s.genSeconds
    budgetSeconds := if st.stc.budgetHeld then satAdd Config.top32 s.budgetSeconds 1 else s.budgetSeconds }

/-- The advance of station time at a whole second of uptime (R164), with a rollover at a multiple of 86,400 (R167). The
rollover and the second's accruals come in either order, which `rolloverFirst` names (R167, assumption 8). -/
def Station.advanceSecond (st : Station) (rolloverFirst : Bool) : Station :=
  let now := (st.rpq.stationTime + 1) % 4294967296
  let st := { st with rpq := { st.rpq with stationTime := now, nextSecond := st.rpq.nextSecond + 10 } }
  if now % daySeconds = 0 then
    (if rolloverFirst then st.rollover.accrueSecond else st.accrueSecond.rollover)
  else st.accrueSecond

/-- The RPQ takes an accrual of the OFM: litres, seconds, events (R144, R168). -/
def Station.accrueOverflow (st : Station) (litres seconds events : Nat) : Station :=
  let s := st.rpq.summary
  let tops := decide (Config.top24 < s.overflowVolume + litres) || decide (Config.top16 < s.eventsOpened + events)
  let st := st.setSummary { s with
    overflowVolume := satAdd Config.top24 s.overflowVolume litres
    overflowSeconds := satAdd Config.top32 s.overflowSeconds seconds
    eventsOpened := satAdd Config.top16 s.eventsOpened events }
  if tops then st.raiseFlags .saturatedOnly else st

/-- The larger of a held maximum and a value, when there is a value (R168). -/
def raiseMax (held value : Option Nat) : Option Nat :=
  match held, value with
  | h, none => h
  | none, some v => some v
  | some h, some v => some (max h v)

/-- The smaller of a held minimum and a value, when there is a value (R168). -/
def lowerMin (held value : Option Nat) : Option Nat :=
  match held, value with
  | h, none => h
  | none, some v => some v
  | some h, some v => some (min h v)

/-- The RPQ adds a level update to the summary in force (R168). -/
def Station.accrueUpdate (st : Station) (u : LevelUpdate) : Station :=
  let s := st.rpq.summary
  st.setSummary { s with
    maxW := raiseMax s.maxW u.w, minW := lowerMin s.minW u.w, peakQin := raiseMax s.peakQin u.qIn
    floatSeconds := if u.source = .float then satAdd Config.top32 s.floatSeconds 1 else s.floatSeconds }

/-- TAKE REPORT (R173). -/
def Station.takeReport (st : Station) (seq : Nat) : Reply × Station :=
  match st.rpq.queue with
  | [] => (.state, st)
  | r :: rs =>
    if r.seq = seq then
      (.done (be 2 seq ++ byte rs.length), { st with rpq := { st.rpq with queue := rs } })
    else (.final .refusedStale (be 2 r.seq ++ byte (r :: rs).length), st)

/-- The OFM's clock notice (R141, R165). -/
def Station.clockNotice (st : Station) : Station :=
  match st.ofm.state, st.ofm.event with
  | .spilling, some e | .easing, some e =>
    { st with ofm := { st.ofm with event := some { e with flags := { e.flags with clockChanged := true } } } }
  | _, _ => st

/-- SET CLOCK (R165), step by step. -/
def Station.setClock (st : Station) (t : Nat) : Reply × Station :=
  let old := st.rpq.stationTime
  let dayChanges := t / daySeconds ≠ old / daySeconds
  let st := st.setSummary { st.rpq.summary with clockChanged := true }
  let st := if dayChanges then st.dailyClose else st
  let st := { st with rpq := { st.rpq with stationTime := t, clockNotSet := false } }
  let st := if dayChanges then st.setSummary (.begun (t / daySeconds) false true) else st
  let st := st.record (.station (.clockSet old t))
  (.done (be 4 old ++ be 4 t), st.clockNotice)

end Sys2Proof.Machine
end

