-- ==== Sys2Proof/Machine/Overflow.lean ====
section
/-! DEFINITION. The Overflow Monitor and the Trace Buffer (Chapter 8). -/

namespace Sys2Proof.Machine

/-! ### Trace Buffer -/

/-- A trigger from the OFM (R148). -/
def Station.triggerTrace (st : Station) (uptime : Nat) : Station :=
  if st.trb.state = .live then
    { st with trb := { st.trb with state := .triggered, postCount := 64, triggerUptime := some uptime } }
  else st

/-- The entry that the TRB takes of an update (Table 8-7). -/
def Station.traceEntry (st : Station) (u : LevelUpdate) : TraceEntry :=
  { stationTime := u.stationTime, w := u.w, source := u.source, inlet := u.inlet, head := u.head, qIn := u.qIn
    running := Vector.ofFn fun n : Fin 6 => st.pumps[n].settings.installed && st.settled (.runFb n)
    rake := st.rkc.state }

/-- Append at the tail, first removing the oldest at 256 entries (R147). -/
def pushEntry (entries : List TraceEntry) (e : TraceEntry) : List TraceEntry :=
  (if entries.length < Config.traceCap then entries else entries.drop 1) ++ [e]

/-- An update's entry counts after a trigger when its cycle uptime is later than the trigger uptime (R148). -/
def Trace.counts (t : Trace) (u : LevelUpdate) : Bool :=
  match t.triggerUptime with
  | none => false
  | some g => decide (g < u.cycleUptime)

/-- The post-trigger count goes down by one, and the trace freezes at 0 (R148). -/
def Trace.countDown (t : Trace) (u : LevelUpdate) : Trace :=
  if t.state = .triggered ∧ t.counts u = true then
    { t with postCount := t.postCount - 1, state := if t.postCount - 1 = 0 then .frozen else .triggered }
  else t

/-- The TRB takes a level update (R147, R148). -/
def Station.traceUpdate (st : Station) (u : LevelUpdate) : Station :=
  if st.trb.state = .frozen then st
  else if st.trb.divider + 1 < st.consts.traceInterval then
    { st with trb := { st.trb with divider := st.trb.divider + 1 } }
  else
    { st with trb := ({ st.trb with
        entries := pushEntry st.trb.entries (st.traceEntry u), divider := 0 } : Trace).countDown u }

/-- RELEASE TRACE (R149). -/
def Station.releaseTrace (st : Station) : Reply × Station :=
  if st.trb.state = .frozen then (.done [], { st with trb := .powerUp }) else (.state, st)

/-! ### Overflow Monitor -/

/-- The onset fields cleared, as at a return to QUIET (R136). -/
def Overflow.clearOnset (o : Overflow) : Overflow :=
  { o with onsetCount := 0, provisional := 0, onsetTime := none, onsetHead := none, onsetFlow := none }

/-- The flags that an update finds (R140). -/
def EventFlags.judge (f : EventFlags) (capacity blinded : Bool) (source : Source) : EventFlags :=
  { f with
    capacityHeld := f.capacityHeld || capacity, screenBlinded := f.screenBlinded || blinded
    levelDegraded := f.levelDegraded || (source == .float) }

/-- No condition flag. -/
def EventFlags.none : EventFlags :=
  { capacityHeld := false, screenBlinded := false, levelDegraded := false, curveChanged := false, clockChanged := false,
    weirGap := false, saturated := false }

/-- Onset tracking in QUIET and ONSET at an update that carries a head (R136). -/
def Overflow.track (o : Overflow) (c : Constants) (time head flow : Nat) : Overflow :=
  if c.ovfStart ≤ head then
    match o.state with
    | .onset =>
      { o with
        provisional := o.provisional + flow, onsetCount := o.onsetCount + 1
        onsetHead := raiseMax o.onsetHead (some head), onsetFlow := raiseMax o.onsetFlow (some flow) }
    | .quiet | .spilling | .easing =>
      { o with
        state := .onset, onsetCount := 1, provisional := flow, onsetTime := some time, onsetHead := some head
        onsetFlow := some flow }
  else { o.clearOnset with state := .quiet }

/-- The event counter raised by one, wrapping from 65,535 to 1 (R137). -/
def nextEvent (n : Nat) : Nat := if Config.top16 ≤ n then 1 else n + 1

/-- The event record formed at an opening, its flags judged for the opening update (R137, R140). -/
def Station.openedEvent (st : Station) (u : LevelUpdate) : EventRec :=
  { number := nextEvent st.ofm.eventCounter, isOpen := true, openTime := st.ofm.onsetTime.getD u.stationTime
    closeTime := none, spillSeconds := st.ofm.onsetCount, gapSeconds := 0, peakHead := st.ofm.onsetHead.getD 0
    peakFlow := st.ofm.onsetFlow.getD 0, volume := st.ofm.provisional
    flags := EventFlags.none.judge st.stc.capacityHeld st.rkc.blinded u.source, closeReason := none }

/-- An event opens (R137): the record is formed, the onset fields are cleared, and the neighbours are handed what they are
owed. -/
def Station.openEvent (st : Station) (u : LevelUpdate) (head : Nat) : Station :=
  let e := st.openedEvent u
  let litres := st.ofm.provisional
  let seconds := st.ofm.onsetCount
  let st := { st with ofm := { st.ofm.clearOnset with
    state := .spilling, easingCount := 0, eventCounter := e.number, event := some e } }
  let st := st.record (.overflowOpen e.number e.openTime head)
  let st := st.accrueOverflow litres seconds 1
  (((st.triggerTrace u.cycleUptime).storeTrigger).report Alarm.overflow true)

/-- The event closes (R143, R146). -/
def Station.closeEvent (st : Station) (e : EventRec) (time : Nat) (why : CloseReason) : Station :=
  let e := { e with isOpen := false, closeTime := some time, closeReason := some why }
  let st := { st with ofm := { st.ofm with state := .quiet, easingCount := 0, event := some e } }
  (st.record (.overflowClose e)).report Alarm.overflow false

/-- The litres an update adds to an event's volume (R142). -/
def EventRec.added (e : EventRec) (flow : Nat) : Nat := min Config.top24 (e.volume + flow) - e.volume

/-- An update that carries a head adds to the open event (R138, R142). -/
def EventRec.add (e : EventRec) (head flow : Nat) : EventRec :=
  { e with
    volume := satAdd Config.top24 e.volume flow, spillSeconds := satAdd Config.top32 e.spillSeconds 1
    peakHead := max e.peakHead head, peakFlow := max e.peakFlow flow
    flags := { e.flags with saturated := e.flags.saturated || decide (Config.top24 < e.volume + flow) } }

/-- How an update with a head moves the monitor of an open event (R138): the state and the easing count. -/
def Overflow.move (o : Overflow) (c : Constants) (head : Nat) : MonState × Nat :=
  if c.ovfEnd ≤ head then (.spilling, 0)
  else match o.state with
    | .easing => (.easing, o.easingCount + 1)
    | .quiet | .onset | .spilling => (.easing, 1)

/-- An update while the event is open (R138 to R140, R142 to R144). Once the volume is saturated, each further addition sets the
sticky flag again (R142). -/
def Station.eventUpdate (st : Station) (u : LevelUpdate) (e : EventRec) : Station :=
  let judged := fun f : EventFlags => f.judge st.stc.capacityHeld st.rkc.blinded u.source
  match u.head, u.qWeir with
  | some head, some flow =>
    let e' := e.add head flow
    let e' := { e' with flags := judged e'.flags }
    let m := st.ofm.move st.consts head
    let st := { st with ofm := { st.ofm with state := m.1, easingCount := m.2, event := some e' } }
    let st := if e'.flags.saturated then st.raiseFlags .saturatedOnly else st
    let st := st.accrueOverflow (e.added flow) 1 0
    if m.1 = .easing ∧ st.consts.offCycles ≤ m.2 then st.closeEvent e' u.stationTime .normal else st
  | _, _ =>
    let e' := { e with gapSeconds := satAdd Config.top32 e.gapSeconds 1, flags := { e.flags with weirGap := true } }
    { st with ofm := { st.ofm with event := some { e' with flags := judged e'.flags } } }

/-- The OFM takes a level update (R136 to R144). -/
def Station.overflowUpdate (st : Station) (u : LevelUpdate) : Station :=
  let st := { st with ofm := { st.ofm with lastHead := u.head, lastFlow := u.qWeir } }
  match st.ofm.state, st.ofm.event with
  | .spilling, some e | .easing, some e => st.eventUpdate u e
  | .spilling, none | .easing, none => st
  | .quiet, _ | .onset, _ =>
    match u.head, u.qWeir with
    | some head, some flow =>
      let st := { st with ofm := st.ofm.track st.consts u.stationTime head flow }
      if st.ofm.state = .onset ∧ st.consts.onCycles ≤ st.ofm.onsetCount then st.openEvent u head else st
    | _, _ => st

/-- The CRV's notice of a WEIR swap (R42, R141). -/
def Station.curveNotice (st : Station) : Station :=
  match st.ofm.state, st.ofm.event with
  | .spilling, some e | .easing, some e =>
    { st with ofm := { st.ofm with event := some { e with flags := { e.flags with curveChanged := true } } } }
  | _, _ => st

/-- The OFM's soft reset handling (R146). -/
def Station.softResetOverflow (st : Station) : Station :=
  let st := match st.ofm.state, st.ofm.event with
    | .spilling, some e | .easing, some e => st.closeEvent e st.rpq.stationTime .reset
    | _, _ => { st with ofm := { st.ofm.clearOnset with state := .quiet, easingCount := 0 } }
  st.report Alarm.overflow false

end Sys2Proof.Machine
end

