-- ==== Sys2Proof/Machine/Level.lean ====
section
/-! DEFINITION. The Level Engine (Chapter 1): the measurement cycle stage by stage, WRITE CHANNEL, SET ARITH CONTROL. -/

namespace Sys2Proof.Machine

/-! ### Channels -/

/-- The class of a raw count (Table 1-3). -/
def SampleClass.ofCount (r : Nat) : SampleClass :=
  if r < 720 then .under else if r < 800 then .clamped else if r ≤ 4000 then .good
  else if r ≤ 4080 then .clamped else .over

/-- GOOD or CLAMPED. -/
def SampleClass.valid : SampleClass → Bool
  | .good => true
  | .clamped => true
  | .under => false
  | .over => false
  | .none => false

/-- The clamped count of a valid sample (Table 1-3). -/
def clampedCount (r : Nat) : Nat := max 800 (min 4000 r)

/-- A valid sample scaled, in sixteenths of a millimetre (R4). -/
def ChanSettings.scale (c : ChanSettings) (mode : RoundMode) (r : Nat) : Nat :=
  c.offset * 16 + (roundDiv mode (((clampedCount r - 800) * c.span : Nat) : Int) 200).toNat

/-- One filter step (R5). -/
def filterStep (mode : RoundMode) (k f v : Nat) : Nat := ((f : Int) + roundDiv mode ((v : Int) - f) (2 ^ k)).toNat

/-- The filter runs on a sample `v`. -/
def Channel.filtered (c : Channel) (mode : RoundMode) (v : Nat) : Channel :=
  { c with filter := filterStep mode c.settings.shift c.filter v }

/-- Table 1-4, the column of a valid sample scaled to `v`. -/
def Channel.onValid (c : Channel) (mode : RoundMode) (v : Nat) : Channel :=
  match c.state with
  | .ok => { c.filtered mode v with badRun := 0 }
  | .suspect => { c.filtered mode v with state := .ok, badRun := 0 }
  | .failed => { c with state := .recovering, goodRun := 1, filter := v }
  | .recovering =>
    if 3 ≤ c.goodRun + 1 then { c.filtered mode v with state := .ok, goodRun := 0 }
    else { c.filtered mode v with goodRun := c.goodRun + 1 }

/-- Entry to FAILED: both run counts are 0 (R6). -/
def Channel.fail (c : Channel) : Channel := { c with state := .failed, badRun := 0, goodRun := 0 }

/-- Table 1-4, the column of an invalid sample. -/
def Channel.onInvalid (c : Channel) : Channel :=
  match c.state with
  | .ok => { c with state := .suspect, badRun := 1 }
  | .suspect => if 3 ≤ c.badRun + 1 then c.fail else { c with badRun := c.badRun + 1 }
  | .failed => c
  | .recovering => c.fail

/-- The level formed of the filter state, each cycle (R5). -/
def levelOf (mode : RoundMode) (f : Nat) : Nat := (roundDiv mode (f : Int) 16).toNat

/-- A channel through a cycle (R3 to R6). -/
def Channel.cycle (c : Channel) (mode : RoundMode) (count : BitVec 12) : Channel :=
  let cls := SampleClass.ofCount count.toNat
  let c := { c with sample := cls, raw := count }
  let c := if cls.valid then c.onValid mode (c.settings.scale mode count.toNat) else c.onInvalid
  { c with level := levelOf mode c.filter }

/-- A channel is usable in OK and SUSPECT. -/
def ChanState.usable : ChanState → Bool
  | .ok => true
  | .suspect => true
  | .failed => false
  | .recovering => false

/-- The level a channel offers (R7). -/
def Channel.offered (c : Channel) : Option Nat := if c.state.usable then some c.level else none

/-! ### The stages of a cycle (R1) -/

/-- Empty the inflow ring (R23). -/
def Station.emptyRing (st : Station) : Station := { st with lve := { st.lve with ring := [] } }

/-- The commit stage (R40): both pending commits are applied; a VOLUME swap empties the ring (R41), a WEIR swap is told to the
OFM (R42). -/
def Station.commitStage (st : Station) : Station :=
  let st := if st.crv.volume.mark.isSome then (st.swap .volume).emptyRing else st
  if st.crv.weir.mark.isSome then (st.swap .weir).curveNotice else st

/-- One of the four counts was clamped. -/
def LevelEngine.anyClamped (l : LevelEngine) : Bool :=
  l.wellA.sample == .clamped || l.wellB.sample == .clamped || l.inlet.sample == .clamped || l.weir.sample == .clamped

/-- Sampling, scaling, filter and channel state of all four channels (R3 to R6). -/
def Station.sampleStage (st : Station) (a b i w : BitVec 12) : Station :=
  let m := st.lve.arith.mode
  let st := { st with lve := { st.lve with
    wellA := st.lve.wellA.cycle m a, wellB := st.lve.wellB.cycle m b
    inlet := st.lve.inlet.cycle m i, weir := st.lve.weir.cycle m w } }
  if st.lve.anyClamped then st.raiseFlags { FlagSet.clear with scaleClamp := true } else st

/-- The outcome of the well vote. -/
structure Vote where
  w           : Option Nat
  source      : Source
  disagreeing : Bool
deriving DecidableEq, Repr

/-- Table 1-7. -/
def wellVote (mode : RoundMode) (disagree : Nat) (a b : Option Nat) : Vote :=
  match a, b with
  | some a, some b =>
    if max a b - min a b ≤ disagree then ⟨some (roundDiv mode ((a + b : Nat) : Int) 2).toNat, .dual, false⟩
    else ⟨some (max a b), .dual, true⟩
  | some a, none => ⟨some a, .singleA, false⟩
  | none, some b => ⟨some b, .singleB, false⟩
  | none, none => ⟨none, .float, false⟩

/-- The vote of this cycle (R15). -/
def Station.vote (st : Station) : Vote :=
  wellVote st.lve.arith.mode st.consts.disagree st.lve.wellA.offered st.lve.wellB.offered

/-- The source of the cycle before; before the first update READ WELL gives FLOAT (R25). -/
def LevelEngine.lastSource (l : LevelEngine) : Source :=
  match l.published with
  | none => .float
  | some u => u.source

/-- The source moves into or out of FLOAT (R17). -/
def crossesFloat (old new : Source) : Bool := (old == .float) != (new == .float)

/-- The vote stage: the disagreement run (R16), and the ring emptied on a change into or out of FLOAT (R17, R23). -/
def Station.voteStage (st : Station) (v : Vote) : Station :=
  let st := if crossesFloat st.lve.lastSource v.source then st.emptyRing else st
  { st with lve := { st.lve with
    disagreeRun := if v.disagreeing then min 30 (st.lve.disagreeRun + 1) else 0 } }

/-- An interpolation of an active curve at an input that may be absent, with the flags it sets (R18, R19). -/
def Station.readActive (st : Station) (c : CurveCopy) (x : Option Nat) : Option Nat × Station :=
  match x with
  | none => (none, st)
  | some x =>
    let r := c.interp st.lve.arith.mode x
    (some r.value, if r.low || r.high then st.raiseFlags r.flags else st)

/-- Q_out of a cycle (R20). -/
def Station.pumpsFlow (st : Station) : Nat :=
  sumPumps fun n => if st.pumps[n].settings.installed && st.settled (.runFb n) then st.pumps[n].settings.ratedFlow else 0

/-- The sum of the two terms of inflow, when Q_in is present (R21). -/
def inflowSum (mode : RoundMode) (n : Nat) (v : Option Nat) (qOut : Nat) (ring : List CycleRec) : Option Int :=
  let window := ring.drop (ring.length - n)
  match v, window with
  | some v, oldest :: rest =>
    if n ≤ ring.length ∧ (oldest :: rest).all (fun r => r.v.isSome) = true then
      some (roundDiv mode ((v : Int) - (oldest.v.getD 0 : Nat)) n +
        roundDiv mode ((qOut + (rest.map (·.qOut)).sum : Nat) : Int) n)
    else none
  | _, _ => none

/-- Q_in held to its range (R22). -/
def inflowValue (s : Int) : Nat := min Config.top16 s.toNat

/-- The flags that a sum sets (R22). -/
def inflowFlags (s : Int) : FlagSet :=
  { FlagSet.clear with inflowNeg := decide (s < 0), saturated := decide ((Config.top16 : Int) < s) }

/-- A cycle record is pushed into the ring, which holds sixteen (R20). -/
def pushCycle (ring : List CycleRec) (r : CycleRec) : List CycleRec :=
  (if ring.length < Config.ringCap then ring else ring.drop 1) ++ [r]

/-- The inflow stage (R20 to R22). -/
def Station.inflowStage (st : Station) (v : Option Nat) : Option Nat × Station :=
  let qOut := st.pumpsFlow
  let sum := inflowSum st.lve.arith.mode st.consts.inflowWindow v qOut st.lve.ring
  let st := match sum with
    | none => st
    | some s => if s < 0 ∨ (Config.top16 : Int) < s then st.raiseFlags (inflowFlags s) else st
  (sum.map inflowValue, { st with lve := { st.lve with ring := pushCycle st.lve.ring ⟨v, qOut⟩ } })

/-- HIGH_LEVEL and LOW_LEVEL from W (R26). -/
def highFromLevel (t : Setpoints) (held : Bool) (w : Nat) : Bool :=
  if t.highAlarm ≤ w then true else if w + 50 < t.highAlarm then false else held

def lowFromLevel (t : Setpoints) (held : Bool) (w : Nat) : Bool :=
  if w ≤ t.lowAlarm then true else if t.lowAlarm + 50 < w then false else held

/-- The two level conditions at a cycle (R26, R27). -/
def Station.levelConditions (st : Station) (w : Option Nat) : Bool × Bool :=
  match w with
  | some w => (highFromLevel st.dty.setpoints st.lve.highLevel w, lowFromLevel st.dty.setpoints st.lve.lowLevel w)
  | none => (st.settled .floatHigh, !st.settled .floatLow)

/-- The alarm stage: every condition of the LVE in point order; a report equal to the condition held changes nothing (R154).
FLOAT_HIGH is reported at the first cycle after a reset alone (R27). -/
def Station.alarmStage (st : Station) (v : Vote) : Station :=
  let c := st.levelConditions v.w
  let st := { st with lve := { st.lve with highLevel := c.1, lowLevel := c.2 } }
  let st := st.report Alarm.highLevel c.1
  let st := if st.lve.fresh then st.report Alarm.floatHigh (st.settled .floatHigh) else st
  let st := st.report Alarm.lowLevel c.2
  let st := st.report Alarm.levelDisagree (st.lve.disagreeRun == 30)
  let st := st.report Alarm.wellAFailed (!st.lve.wellA.state.usable)
  let st := st.report Alarm.wellBFailed (!st.lve.wellB.state.usable)
  let st := st.report Alarm.sourceFloat (v.source == .float)
  let st := st.report Alarm.inletFailed (!st.lve.inlet.state.usable)
  let st := st.report Alarm.weirFailed (!st.lve.weir.state.usable)
  st.judgeArith

/-- The level update is published, and the next cycle is due 1.0 s on (R24, R1). -/
def Station.publish (st : Station) (u : LevelUpdate) : Station :=
  { st with lve := { st.lve with published := some u, nextCycle := st.uptime + 10, fresh := false } }

/-- The Rake Controller takes the update: DIFF, then the interval length, then blinding, each a handling of its own
(R118, R119, R130, assumption 10). -/
def Station.rakeUpdate (st : Station) (u : LevelUpdate) : Station :=
  ((((st.rakeDifferential u).settleStc.rakeInterval u).settleStc).rakeBlinding u).settleStc

/-- A reader takes the level update (R24). -/
def Station.react (u : LevelUpdate) (st : Station) : Reader → Station
  | .duty => st.evaluate u
  | .rake => st.rakeUpdate u
  | .overflow => st.overflowUpdate u
  | .trace => st.traceUpdate u
  | .reports => st.accrueUpdate u

/-- The cycle as far as the update it publishes: the update, and the station at the end of the alarm stage. -/
def Station.formUpdate (st : Station) (a b i w : BitVec 12) : LevelUpdate × Station :=
  let st := st.commitStage.sampleStage a b i w
  let v := st.vote
  let st := st.voteStage v
  let volume := st.readActive st.crv.volume.active v.w
  let st := volume.2
  let head := st.lve.weir.offered
  let flow := st.readActive st.crv.weir.active head
  let st := flow.2
  let qIn := st.inflowStage volume.1
  let st := qIn.2.alarmStage v
  ({ cycleUptime := st.uptime, stationTime := st.rpq.stationTime, w := v.w, source := v.source, v := volume.1
     qIn := qIn.1, inlet := st.lve.inlet.offered, weirState := st.lve.weir.state, head := head, qWeir := flow.1 }, st)

/-- A measurement cycle, taken whole (R1); the readers take the update in `order` (R24, assumption 6). -/
def Station.runCycle (st : Station) (a b i w : BitVec 12) (order : List Reader) : Station :=
  let f := st.formUpdate a b i w
  order.foldl (Station.react f.1) (f.2.publish f.1)

/-- MEASUREMENT_CYCLE. -/
def execMeasurementCycle (wellA wellB inlet weir : BitVec 12) (order : List Reader) (s : State) :
    Host.Outcome State Fault Refusal :=
  if orderOk order then
    s.on fun st => st.live fun st =>
      st.atTick (some st.lve.nextCycle) fun st => st.runCycle wellA wellB inlet weir order
  else .refused .illFormed

/-! ### Requests -/

/-- A channel of the engine. -/
def LevelEngine.channel (l : LevelEngine) : ChanName → Channel
  | .wellA => l.wellA
  | .wellB => l.wellB
  | .inlet => l.inlet
  | .weir => l.weir

/-- Replace a channel. -/
def LevelEngine.setChannel (l : LevelEngine) (c : Channel) : ChanName → LevelEngine
  | .wellA => { l with wellA := c }
  | .wellB => { l with wellB := c }
  | .inlet => { l with inlet := c }
  | .weir => { l with weir := c }

/-- WRITE CHANNEL (R2). -/
def Station.writeChannel (st : Station) (code : Nat) (c : ChanSettings) : Reply × Station :=
  match ChanName.ofCode code with
  | none => (.range, st)
  | some name =>
    if c.checks.all id then
      (.done [], { st with lve := st.lve.setChannel { st.lve.channel name with settings := c } name })
    else (.range, st)

/-- Indications carried one byte each, in the order of Table 1-6 (assumption 18). -/
def FlagSet.ofBytes (v : List Nat) : FlagSet :=
  { scaleClamp := nth v 0 != 0, curveLow := nth v 1 != 0, curveHigh := nth v 2 != 0, inflowNeg := nth v 3 != 0,
    saturated := nth v 4 != 0 }

/-- SET ARITH CONTROL (R13): the flags named are cleared, the mode and masks loaded, both conditions evaluated. -/
def Station.setArithControl (st : Station) (mode : Nat) (masks clear : FlagSet) : Reply × Station :=
  match RoundMode.ofCode mode with
  | none => (.range, st)
  | some m =>
    (.done [], ({ st with lve := { st.lve with
      arith := { mode := m, flags := st.lve.arith.flags.without clear, masks := masks } } }).judgeArith)

end Sys2Proof.Machine
end

