-- ==== Sys2Proof/Machine/Operands.lean ====
section
/-! DEFINITION. Operands: what a select period carries and how a port unit judges it (sections 11.1 to 11.4), and the exchange's
output. -/

namespace Sys2Proof.Machine

/-! ### Output of a select period -/

/-- The port status byte (R179, Table 11-7). -/
def Station.statusByte (st : Station) (p : PortId) : Byte :=
  bitsByte [false, false, false, st.settled .maintKey, st.settled .modeRemote, st.attention p, (st.port p).notTaken,
    (st.port p).slot.status == .pending]

/-- The slot as a reply frame: three header bytes and the data (Table 11-6). -/
def Slot.bytes (s : Slot) : List Byte := byte s.status.code ++ [s.code] ++ byte s.data.length ++ s.data

/-- The byte a period sends at its k-th byte, from 0: the status byte, the slot, then zeros (R176). -/
def Latched.sends (l : Latched) (k : Nat) : Byte := (l.statusByte :: l.slot.bytes).getD k 0

/-- SELECT_FALL: the status byte and the slot are latched (R176). -/
def Station.latch (st : Station) (p : PortId) : Station :=
  st.setPort { st.port p with latched := some ⟨st.statusByte p, (st.port p).slot⟩ } p

/-- A slot that a period of `clocked` bytes has read whole: final, the status byte and all its bytes clocked (R178). -/
def Slot.readBy (s : Slot) (clocked : Nat) : Bool := s.status.final && decide (4 + s.data.length ≤ clocked)

/-- The rise of select after `clocked` bytes ends the period: the read indication is set when the latched slot has been read
whole (R178). -/
def Port.rise (q : Port) (clocked : Nat) : Port :=
  match q.latched with
  | none => q
  | some l => { q with readInd := q.readInd || l.slot.readBy clocked, latched := none }

/-- The rise of select at a port. -/
def Station.rise (st : Station) (p : PortId) (clocked : Nat) : Station := st.setPort ((st.port p).rise clocked) p

/-- The not-taken flag of a port. -/
def Station.setNotTaken (st : Station) (p : PortId) (b : Bool) : Station := st.setPort { st.port p with notTaken := b } p

/-- The reply slot is PENDING. -/
def Station.slotPending (st : Station) (p : PortId) : Bool := (st.port p).slot.status == .pending

/-! ### Request frames -/

/-- The parameters of a request frame, none when fewer than L + 2 bytes arrived or L exceeds 250 (R177 step 3). `rest` is what
followed the code byte; bytes after the parameters are padding. -/
def frameParams : List Byte → Option (List Byte)
  | [] => none
  | l :: ps => if Config.dataCap < l.toNat ∨ ps.length < l.toNat then none else some (ps.take l.toNat)

/-- What a request's parameters occupy: a fixed length, or a list of items behind a count field that stands after `before`
bytes, each item `width` bytes (R177 step 3). -/
inductive Form where
  | fixed (length : Nat)
  | counted (before width : Nat)
deriving DecidableEq, Repr

/-- L is the length that the parameters occupy, and a list's count agrees with it. -/
def Form.fits (f : Form) (ps : List Byte) : Bool :=
  match f with
  | .fixed n => ps.length == n
  | .counted before width =>
    decide (before < ps.length) && ps.length == before + 1 + width * (ps.getD before 0).toNat

/-- The numbers that parameter bytes spell, cut into fields of these widths. -/
def params (widths : List Nat) (ps : List Byte) : List Nat := readFields widths ps

/-! ### Authority -/

/-- Request classes (Table 11-1). -/
inductive ReqClass where
  | view | ack | operate | configure | report
deriving DecidableEq, Repr

/-- Table 11-2. -/
def permitted (remote maint : Bool) : PortId → ReqClass → Bool
  | _, .view => true
  | _, .ack => true
  | .a, .operate => !remote || maint
  | .b, .operate => remote || maint
  | _, .configure => maint
  | .a, .report => maint
  | .b, .report => true

/-- The port unit permits a class by the settled keys at intake (R180). -/
def Station.permits (st : Station) (p : PortId) (c : ReqClass) : Bool :=
  permitted (st.settled .modeRemote) (st.settled .maintKey) p c

/-! ### Intake -/

/-- A request of the catalogue: its code, class and form (Table 11-3). -/
structure Kind where
  code : Byte
  cls  : ReqClass
  form : Form
deriving DecidableEq, Repr

/-- A request passes to its owner, and the reply that the owner forms takes the slot (R177 step 5). -/
def Station.answer (p : PortId) (code : Byte) (r : Reply × Station) : Station := r.2.putReply p code r.1

/-- Steps 3 to 5 of R177. -/
def Station.judge (st : Station) (p : PortId) (k : Kind) (owner : List Byte → Station → Reply × Station)
    (rest : List Byte) : Station :=
  match frameParams rest with
  | none => st.putReply p k.code (.final .refusedFormat [])
  | some ps =>
    if !k.form.fits ps then st.putReply p k.code (.final .refusedFormat [])
    else if !st.permits p k.cls then st.putReply p k.code (.final .refusedAuthority [])
    else Station.answer p k.code (owner ps st)

/-- The rise of select after a period that carries a request of the catalogue (R177): nothing while held in reset (R187), not
taken behind a PENDING reply, else judged. The rise sets the read indication before the request is handled: assumption 43, DESIGN
CHOICE. -/
def Station.intake (st : Station) (p : PortId) (k : Kind) (owner : List Byte → Station → Reply × Station)
    (rest : List Byte) : Station :=
  st.live fun s =>
    let s := s.rise p (1 + rest.length)
    if s.slotPending p then s.setNotTaken p true else s.judge p k owner rest

/-- A request whose owner only reads. -/
def reading (f : List Byte → Station → Reply) (ps : List Byte) (st : Station) : Reply × Station := (f ps st, st)

end Sys2Proof.Machine
end

