-- ==== Sys2Proof/Machine/Replies.lean ====
section
/-! DEFINITION. The data of the replies to the VIEW requests (R190): fields in the order their rules list them. -/

namespace Sys2Proof.Machine

/-! ### READ STATUS -/

/-- One input of the contact section (R51, R190). -/
def InputRec.bytes (r : InputRec) : List Byte :=
  [bitsByte [r.settled, r.hasSettled, r.candidate.isSome, r.lastChange.isSome]] ++
    be 4 (shownUptime (r.lastChange.getD 0))

/-- A selector byte: position in bits 1 to 0, conflict in bit 2 (R190). -/
def Selector.byte (s : Selector) : Byte := BitVec.ofNat 8 (s.position.code + if s.conflict then 4 else 0)

/-- The waiting direction of a drive (R53). -/
def Drive.waiting : Drive → Option Dir
  | .dead _ w => w
  | .clear => none
  | .driven _ => none

/-- The contact section (R51). -/
def Station.contactSection (st : Station) : List Byte :=
  allInputs.flatMap (fun i => (st.ctu.input i).bytes) ++ st.ctu.selectors.toList.map Selector.byte ++
  [bitsByte (st.ctu.pumpRun.toList ++ [st.ctu.drive.output .down, st.ctu.drive.output .up]), bitsByte [st.ctu.beacon]] ++
  byte st.ctu.drive.code ++ byte (dirCode st.ctu.drive.waiting)

/-- A list of pump numbers: a count and the numbers. -/
def numberList (l : List PumpNo) : List Byte := byte l.length ++ l.flatMap fun n => byte (n.val + 1)

/-- The source of the last evaluation: Table 11-11, then none (assumption 17). -/
def sourceOrNone : Option Source → Nat
  | some s => s.code
  | none => 4

/-- The duty section (R74). -/
def Station.dutySection (st : Station) : List Byte :=
  let d := st.dty
  byte d.held ++ byte d.effective ++ byte (sourceOrNone d.lastSource) ++ byte d.hand ++ byte d.need ++ byte d.unmet ++
  flagByte d.mods.anticipation ++ flagByte d.mods.highFloor ++ flagByte d.mods.lowCutoff ++ flagByte d.mods.floatFloor ++
  flagByte d.cutoff ++ d.orders.toList.flatMap (fun o => byte (orderCode o)) ++ flagByte d.altMark ++ byte d.mode.code ++
  numberList d.rotation

/-- A queue entry (R91). -/
def QEntry.bytes (e : QEntry) : List Byte := byte e.motor.code ++ be 4 (shownUptime e.enqueued) ++ byte e.hold.code

/-- The motors on the shed list, which R88 holds without order. In the reply pumps stand in pump order, then the rake:
assumption 47, DESIGN CHOICE. -/
def StartControl.shedList (c : StartControl) : List Motor :=
  (allPumps.filter fun n => c.shedPumps[n]).map .pump ++ (if c.shedRake then [.rake] else [])

/-- The motor table's view of a pump: STARTING, RUNNING or neither (R91). -/
def PumpState.motionCode : PumpState → Nat
  | .starting => 0
  | .running => 1
  | .uninstalled | .off | .hand | .inhibited | .ready | .waiting | .stopping | .resting | .faulted => 2

/-- The uptime at which spacing next elapses, none when it has (R91). That the reply shows `has elapsed` by the clear presence bit of this
uptime, without an indication byte, is assumption 17: DESIGN CHOICE. -/
def Station.spacingNext (st : Station) : Option Nat :=
  if st.spacingElapsed then none else st.stc.lastGrant.map (· + secs st.consts.startSpacing)

/-- The start-control section (R91). The indication that spacing has elapsed is the clear presence bit of the uptime at which it next
elapses: assumption 17, DESIGN CHOICE. Its condition GEN_RUNNING is the settled GEN_RUN (R80): assumption 46, DESIGN CHOICE. -/
def Station.startSection (st : Station) : List Byte :=
  let c := st.stc
  byte c.queue.length ++ c.queue.flatMap QEntry.bytes ++
  [presence [c.lastGrant, st.spacingNext, c.budgetSince]] ++ be 4 (shownUptime (c.lastGrant.getD 0)) ++
  be 4 (shownUptime (st.spacingNext.getD 0)) ++
  be 2 (min Config.top16 st.connectedLoad) ++ be 2 (min Config.top16 st.committedLoad) ++
  be 2 (min Config.top16 st.loadAfterShedding) ++ be 2 st.activeLimit ++ flagByte c.genSeen ++
  byte c.shedList.length ++ c.shedList.flatMap (fun m => byte m.code) ++ be 4 (shownUptime (c.budgetSince.getD 0)) ++
  flagByte c.capacityHeld ++ flagByte c.loadShed ++ flagByte (st.settled .genRun) ++
  allPumps.flatMap fun n => flagByte c.runFbSeen[n] ++ byte st.pumps[n].state.motionCode

/-- Records of a class in the queue. -/
def ReportQueue.countClass (q : ReportQueue) (c : Nat) : Nat := q.queue.countP fun r => r.body.cls == c

/-- The clock and report section (R175). The summary stands in the layout of the DAILY body with that layout's presence byte, and the
oldest record's sequence number has a second presence byte, of its own: assumption 17, DESIGN CHOICE. -/
def Station.clockSection (st : Station) : List Byte :=
  let q := st.rpq
  be 4 q.stationTime ++ flagByte q.clockNotSet ++ be 2 (q.stationTime / daySeconds) ++ st.dailyFigures.bytes ++
  byte q.queue.length ++ optional 2 (q.queue.head?.map (·.seq)) ++ be 2 q.nextSeq ++
  (List.range 4).flatMap fun c => byte (q.countClass c)

/-- READ STATUS (R181). -/
def Station.readStatus (st : Station) (sectionCode : Nat) : Reply :=
  match sectionCode with
  | 0 => .done st.contactSection
  | 1 => .done st.dutySection
  | 2 => .done st.startSection
  | 3 => .done st.clockSection
  | _ => .range

/-! ### Level Engine -/

/-- A channel in READ CHANNELS (R7). -/
def Channel.bytes (c : Channel) : List Byte :=
  byte c.state.code ++ byte c.sample.code ++ be 2 c.raw.toNat ++ be 3 c.filter ++ be 2 c.level ++
  flagByte c.state.usable ++ byte c.badRun ++ byte c.goodRun ++ encode ChanSettings.widths c.settings.values

/-- READ CHANNELS (R7). -/
def Station.readChannels (st : Station) : Reply :=
  .done ([st.lve.wellA, st.lve.wellB, st.lve.inlet, st.lve.weir].flatMap Channel.bytes)

/-- What READ WELL carries before the first update (R25): source FLOAT, every optional field absent; the two times are free
values (assumption 31). -/
def Station.unpublished (st : Station) : LevelUpdate :=
  { cycleUptime := Config.unpublishedUptime, stationTime := Config.unpublishedTime, w := none, source := .float, v := none
    qIn := none, inlet := none, weirState := st.lve.weir.state, head := none, qWeir := none }

/-- READ WELL (R25). -/
def Station.readWell (st : Station) : Reply :=
  .done ((st.lve.published.getD st.unpublished).bytes ++ byte st.lve.disagreeRun ++ byte st.lve.ring.length ++
    flagByte st.lve.highLevel ++ flagByte st.lve.lowLevel ++ flagByte st.lve.published.isSome)

/-- READ ARITH (R14). -/
def Station.readArith (st : Station) : Reply :=
  .done (byte st.lve.arith.mode.code ++ st.lve.arith.flags.bytes ++ st.lve.arith.masks.bytes ++
    flagByte st.lve.arith.notice)

/-! ### Pumps and rake -/

/-- The data of READ PUMP, its history already pruned (R57, R93). -/
def Station.pumpBytes (st : Station) (n : PumpNo) : List Byte :=
  let p := st.pumps[n]
  encode PumpSettings.widths p.settings.values ++
  byte p.state.code ++ byte (causeCode p.cause) ++ flagByte p.demand ++ flagByte p.shed ++ byte p.deferred.code ++
  flagByte p.inhibit ++ flagByte p.runLost ++ flagByte p.minRunElapsed ++
  [presence [p.timer, p.pruneExpiry]] ++ be 4 (shownUptime (p.timer.getD 0)) ++
  byte p.history.length ++ p.history.flatMap (fun g => be 4 (shownUptime g)) ++
  be 4 (shownUptime (p.pruneExpiry.getD 0)) ++ be 2 p.startsToday ++ be 4 p.runToday ++ be 4 p.startsTotal ++
  be 4 p.runTotal ++ be 4 (shownUptime p.stateChange) ++ flagByte p.startLimited ++
  byte st.ctu.selectors[n].position.code ++ flagByte (st.settled (.runFb n)) ++ flagByte (st.settled (.pumpFault n)) ++
  flagByte st.ctu.pumpRun[n]

/-- PRU n prunes its history as the reply is formed, and the joint condition is judged (R93, R110, R111). -/
def Station.readPump (st : Station) (k : Nat) : Reply × Station :=
  match pumpOfNumber k with
  | none => (.range, st)
  | some n =>
    let st := (st.prune n).judgeStartLimited
    (.done (st.pumpBytes n), st)

/-- A signed quantity in two bytes, two's complement (assumption 17). -/
def signed2 (d : Int) : List Byte := be 2 (d % 65536).toNat

/-- The RAKE's entry in the start queue. -/
def StartControl.rakeEntry (c : StartControl) : Option QEntry := c.queue.find? fun e => e.motor == .rake

/-- READ RAKE (R131). The direction driven has the codes of the waiting direction, 0 none, 1 DOWN and 2 UP, and the hold reason of a RAKE
that is not in the queue reads none: assumption 17, DESIGN CHOICE. Its condition SKIP_FULL is the settled contact, not the condition
last reported (R132): assumption 46, DESIGN CHOICE. -/
def Station.readRake (st : Station) : Reply :=
  let r := st.rkc
  .done (byte r.state.code ++ flagByte r.homing ++ byte (jamCode r.jamCause) ++ flagByte r.demand ++ byte r.retries ++
    flagByte r.drivePending ++
    [bitsByte [r.timer.isSome, r.lastDiff.isSome, r.lastCycleEnd.isSome, r.timer.isSome]] ++
    be 4 (shownUptime (r.timer.getD 0)) ++ be 4 (shownUptime (r.lastCycleEnd.getD 0)) ++
    be 4 (shownUptime r.intervalOrigin) ++ be 4 (shownUptime st.intervalExpiry) ++ flagByte r.shortInterval ++
    signed2 (r.lastDiff.getD 0) ++ be 2 r.blindCount ++ be 2 r.cyclesToday ++ be 2 r.jamsToday ++ be 4 r.cyclesTotal ++
    be 4 (shownUptime r.stateChange) ++ be 4 (shownUptime (r.timer.getD 0)) ++
    flagByte (st.settled .limTop) ++ flagByte (st.settled .limBottom) ++ flagByte (st.settled .torqueTrip) ++
    flagByte (st.settled .skipFull) ++
    flagByte st.stc.rakeEntry.isSome ++ byte (st.stc.rakeEntry.elim 0 fun e => e.hold.code) ++
    byte (dirCode st.ctu.drive.driving) ++ flagByte st.ctu.drive.deadExpiry.isSome ++
    flagByte (r.state == .jammed) ++ flagByte (st.settled .skipFull) ++ flagByte r.blinded)

/-! ### Overflow Monitor, alarms, trace, reports -/

/-- READ OVERFLOW (R145). One byte before the event record is 1 when there is one and 0 when there is none: assumption 17, DESIGN
CHOICE. -/
def Station.readOverflow (st : Station) : Reply :=
  let o := st.ofm
  .done (byte o.state.code ++ byte o.onsetCount ++ be 3 o.provisional ++
    [presence [o.onsetTime, o.onsetHead, o.onsetFlow, o.lastHead, o.lastFlow]] ++
    optField 4 o.onsetTime ++ optField 2 o.onsetHead ++ optField 2 o.onsetFlow ++ be 2 o.easingCount ++
    be 2 o.eventCounter ++ optField 2 o.lastHead ++ optField 2 o.lastFlow ++
    flagByte o.event.isSome ++ (match o.event with
      | some e => e.bytes
      | none => List.replicate 27 0) ++
    be 2 st.consts.ovfStart ++ be 2 st.consts.ovfEnd ++ byte st.consts.onCycles ++ be 2 st.consts.offCycles)

/-- A point in READ ALARMS (R162). -/
def Station.pointBytes (st : Station) (p : PortId) (k : PointNo) : List Byte :=
  let r := st.alt.points[k]
  byte (k.val + 1) ++ byte r.state.code ++ flagByte r.condition ++ byte st.consts.priorities[k] ++ be 4 r.firstActive ++
  be 4 r.lastChange ++ byte r.occurrences ++ flagByte ((st.alt.attn p).pending.getLsbD k.val)

/-- The number of points in a state. -/
def AlarmTable.countState (t : AlarmTable) (s : PointState) : Nat := allPoints.countP fun k => t.points[k].state == s

/-- The summary of READ ALARMS (R162). The level of the attention line is 1 while the line is asserted, which is low at the pin, and 0
while it is released: assumption 17, DESIGN CHOICE. -/
def Station.alarmSummary (st : Station) (p : PortId) : List Byte :=
  let q := st.alt.attn p
  flagByte st.alt.beaconDemand ++
  [PointState.normal, .activeUnack, .activeAck, .clearedUnack].flatMap (fun s => byte (st.alt.countState s)) ++
  be 4 q.rise.toNat ++ be 4 q.fall.toNat ++ be 4 q.pending.toNat ++ flagByte (st.attention p) ++
  flagByte (st.pendingSource p) ++ flagByte (st.replySource p) ++ flagByte (st.queueSource p)

/-- READ ALARMS at port `p` (R162). -/
def Station.readAlarms (st : Station) (p : PortId) (first count : Nat) : Reply :=
  if first < 1 ∨ 32 < first ∨ count < 1 ∨ 16 < count ∨ 33 < first + count then .range
  else .done (((allPoints.drop (first - 1)).take count).flatMap (st.pointBytes p) ++ st.alarmSummary p)

/-- The indices a READ TRACE of `n` entries returns, the next pointer it leaves, and whether it wrapped within the reply
(R151). -/
def traceWalk (s e : Nat) : Nat → Nat → List Nat × Nat × Bool
  | 0, i => ([], i, false)
  | k + 1, i =>
    let next := if i < e then i + 1 else s
    let rest := traceWalk s e k next
    (i :: rest.1, rest.2.1, rest.2.2 || (!decide (i < e) && decide (0 < k)))

/-- READ TRACE at port `p` (R151). -/
def Station.readTrace (st : Station) (p : PortId) (form n : Nat) : Reply × Station :=
  if 1 < form ∨ n < 1 ∨ (if form = 0 then 12 else 8) < n then (.range, st)
  else
    let q := st.port p
    let walk := traceWalk q.window.start q.window.stop n q.window.next
    let long := form == 1
    (.done (walk.1.flatMap (fun i => traceBytes long i st.trb.entries[i]?) ++ byte st.trb.state.code ++
        be 2 st.trb.entries.length ++ flagByte (st.trb.state == .frozen) ++ flagByte walk.2.2 ++ byte walk.2.1),
      st.setPort { q with window := { q.window with next := walk.2.1 } } p)

/-- SET TRACE WINDOW at port `p` (R150). -/
def Station.setTraceWindow (st : Station) (p : PortId) (s e : Nat) : Reply × Station :=
  if 255 < s ∨ 255 < e ∨ e < s then (.range, st)
  else (.done [], st.setPort { st.port p with window := { start := s, stop := e, next := s } } p)

/-- PEEK REPORT (R172). -/
def Station.peekReport (st : Station) (i : Nat) : Reply :=
  match st.rpq.queue[i]? with
  | none => .final .refusedRange (byte st.rpq.queue.length)
  | some r => .done (r.bytes ++ byte st.rpq.queue.length ++ be 2 ((st.rpq.queue.head?.map (·.seq)).getD 0))

/-! ### READ SETTINGS -/

/-- The STORE group (R181). -/
def Store.bytes (s : Store) : List Byte :=
  flagByte s.inFlight.isSome ++ flagByte s.followUp ++ byte s.outcome.code ++ be 2 s.writes ++ flagByte s.fellBack

/-- READ SETTINGS (R181). -/
def Station.readSettings (st : Station) (group : Nat) : Reply :=
  match group with
  | 0 => .done (encode Constants.widths st.consts.values)
  | 1 => .done (encode Setpoints.widths st.dty.setpoints.values)
  | 2 => .done (numberList st.dty.rotation ++ byte st.dty.mode.code)
  | 3 => .done st.sst.bytes
  | _ => .range

end Sys2Proof.Machine
end

