-- ==== Sys2Proof/Machine/Requests.lean ====
section
/-! DEFINITION. The requests of the catalogue (Table 11-3) but for STATION RESET: each its code, class, form and owner. Where no table
lays its parameters out, a request carries them in the order in which its rule names them: assumption 39, DESIGN CHOICE. -/

namespace Sys2Proof.Machine

/-! ### VIEW -/

/-- READ STATUS. -/
def execReadStatus (p : PortId) (rest : List Byte) (s : State) : Host.Outcome State Fault Refusal :=
  s.on fun st => st.intake p ⟨0x01, .view, .fixed 1⟩ (reading fun ps t => t.readStatus (nth (params [1] ps) 0)) rest

/-- READ CHANNELS. -/
def execReadChannels (p : PortId) (rest : List Byte) (s : State) : Host.Outcome State Fault Refusal :=
  s.on fun st => st.intake p ⟨0x02, .view, .fixed 0⟩ (reading fun _ t => t.readChannels) rest

/-- READ WELL. -/
def execReadWell (p : PortId) (rest : List Byte) (s : State) : Host.Outcome State Fault Refusal :=
  s.on fun st => st.intake p ⟨0x03, .view, .fixed 0⟩ (reading fun _ t => t.readWell) rest

/-- READ PUMP. -/
def execReadPump (p : PortId) (rest : List Byte) (s : State) : Host.Outcome State Fault Refusal :=
  s.on fun st => st.intake p ⟨0x04, .view, .fixed 1⟩ (fun ps t => t.readPump (nth (params [1] ps) 0)) rest

/-- READ RAKE. -/
def execReadRake (p : PortId) (rest : List Byte) (s : State) : Host.Outcome State Fault Refusal :=
  s.on fun st => st.intake p ⟨0x05, .view, .fixed 0⟩ (reading fun _ t => t.readRake) rest

/-- READ OVERFLOW. -/
def execReadOverflow (p : PortId) (rest : List Byte) (s : State) : Host.Outcome State Fault Refusal :=
  s.on fun st => st.intake p ⟨0x06, .view, .fixed 0⟩ (reading fun _ t => t.readOverflow) rest

/-- READ ALARMS. -/
def execReadAlarms (p : PortId) (rest : List Byte) (s : State) : Host.Outcome State Fault Refusal :=
  s.on fun st => st.intake p ⟨0x07, .view, .fixed 2⟩
    (reading fun ps t => t.readAlarms p (nth (params [1, 1] ps) 0) (nth (params [1, 1] ps) 1)) rest

/-- READ CURVE. -/
def execReadCurve (p : PortId) (rest : List Byte) (s : State) : Host.Outcome State Fault Refusal :=
  s.on fun st => st.intake p ⟨0x08, .view, .fixed 6⟩
    (reading fun ps t =>
      let v := params [1, 1, 1, 1, 1, 1] ps
      t.readCurve (nth v 0) (nth v 1) (nth v 2) (nth v 3) (nth v 4) (nth v 5)) rest

/-- SET TRACE WINDOW. -/
def execSetTraceWindow (p : PortId) (rest : List Byte) (s : State) : Host.Outcome State Fault Refusal :=
  s.on fun st => st.intake p ⟨0x09, .view, .fixed 2⟩
    (fun ps t => t.setTraceWindow p (nth (params [1, 1] ps) 0) (nth (params [1, 1] ps) 1)) rest

/-- READ TRACE. -/
def execReadTrace (p : PortId) (rest : List Byte) (s : State) : Host.Outcome State Fault Refusal :=
  s.on fun st => st.intake p ⟨0x0A, .view, .fixed 2⟩
    (fun ps t => t.readTrace p (nth (params [1, 1] ps) 0) (nth (params [1, 1] ps) 1)) rest

/-- PEEK REPORT. -/
def execPeekReport (p : PortId) (rest : List Byte) (s : State) : Host.Outcome State Fault Refusal :=
  s.on fun st => st.intake p ⟨0x0B, .view, .fixed 1⟩ (reading fun ps t => t.peekReport (nth (params [1] ps) 0)) rest

/-- READ ARITH. -/
def execReadArith (p : PortId) (rest : List Byte) (s : State) : Host.Outcome State Fault Refusal :=
  s.on fun st => st.intake p ⟨0x0C, .view, .fixed 0⟩ (reading fun _ t => t.readArith) rest

/-- READ SETTINGS. -/
def execReadSettings (p : PortId) (rest : List Byte) (s : State) : Host.Outcome State Fault Refusal :=
  s.on fun st => st.intake p ⟨0x0D, .view, .fixed 1⟩ (reading fun ps t => t.readSettings (nth (params [1] ps) 0)) rest

/-! ### ACK -/

/-- The numbers of a list as points, none when one is no point number. -/
def pointList : List Nat → Option (List PointNo)
  | [] => some []
  | k :: ks => match pointOfNumber k, pointList ks with
    | some n, some ns => some (n :: ns)
    | _, _ => none

/-- The points that a list names: with none listed, all 32 in ascending order; none when there are more than 32 or one is no
point (R156, R160, R190). -/
def targets (numbers : List Nat) : Option (List PointNo) :=
  match numbers with
  | [] => some allPoints
  | _ :: _ => if 32 < numbers.length then none else pointList numbers

/-- The numbers of a counted list of bytes, behind `before` bytes and the count. -/
def listed (before : Nat) (ps : List Byte) : List Nat := (ps.drop (before + 1)).map BitVec.toNat

/-- Acknowledge points in order, counting those whose state changes (R156). -/
def Station.ackPoints : List PointNo → Station → Nat × Station
  | [], st => (0, st)
  | k :: ks, st =>
    let rest := Station.ackPoints ks (st.ackPoint k)
    ((if st.alt.points[k].state.ack = st.alt.points[k].state then 0 else 1) + rest.1, rest.2)

/-- ACK ALARM (R156). -/
def Station.ackAlarm (st : Station) (numbers : List Nat) : Reply × Station :=
  match targets numbers with
  | none => (.range, st)
  | some l => let r := Station.ackPoints l st; (.done (byte r.1), r.2)

/-- The points of a list as a set. -/
def pointSet (l : List PointNo) : BitVec 32 := l.foldl (fun m k => m ||| pointBit k) 0

/-- CLEAR ATTENTION at port `p` (R160). -/
def Station.clearAttention (st : Station) (p : PortId) (numbers : List Nat) : Reply × Station :=
  match targets numbers with
  | none => (.range, st)
  | some l =>
    let q := st.alt.attn p
    let pending := q.pending &&& ~~~ pointSet l
    (.done (be 4 pending.toNat), { st with alt := st.alt.setAttn { q with pending := pending } p })

/-- SET ATTENTION MASKS at port `p` (R160). -/
def Station.setMasks (st : Station) (p : PortId) (rise fall : BitVec 32) : Reply × Station :=
  (.done [], { st with alt := st.alt.setAttn { st.alt.attn p with rise := rise, fall := fall } p })

/-- ACK ALARM. -/
def execAckAlarm (p : PortId) (rest : List Byte) (s : State) : Host.Outcome State Fault Refusal :=
  s.on fun st => st.intake p ⟨0x20, .ack, .counted 0 1⟩ (fun ps t => t.ackAlarm (listed 0 ps)) rest

/-- CLEAR ATTENTION. -/
def execClearAttention (p : PortId) (rest : List Byte) (s : State) : Host.Outcome State Fault Refusal :=
  s.on fun st => st.intake p ⟨0x21, .ack, .counted 0 1⟩ (fun ps t => t.clearAttention p (listed 0 ps)) rest

/-- SET ATTENTION MASKS. -/
def execSetAttentionMasks (p : PortId) (rest : List Byte) (s : State) : Host.Outcome State Fault Refusal :=
  s.on fun st => st.intake p ⟨0x22, .ack, .fixed 8⟩
    (fun ps t =>
      let v := params [4, 4] ps
      t.setMasks p (BitVec.ofNat 32 (nth v 0)) (BitVec.ofNat 32 (nth v 1))) rest

/-- RELEASE TRACE. -/
def execReleaseTrace (p : PortId) (rest : List Byte) (s : State) : Host.Outcome State Fault Refusal :=
  s.on fun st => st.intake p ⟨0x23, .ack, .fixed 0⟩ (fun _ t => t.releaseTrace) rest

/-! ### OPERATE -/

/-- What follows a request that its owner has carried out; a refusal changes nothing. -/
def carriedOut (st : Station) (r : Reply × Station) (after : Station → Station) : Reply × Station :=
  if r.1.status = .done then (r.1, after r.2) else (r.1, st)

/-- A request that names a pump, handled at its PRU, which reports its conditions; the STC does what the reports call for
(R108, R109, R111). -/
def Station.atPump (st : Station) (k : Nat) (f : Station → PumpNo → Reply × Station) : Reply × Station :=
  match pumpOfNumber k with
  | none => (.range, st)
  | some n => carriedOut st (f st n) fun t => (t.reportPump n).settleStc

/-- SET SETPOINTS. -/
def execSetSetpoints (p : PortId) (rest : List Byte) (s : State) : Host.Outcome State Fault Refusal :=
  s.on fun st => st.intake p ⟨0x40, .operate, .fixed 35⟩
    (fun ps t => t.setSetpoints (Setpoints.ofValues (params Setpoints.widths ps))) rest

/-- INHIBIT PUMP. -/
def execInhibitPump (p : PortId) (rest : List Byte) (s : State) : Host.Outcome State Fault Refusal :=
  s.on fun st => st.intake p ⟨0x41, .operate, .fixed 1⟩
    (fun ps t => t.atPump (nth (params [1] ps) 0) Station.inhibitPump) rest

/-- RELEASE PUMP. -/
def execReleasePump (p : PortId) (rest : List Byte) (s : State) : Host.Outcome State Fault Refusal :=
  s.on fun st => st.intake p ⟨0x42, .operate, .fixed 1⟩
    (fun ps t => t.atPump (nth (params [1] ps) 0) Station.releasePump) rest

/-- RESET PUMP FAULT. -/
def execResetPumpFault (p : PortId) (rest : List Byte) (s : State) : Host.Outcome State Fault Refusal :=
  s.on fun st => st.intake p ⟨0x43, .operate, .fixed 1⟩
    (fun ps t => t.atPump (nth (params [1] ps) 0) Station.resetPumpFault) rest

/-- REQUEST RAKE CYCLE at the RKC: the reply carries the rake state after the intake (R120). -/
def Station.requestRakeCycle (st : Station) : Reply × Station :=
  let st := st.rakeSetDemand.settleStc
  (.done (byte st.rkc.state.code), st)

/-- REQUEST RAKE CYCLE. -/
def execRequestRakeCycle (p : PortId) (rest : List Byte) (s : State) : Host.Outcome State Fault Refusal :=
  s.on fun st => st.intake p ⟨0x44, .operate, .fixed 0⟩ (fun _ t => t.requestRakeCycle) rest

/-- RESET RAKE. -/
def execResetRake (p : PortId) (rest : List Byte) (s : State) : Host.Outcome State Fault Refusal :=
  s.on fun st => st.intake p ⟨0x45, .operate, .fixed 0⟩ (fun _ t => carriedOut t t.resetRake Station.settleStc) rest

/-! ### CONFIGURE -/

/-- WRITE CHANNEL. Its parameters stand as channel code (1), span (2), offset (2), filter shift (1): assumption 39, DESIGN CHOICE. -/
def execWriteChannel (p : PortId) (rest : List Byte) (s : State) : Host.Outcome State Fault Refusal :=
  s.on fun st => st.intake p ⟨0x60, .configure, .fixed 6⟩
    (fun ps t =>
      let v := params (1 :: ChanSettings.widths) ps
      t.writeChannel (nth v 0) (ChanSettings.ofValues v.tail)) rest

/-- WRITE PUMP RECORD at its PRU; a pump number out of range is answered with the free field code (R58, assumption 19). The PRU
prunes its history at each one, and START_LIMITED is judged after each (R110, R111): at a refused one nothing else changes, and
an accepted one is taken as any request at a PRU. That the prune comes before the write is judged is assumption 41: DEDUCED. -/
def Station.writePump (st : Station) (k : Nat) (fields : List Nat) : Reply × Station :=
  match pumpOfNumber k with
  | none => (.final .refusedRange [Config.pumpNumberFieldCode], st)
  | some n =>
    let st := st.prune n
    carriedOut st.judgeStartLimited (st.writePumpRecord n fields) fun t => (t.reportPump n).settleStc

/-- WRITE PUMP RECORD. -/
def execWritePumpRecord (p : PortId) (rest : List Byte) (s : State) : Host.Outcome State Fault Refusal :=
  s.on fun st => st.intake p ⟨0x61, .configure, .fixed 13⟩
    (fun ps t =>
      let v := params (1 :: PumpSettings.widths) ps
      t.writePump (nth v 0) v.tail) rest

/-- WRITE ROTATION: mode, count, pump numbers. -/
def execWriteRotation (p : PortId) (rest : List Byte) (s : State) : Host.Outcome State Fault Refusal :=
  s.on fun st => st.intake p ⟨0x62, .configure, .counted 1 1⟩
    (fun ps t => t.writeRotation (nth (params [1] ps) 0) (listed 1 ps)) rest

/-- The constants that the STC takes: its own three and RAKE_KW (R80 to R82, R86). -/
def Constants.stcPart (c : Constants) : List Nat := [c.utilityLimit, c.genLimit, c.startSpacing, c.rakeKw]

/-- The STC takes its constants at an intake (R80, R81, R82). -/
def Station.stcConstants (st : Station) (old : Constants) : Station :=
  let st := if st.consts.utilityLimit = old.utilityLimit ∧ st.consts.genLimit = old.genLimit then st else st.formLimit
  let st := if st.consts.startSpacing = old.startSpacing then st else st.armSpacing
  (if st.consts.stcPart = old.stcPart then st else st.ring).settleStc

/-- The RKC re-arms its interval expiry at an intake that changes INTERVAL_MIN (R119). -/
def Station.rakeConstants (st : Station) (old : Constants) : Station :=
  if st.consts.intervalMin = old.intervalMin then st else st.rearmInterval.settleStc

/-- WRITE STATION CONSTANTS (R182): judged whole, then each owner takes its constants (assumption 25). -/
def Station.writeConstants (st : Station) (c : Constants) : Reply × Station :=
  match firstFailing c.checks with
  | some k => (.final .refusedRange (byte k), st)
  | none => (.done [], ((({ st with consts := c }).stcConstants st.consts).rakeConstants st.consts).judgeBeacon)

/-- WRITE STATION CONSTANTS. -/
def execWriteStationConstants (p : PortId) (rest : List Byte) (s : State) : Host.Outcome State Fault Refusal :=
  s.on fun st => st.intake p ⟨0x63, .configure, .fixed 74⟩
    (fun ps t => t.writeConstants (Constants.ofValues (params Constants.widths ps))) rest

/-- COPY CURVE. -/
def execCopyCurve (p : PortId) (rest : List Byte) (s : State) : Host.Outcome State Fault Refusal :=
  s.on fun st => st.intake p ⟨0x64, .configure, .fixed 1⟩ (fun ps t => t.copyCurve (nth (params [1] ps) 0)) rest

/-- Points as carried: x in 2 bytes, y in 3. -/
def pointsOf : Nat → List Byte → List Point
  | 0, _ => []
  | k + 1, bs => ⟨ofBe (bs.take 2), ofBe ((bs.drop 2).take 3)⟩ :: pointsOf k (bs.drop 5)

/-- WRITE CURVE POINTS: curve, start slot, count, points. -/
def execWriteCurvePoints (p : PortId) (rest : List Byte) (s : State) : Host.Outcome State Fault Refusal :=
  s.on fun st => st.intake p ⟨0x65, .configure, .counted 2 5⟩
    (fun ps t =>
      let v := params [1, 1, 1] ps
      t.writeCurvePoints (nth v 0) (nth v 1) (pointsOf (nth v 2) (ps.drop 3))) rest

/-- SET CURVE COUNT. -/
def execSetCurveCount (p : PortId) (rest : List Byte) (s : State) : Host.Outcome State Fault Refusal :=
  s.on fun st => st.intake p ⟨0x66, .configure, .fixed 2⟩
    (fun ps t => t.setCurveCount (nth (params [1, 1] ps) 0) (nth (params [1, 1] ps) 1)) rest

/-- COMMIT CURVE. -/
def execCommitCurve (p : PortId) (rest : List Byte) (s : State) : Host.Outcome State Fault Refusal :=
  s.on fun st => st.intake p ⟨0x67, .configure, .fixed 1⟩ (fun ps t => t.commitCurve p (nth (params [1] ps) 0)) rest

/-- SET ARITH CONTROL: mode, five masks, the clear-set. -/
def execSetArithControl (p : PortId) (rest : List Byte) (s : State) : Host.Outcome State Fault Refusal :=
  s.on fun st => st.intake p ⟨0x68, .configure, .fixed 11⟩
    (fun ps t =>
      let v := params (List.replicate 11 1) ps
      t.setArithControl (nth v 0) (FlagSet.ofBytes (v.drop 1)) (FlagSet.ofBytes (v.drop 6))) rest

/-- SAVE SETTINGS: answered PENDING (R185). -/
def execSaveSettings (p : PortId) (rest : List Byte) (s : State) : Host.Outcome State Fault Refusal :=
  s.on fun st => st.intake p ⟨0x69, .configure, .fixed 0⟩
    (fun _ t => (⟨.pending, [], some .save⟩, t.saveSettings p)) rest

/-! ### REPORT -/

/-- TAKE REPORT. -/
def execTakeReport (p : PortId) (rest : List Byte) (s : State) : Host.Outcome State Fault Refusal :=
  s.on fun st => st.intake p ⟨0x80, .report, .fixed 2⟩ (fun ps t => t.takeReport (nth (params [2] ps) 0)) rest

/-- SET CLOCK. -/
def execSetClock (p : PortId) (rest : List Byte) (s : State) : Host.Outcome State Fault Refusal :=
  s.on fun st => st.intake p ⟨0x81, .report, .fixed 4⟩ (fun ps t => t.setClock (nth (params [4] ps) 0)) rest

/-! ### Port events -/

/-- SELECT_FALL. -/
def execSelectFall (p : PortId) (s : State) : Host.Outcome State Fault Refusal := s.on fun st => st.live fun t => t.latch p

/-- EMPTY_PERIOD: nothing is taken, the not-taken flag is cleared (R177 step 1). -/
def execEmptyPeriod (p : PortId) (clocked : Nat) (s : State) : Host.Outcome State Fault Refusal :=
  if clocked = 1 then .refused .illFormed
  else s.on fun st => st.live fun t => (t.rise p clocked).setNotTaken p false

/-- REQUEST_NOT_TAKEN: behind a PENDING reply the request is discarded and the not-taken flag set (R177 step 2); where the slot
is not PENDING the row does not come about (assumption 20). -/
def execRequestNotTaken (p : PortId) (bytes : List Byte) (s : State) : Host.Outcome State Fault Refusal :=
  match bytes with
  | [] => .refused .illFormed
  | b :: rest =>
    if b = 0 then .refused .illFormed
    else s.on fun st => st.live fun t =>
      if t.slotPending p then (t.rise p (rest.length + 1)).setNotTaken p true else t

/-- UNKNOWN_REQUEST: a code outside the catalogue is answered REFUSED_FORMAT (R177 step 3). -/
def execUnknownRequest (p : PortId) (code : Byte) (rest : List Byte) (s : State) : Host.Outcome State Fault Refusal :=
  if code = 0 ∨ catalogueCodes.contains code = true then .refused .illFormed
  else s.on fun st => st.live fun u =>
    let t := u.rise p (1 + rest.length)
    if t.slotPending p then t.setNotTaken p true else t.putReply p code (.final .refusedFormat [])

/-- A port cleared (R189): the slot NONE with code and length 0, not-taken and read indication clear. -/
def Port.clear (q : Port) : Port :=
  { q with slot := ⟨.none, 0, []⟩, awaits := none, readInd := false, notTaken := false, latched := none }

/-- PORT_CLEAR. -/
def execPortClear (p : PortId) (s : State) : Host.Outcome State Fault Refusal :=
  s.on fun st => st.live fun t => t.setPort (t.port p).clear p

end Sys2Proof.Machine
end

