-- ==== Sys2Proof/Machine/Reset.lean ====
section
/-! DEFINITION. The resets (section 11.6): held in reset, the power-up with its restore of the store image, the soft reset. -/

namespace Sys2Proof.Machine

/-! ### Held in reset -/

/-- RESET_HOLD: every output off, nothing latched at a port; a store write in flight is cut off with its mark set (R187, R183,
assumption 14). -/
def Station.holdReset (st : Station) : Station :=
  { st with
    held := true
    ctu := { st.ctu with pumpRun := Vector.replicate 6 false, drive := .clear, beacon := false }
    portA := { st.portA with latched := none }
    portB := { st.portB with latched := none }
    sst := { st.sst with inFlight := none } }

/-- RESET_HOLD. -/
def execResetHold (s : State) : Host.Outcome State Fault Refusal := s.on Station.holdReset

/-! ### Restoring the image (R186) -/

/-- Channel settings restored: one outside its range takes its default. -/
def ChanSettings.mend (c : ChanSettings) : ChanSettings :=
  ChanSettings.ofValues (mendValues c.checks c.values ChanSettings.default.values)

/-- Pump record settings restored. -/
def PumpSettings.mend (c : PumpSettings) : PumpSettings :=
  PumpSettings.ofValues (mendValues (pumpFieldChecks c.values) c.values (PumpSettings.default c.installed).values)

/-- Station constants restored. -/
def Constants.mend (c : Constants) : Constants :=
  Constants.ofValues (mendValues c.checks c.values Constants.default.values)

/-- A curve restored: one that fails R29 takes its default (R43). -/
def CurveCopy.mend (c : CurveCopy) (id : CurveId) (default : CurveCopy) : CurveCopy := if c.valid id then c else default

/-- The installed pumps in ascending order. -/
def installedList (pumps : Vector PumpSettings 6) : List PumpNo := allPumps.filter fun n => pumps[n].installed

/-- The rotation list restored: a permutation of the installed pumps, or rebuilt in ascending order (R62). -/
def restoreRotation (pumps : Vector PumpSettings 6) (numbers : List Nat) : List PumpNo :=
  match pumpList numbers with
  | none => installedList pumps
  | some l =>
    if l.length = (installedList pumps).length ∧ l.all (fun n => pumps[n].installed) = true ∧ l.Nodup then l
    else installedList pumps

/-- The setpoint table restored: it passes Table 4-4 for the restored npos, or takes the defaults (R66). -/
def restoreSetpoints (pumps : Vector PumpSettings 6) (t : Setpoints) : Setpoints :=
  match t.failing (installedList pumps).length with
  | none => t
  | some _ => .default

/-! ### Power-up -/

/-- An input's record at a power-up, against its raw level of the moment (R45, R48). -/
def ContactUnit.powerUp (c : ContactUnit) (k : Constants) : ContactUnit :=
  { hoaHand := Vector.ofFn fun n : Fin 6 => .powerUp k.debSlow c.hoaHand[n].raw
    hoaAuto := Vector.ofFn fun n : Fin 6 => .powerUp k.debSlow c.hoaAuto[n].raw
    runFb := Vector.ofFn fun n : Fin 6 => .powerUp k.debFast c.runFb[n].raw
    pumpFault := Vector.ofFn fun n : Fin 6 => .powerUp k.debFast c.pumpFault[n].raw
    limTop := .powerUp k.debMotion c.limTop.raw, limBottom := .powerUp k.debMotion c.limBottom.raw
    torqueTrip := .powerUp k.debMotion c.torqueTrip.raw, skipFull := .powerUp k.debSlow c.skipFull.raw
    floatHigh := .powerUp k.debSlow c.floatHigh.raw, floatLow := .powerUp k.debSlow c.floatLow.raw
    modeRemote := .powerUp k.debSlow c.modeRemote.raw, maintKey := .powerUp k.debSlow c.maintKey.raw
    genRun := .powerUp k.debSlow c.genRun.raw
    selectors := Vector.replicate 6 { position := .off, conflict := false }
    pumpRun := Vector.replicate 6 false, drive := .dead Config.deadInterval none, beacon := false }

/-- Every block takes its power-up state from the items that the SST hands it, before any record is made (R187). -/
def Station.fromItems (st : Station) (t : StoredItems) (fellBack : Bool) : Station :=
  let pumps := Vector.ofFn fun n : Fin 6 => t.pumps[n].mend
  let k := t.constants.mend
  { held := false, clock := 0,
    lve := .powerUp t.wellA.mend t.wellB.mend t.inlet.mend t.weir.mend
      ((RoundMode.ofCode t.roundMode).getD .nearestAway) t.masks
    crv := { volume := .powerUp (t.volumeCurve.mend .volume .defaultVolume)
             weir := .powerUp (t.weirCurve.mend .weir .defaultWeir) }
    ctu := st.ctu.powerUp k
    dty := .powerUp (restoreRotation pumps t.rotation) ((AltMode.ofCode t.altMode).getD .onCycle)
      (restoreSetpoints pumps t.setpoints)
    stc := .powerUp
    pumps := Vector.ofFn fun n : Fin 6 => .powerUp pumps[n] t.startsTotal[n] t.runTotal[n]
    rkc := .powerUp t.cyclesTotal, ofm := .powerUp t.eventCounter, trb := .powerUp, alt := .powerUp, rpq := .powerUp
    portA := .powerUp, portB := .powerUp, consts := k, sst := .powerUp st.sst.image fellBack, draws := st.draws }

/-- The power-up (R187, R186, R174): the image is judged, the blocks start, STATION(POWER_UP) is record 0, and a fallback is
reported to the Report Queue and then to the Alarm Table. -/
def Station.powerUp (st : Station) : Station :=
  if st.sst.image.sound then (st.fromItems st.sst.image.items false).record (.station .powerUp)
  else
    (((st.fromItems .defaults true).record (.station .powerUp)).record (.station .settingsDefault)).report
      Alarm.settingsDefault true

/-- POWER_UP. -/
def execPowerUp (s : State) : Host.Outcome State Fault Refusal := s.on Station.powerUp

/-! ### Soft reset -/

/-- The LVE at a soft reset: an empty ring, the disagreement run 0, the schedule restarted (R1, R16, R23). -/
def Station.softResetLevel (st : Station) : Station :=
  { st with lve := { st.lve with ring := [], disagreeRun := 0, nextCycle := st.uptime + 10, fresh := true } }

/-- The CTU at a soft reset: every output off (R52, R53, R55). -/
def Station.softResetOutputs (st : Station) : Station :=
  { st with ctu := { st.ctu with
    pumpRun := Vector.replicate 6 false, drive := st.ctu.drive.softReset st.clock, beacon := false } }

/-- A PRU's soft reset handling and its reports (R114). -/
def Station.resetPumpUnit (st : Station) (n : PumpNo) : Station := (st.softResetPump n).reportPump n

/-- The ALT reports its beacon demand to the CTU again (R55, R163). -/
def Station.redriveBeacon (st : Station) : Station := { st with ctu := { st.ctu with beacon := st.alt.beaconDemand } }

/-- The soft reset, block by block (R188, assumption 24). -/
def Station.softReset (st : Station) : Station :=
  let st := st.record (.station .softReset)
  let st := st.softResetLevel
  let st := (st.abandon .volume).abandon .weir
  let st := st.softResetOutputs.softResetDuty.softResetStc
  let st := allPumps.foldl Station.resetPumpUnit st
  st.softResetRake.softResetOverflow.finishStcReset.redriveBeacon

/-- STATION RESET, code 6Ah: the reply is DONE (R188). -/
def execStationReset (p : PortId) (rest : List Byte) (s : State) : Host.Outcome State Fault Refusal :=
  s.on fun st => st.intake p ⟨0x6A, .configure, .fixed 0⟩ (fun _ st => (.done [], st.softReset)) rest

end Sys2Proof.Machine
end

