-- ==== Sys2Proof/Machine/Timers.lean ====
section
/-! DEFINITION. The timed events: expiries, the one-second advance, the end of a store write. Each happens where it is armed,
at its due moment (`Station.atTick`), and does nothing where it is not. -/

namespace Sys2Proof.Machine

/-! ### Start Controller -/

/-- SPACING_EXPIRY (R81). -/
def execSpacingExpiry (s : State) : Host.Outcome State Fault Refusal :=
  s.on fun st => st.live fun t => t.atTick t.stc.spacingExpiry Station.spacingExpired

/-- BUDGET_EXPIRY (R85). -/
def execBudgetExpiry (s : State) : Host.Outcome State Fault Refusal :=
  s.on fun st => st.live fun t => t.atTick t.stc.budgetExpiry Station.budgetExpired

/-! ### Pumps -/

/-- The state timer of pump n while it is in the state that gives the timer its meaning (R92). -/
def Station.pumpTimer (st : Station) (n : PumpNo) (s : PumpState) : Option Nat :=
  if st.pumps[n].state = s then st.pumps[n].timer else none

/-- CONFIRM_EXPIRY (R99). -/
def execConfirmExpiry (n : PumpNo) (s : State) : Host.Outcome State Fault Refusal :=
  s.on fun st => st.live fun t =>
    t.atTick (t.pumpTimer n .starting) fun u => u.pumpEvent n fun v => v.confirmExpired n

/-- MIN_RUN_EXPIRY (R100). -/
def execMinRunExpiry (n : PumpNo) (s : State) : Host.Outcome State Fault Refusal :=
  s.on fun st => st.live fun t =>
    t.atTick (t.pumpTimer n .running) fun u => u.pumpEvent n fun v => v.minRunExpired n

/-- STOP_CONFIRM_EXPIRY (R101). -/
def execStopConfirmExpiry (n : PumpNo) (s : State) : Host.Outcome State Fault Refusal :=
  s.on fun st => st.live fun t =>
    t.atTick (t.pumpTimer n .stopping) fun u => u.pumpEvent n fun v => v.stopConfirmExpired n

/-- MIN_OFF_EXPIRY (R102). -/
def execMinOffExpiry (n : PumpNo) (s : State) : Host.Outcome State Fault Refusal :=
  s.on fun st => st.live fun t =>
    t.atTick (t.pumpTimer n .resting) fun u => u.pumpEvent n fun v => v.minOffExpired n

/-- PRUNE_EXPIRY (R110). -/
def execPruneExpiry (n : PumpNo) (s : State) : Host.Outcome State Fault Refusal :=
  s.on fun st => st.live fun t =>
    t.atTick t.pumps[n].pruneExpiry fun u => u.pumpEvent n fun v => v.prune n

/-! ### Rake -/

/-- The dead interval of the drive expires (R54): the CTU carries out the waiting direction, and reports to the RKC. -/
def Station.deadExpired (st : Station) : Station :=
  ({ st with ctu := { st.ctu with drive := st.ctu.drive.expire } }).driveReport.settleStc

/-- DEAD_INTERVAL_EXPIRY (R54). -/
def execDeadIntervalExpiry (s : State) : Host.Outcome State Fault Refusal :=
  s.on fun st => st.live fun t => t.atStep t.ctu.drive.deadExpiry Station.deadExpired

/-- The phase timer while the rake is in the state that gives it its meaning (R116). -/
def Station.rakeTimer (st : Station) (s : RakeState) : Option Nat := if st.rkc.state = s then st.rkc.timer else none

/-- The lower timer expires in LOWERING (R123). -/
def Station.lowerExpired (st : Station) : Station := (st.rakeJam .travelLower).settleStc

/-- The raise timer expires in RAISING (R124). -/
def Station.raiseExpired (st : Station) : Station := (st.rakeJam .travelRaise).settleStc

/-- The reverse timer expires in REVERSING (R125). -/
def Station.reverseExpired (st : Station) : Station := (st.rakeEnter .raising).driveReport.settleStc

/-- The dwell timer expires in DISCHARGING: the cycle is counted and the interval re-armed (R126). -/
def Station.dwellExpired (st : Station) : Station := ((st.countCycle.rakeEnter .resting).rearmInterval).settleStc

/-- The rest timer expires in RESTING (R126). -/
def Station.restExpired (st : Station) : Station := st.rakeIdle.settleStc

/-- LOWER_TIMER_EXPIRY (R123). -/
def execLowerTimerExpiry (s : State) : Host.Outcome State Fault Refusal :=
  s.on fun st => st.live fun t => t.atTick (t.rakeTimer .lowering) Station.lowerExpired

/-- RAISE_TIMER_EXPIRY (R124). -/
def execRaiseTimerExpiry (s : State) : Host.Outcome State Fault Refusal :=
  s.on fun st => st.live fun t => t.atTick (t.rakeTimer .raising) Station.raiseExpired

/-- REVERSE_TIMER_EXPIRY (R125). -/
def execReverseTimerExpiry (s : State) : Host.Outcome State Fault Refusal :=
  s.on fun st => st.live fun t => t.atTick (t.rakeTimer .reversing) Station.reverseExpired

/-- DWELL_EXPIRY (R126). -/
def execDwellExpiry (s : State) : Host.Outcome State Fault Refusal :=
  s.on fun st => st.live fun t => t.atTick (t.rakeTimer .discharging) Station.dwellExpired

/-- REST_TIMER_EXPIRY (R126). -/
def execRestTimerExpiry (s : State) : Host.Outcome State Fault Refusal :=
  s.on fun st => st.live fun t => t.atTick (t.rakeTimer .resting) Station.restExpired

/-- INTERVAL_EXPIRY (R119). -/
def execIntervalExpiry (s : State) : Host.Outcome State Fault Refusal :=
  s.on fun st => st.live fun t => t.atTick (some t.intervalExpiry) fun u => u.intervalExpired.settleStc

/-! ### Station clock and store -/

/-- STATION_TIME_ADVANCE (R164). -/
def execStationTimeAdvance (rolloverFirst : Bool) (s : State) : Host.Outcome State Fault Refusal :=
  s.on fun st => st.live fun t => t.atTick (some t.rpq.nextSecond) fun u => u.advanceSecond rolloverFirst

/-- STORE_WRITE_END (R184): a write may end at any moment up to its deadline. -/
def execStoreWriteEnd (defect : BitVec 16) (s : State) : Host.Outcome State Fault Refusal :=
  s.on fun st => st.live fun t =>
    match t.sst.inFlight with
    | none => t
    | some w => t.endWrite w defect

/-! ### What falls due -/

/-- An event when it is armed and its uptime has come. -/
def Station.dueAt (st : Station) (expiry : Option Nat) (i : Instr) : List Instr :=
  match expiry with
  | none => []
  | some e => if e ≤ st.uptime then [i] else []

/-- The permutation of the five readers with a number from 0 to 119: the readers are picked one after the other. -/
def readerOrder : Nat → List Reader → Nat → List Reader
  | 0, _, _ => []
  | fuel + 1, left, k =>
    match left[k % (fuel + 1)]? with
    | none => []
    | some r => r :: readerOrder fuel (left.filter (· != r)) (k / (fuel + 1))

/-- The readers of Table 1-8's record, in the order the manual lists them. -/
def allReaders : List Reader := [.duty, .rake, .overflow, .trace, .reports]

/-- The debounce expiries and first settlings that have fallen due. -/
def Station.dueContacts (st : Station) : List Instr :=
  allInputs.flatMap fun i =>
    let r := st.ctu.input i
    match r.candidate with
    | none => []
    | some c =>
      if c.due ≤ st.clock then
        (if r.hasSettled then [.debounceExpiry i (Config.swapChoice st.draws)]
         else [.firstSettling i (Config.swapChoice st.draws)])
      else []

/-- The events of pump n that have fallen due. -/
def Station.duePump (st : Station) (n : PumpNo) : List Instr :=
  st.dueAt (st.pumpTimer n .starting) (.confirmExpiry n) ++ st.dueAt (st.pumpTimer n .running) (.minRunExpiry n) ++
  st.dueAt (st.pumpTimer n .stopping) (.stopConfirmExpiry n) ++ st.dueAt (st.pumpTimer n .resting) (.minOffExpiry n) ++
  st.dueAt st.pumps[n].pruneExpiry (.pruneExpiry n)

/-- The dead interval, when its step has come. -/
def Station.dueDead (st : Station) : List Instr :=
  match st.ctu.drive.deadExpiry with
  | none => []
  | some e => if e ≤ st.clock then [.deadIntervalExpiry] else []

/-- Every timed event that has fallen due and has not been taken. What the world outside supplies to an event that nobody sent
(converter counts, the outcome of a store write, the order of what comes in either order) is free (assumption 5). -/
def Station.dueEvents (st : Station) : List Instr :=
  st.dueContacts ++ st.dueAt st.stc.spacingExpiry .spacingExpiry ++ st.dueAt st.stc.budgetExpiry .budgetExpiry ++
  allPumps.flatMap st.duePump ++ st.dueDead ++
  st.dueAt (st.rakeTimer .lowering) .lowerTimerExpiry ++ st.dueAt (st.rakeTimer .raising) .raiseTimerExpiry ++
  st.dueAt (st.rakeTimer .reversing) .reverseTimerExpiry ++ st.dueAt (st.rakeTimer .discharging) .dwellExpiry ++
  st.dueAt (st.rakeTimer .resting) .restTimerExpiry ++ st.dueAt (some st.intervalExpiry) .intervalExpiry ++
  st.dueAt (some st.rpq.nextSecond) (.stationTimeAdvance (Config.swapChoice st.draws)) ++
  st.dueAt (st.sst.inFlight.map (·.deadline)) (.storeWriteEnd (Config.storeDefect st.draws)) ++
  st.dueAt (some st.lve.nextCycle)
    (.measurementCycle (Config.analogCount st.draws 0) (Config.analogCount st.draws 1) (Config.analogCount st.draws 2)
      (Config.analogCount st.draws 3) (readerOrder 5 allReaders (Config.readerChoice st.draws).val))

/-- The event that an idle step takes: one of those due, freely chosen; none when none is due. -/
def Station.idleEvent (st : Station) : Option Instr :=
  if st.held then none else st.dueEvents[Config.dueChoice st.draws % st.dueEvents.length]?

/-- What an idle step draws of the free values. -/
def Station.drawn (st : Station) : Station := { st with draws := st.draws + 1 }

/-- Time passes: 10 ms with nothing due (R47, assumption 1); uptime stands while the part is held in reset (R187). -/
def Station.pass (st : Station) : Station := if st.held then st else { st with clock := st.clock + 1 }

end Sys2Proof.Machine
end

