-- ==== Sys2Proof/Machine/Dispatch.lean ====
section
/-! DEFINITION. The dispatch: one arm per command, each a direct call of its meaning. -/

namespace Sys2Proof.Machine

/-- A command's effect on everything but the queue of commands. -/
def exec (i : Instr) (s : State) : Host.Outcome State Fault Refusal :=
  match i with
  | .powerUp => Sys2Proof.Machine.execPowerUp s
  | .resetHold => Sys2Proof.Machine.execResetHold s
  | .selectFall p => Sys2Proof.Machine.execSelectFall p s
  | .emptyPeriod p clocked => Sys2Proof.Machine.execEmptyPeriod p clocked s
  | .requestNotTaken p bytes => Sys2Proof.Machine.execRequestNotTaken p bytes s
  | .unknownRequest p code rest => Sys2Proof.Machine.execUnknownRequest p code rest s
  | .portClear p => Sys2Proof.Machine.execPortClear p s
  | .readStatus p rest => Sys2Proof.Machine.execReadStatus p rest s
  | .readChannels p rest => Sys2Proof.Machine.execReadChannels p rest s
  | .readWell p rest => Sys2Proof.Machine.execReadWell p rest s
  | .readPump p rest => Sys2Proof.Machine.execReadPump p rest s
  | .readRake p rest => Sys2Proof.Machine.execReadRake p rest s
  | .readOverflow p rest => Sys2Proof.Machine.execReadOverflow p rest s
  | .readAlarms p rest => Sys2Proof.Machine.execReadAlarms p rest s
  | .readCurve p rest => Sys2Proof.Machine.execReadCurve p rest s
  | .setTraceWindow p rest => Sys2Proof.Machine.execSetTraceWindow p rest s
  | .readTrace p rest => Sys2Proof.Machine.execReadTrace p rest s
  | .peekReport p rest => Sys2Proof.Machine.execPeekReport p rest s
  | .readArith p rest => Sys2Proof.Machine.execReadArith p rest s
  | .readSettings p rest => Sys2Proof.Machine.execReadSettings p rest s
  | .ackAlarm p rest => Sys2Proof.Machine.execAckAlarm p rest s
  | .clearAttention p rest => Sys2Proof.Machine.execClearAttention p rest s
  | .setAttentionMasks p rest => Sys2Proof.Machine.execSetAttentionMasks p rest s
  | .releaseTrace p rest => Sys2Proof.Machine.execReleaseTrace p rest s
  | .setSetpoints p rest => Sys2Proof.Machine.execSetSetpoints p rest s
  | .inhibitPump p rest => Sys2Proof.Machine.execInhibitPump p rest s
  | .releasePump p rest => Sys2Proof.Machine.execReleasePump p rest s
  | .resetPumpFault p rest => Sys2Proof.Machine.execResetPumpFault p rest s
  | .requestRakeCycle p rest => Sys2Proof.Machine.execRequestRakeCycle p rest s
  | .resetRake p rest => Sys2Proof.Machine.execResetRake p rest s
  | .writeChannel p rest => Sys2Proof.Machine.execWriteChannel p rest s
  | .writePumpRecord p rest => Sys2Proof.Machine.execWritePumpRecord p rest s
  | .writeRotation p rest => Sys2Proof.Machine.execWriteRotation p rest s
  | .writeStationConstants p rest => Sys2Proof.Machine.execWriteStationConstants p rest s
  | .copyCurve p rest => Sys2Proof.Machine.execCopyCurve p rest s
  | .writeCurvePoints p rest => Sys2Proof.Machine.execWriteCurvePoints p rest s
  | .setCurveCount p rest => Sys2Proof.Machine.execSetCurveCount p rest s
  | .commitCurve p rest => Sys2Proof.Machine.execCommitCurve p rest s
  | .setArithControl p rest => Sys2Proof.Machine.execSetArithControl p rest s
  | .saveSettings p rest => Sys2Proof.Machine.execSaveSettings p rest s
  | .stationReset p rest => Sys2Proof.Machine.execStationReset p rest s
  | .takeReport p rest => Sys2Proof.Machine.execTakeReport p rest s
  | .setClock p rest => Sys2Proof.Machine.execSetClock p rest s
  | .measurementCycle wellA wellB inlet weir order => Sys2Proof.Machine.execMeasurementCycle wellA wellB inlet weir order s
  | .rawLevelChange c level => Sys2Proof.Machine.execRawLevelChange c level s
  | .debounceExpiry c swapped => Sys2Proof.Machine.execDebounceExpiry c swapped s
  | .firstSettling c swapped => Sys2Proof.Machine.execFirstSettling c swapped s
  | .spacingExpiry => Sys2Proof.Machine.execSpacingExpiry s
  | .budgetExpiry => Sys2Proof.Machine.execBudgetExpiry s
  | .confirmExpiry n => Sys2Proof.Machine.execConfirmExpiry n s
  | .minRunExpiry n => Sys2Proof.Machine.execMinRunExpiry n s
  | .stopConfirmExpiry n => Sys2Proof.Machine.execStopConfirmExpiry n s
  | .minOffExpiry n => Sys2Proof.Machine.execMinOffExpiry n s
  | .pruneExpiry n => Sys2Proof.Machine.execPruneExpiry n s
  | .deadIntervalExpiry => Sys2Proof.Machine.execDeadIntervalExpiry s
  | .lowerTimerExpiry => Sys2Proof.Machine.execLowerTimerExpiry s
  | .raiseTimerExpiry => Sys2Proof.Machine.execRaiseTimerExpiry s
  | .reverseTimerExpiry => Sys2Proof.Machine.execReverseTimerExpiry s
  | .dwellExpiry => Sys2Proof.Machine.execDwellExpiry s
  | .restTimerExpiry => Sys2Proof.Machine.execRestTimerExpiry s
  | .intervalExpiry => Sys2Proof.Machine.execIntervalExpiry s
  | .stationTimeAdvance rolloverFirst => Sys2Proof.Machine.execStationTimeAdvance rolloverFirst s
  | .storeWriteEnd defect => Sys2Proof.Machine.execStoreWriteEnd defect s

end Sys2Proof.Machine
end

