-- ==== Sys2Proof/Machine/Step.lean ====
section
/-! DEFINITION. One step: the command at the front of the queue, or, on an empty queue, the passing of time. -/

namespace Sys2Proof.Machine

/-- The machine on an empty queue: a timed event that has fallen due is taken, one a step, with what the world supplies drawn
from the free values; with none due, 10 ms pass (assumption 1). -/
def idle (s : State) : Host.Outcome State Fault Refusal :=
  match s.st.idleEvent with
  | some i => exec i { s with st := s.st.drawn }
  | none => .next { s with st := s.st.pass }

/-- The command at the front of the queue runs on the state with the queue's rest; on an empty queue time passes. -/
def step (s : State) : Host.Outcome State Fault Refusal :=
  match s.pending with
  | [] => idle s
  | i :: rest => exec i { s with pending := rest }

/-- The state with the command that a table word spells at the front of its queue. No row of the table gives bits, so no word
spells a command and the state is unchanged (assumption 32). -/
def State.withFetchWord (s : State) (nbits w : Nat) : State :=
  match Sys2Proof.decodeTableWord nbits w with
  | some i => { s with pending := i :: s.pending }
  | none => s

end Sys2Proof.Machine
end

