-- ==== Sys2Proof/Safety.lean ====
section
/-! DEFINITION. The terms that claims use: when a request reaches its owner, what a taken request leaves, when a timed event
comes about, and the invariants of the station, each named after the rule that it formalises. -/

namespace Sys2Proof.Machine

/-! ### Requests -/

/-- The catalogue (Table 11-3): the port, the code, class and form, and the bytes after the code, of a request. -/
def requestOfInstr : Instr → Option (PortId × Kind × List Byte)
  | .readStatus p rest => some (p, ⟨0x01, .view, .fixed 1⟩, rest)
  | .readChannels p rest => some (p, ⟨0x02, .view, .fixed 0⟩, rest)
  | .readWell p rest => some (p, ⟨0x03, .view, .fixed 0⟩, rest)
  | .readPump p rest => some (p, ⟨0x04, .view, .fixed 1⟩, rest)
  | .readRake p rest => some (p, ⟨0x05, .view, .fixed 0⟩, rest)
  | .readOverflow p rest => some (p, ⟨0x06, .view, .fixed 0⟩, rest)
  | .readAlarms p rest => some (p, ⟨0x07, .view, .fixed 2⟩, rest)
  | .readCurve p rest => some (p, ⟨0x08, .view, .fixed 6⟩, rest)
  | .setTraceWindow p rest => some (p, ⟨0x09, .view, .fixed 2⟩, rest)
  | .readTrace p rest => some (p, ⟨0x0A, .view, .fixed 2⟩, rest)
  | .peekReport p rest => some (p, ⟨0x0B, .view, .fixed 1⟩, rest)
  | .readArith p rest => some (p, ⟨0x0C, .view, .fixed 0⟩, rest)
  | .readSettings p rest => some (p, ⟨0x0D, .view, .fixed 1⟩, rest)
  | .ackAlarm p rest => some (p, ⟨0x20, .ack, .counted 0 1⟩, rest)
  | .clearAttention p rest => some (p, ⟨0x21, .ack, .counted 0 1⟩, rest)
  | .setAttentionMasks p rest => some (p, ⟨0x22, .ack, .fixed 8⟩, rest)
  | .releaseTrace p rest => some (p, ⟨0x23, .ack, .fixed 0⟩, rest)
  | .setSetpoints p rest => some (p, ⟨0x40, .operate, .fixed 35⟩, rest)
  | .inhibitPump p rest => some (p, ⟨0x41, .operate, .fixed 1⟩, rest)
  | .releasePump p rest => some (p, ⟨0x42, .operate, .fixed 1⟩, rest)
  | .resetPumpFault p rest => some (p, ⟨0x43, .operate, .fixed 1⟩, rest)
  | .requestRakeCycle p rest => some (p, ⟨0x44, .operate, .fixed 0⟩, rest)
  | .resetRake p rest => some (p, ⟨0x45, .operate, .fixed 0⟩, rest)
  | .writeChannel p rest => some (p, ⟨0x60, .configure, .fixed 6⟩, rest)
  | .writePumpRecord p rest => some (p, ⟨0x61, .configure, .fixed 13⟩, rest)
  | .writeRotation p rest => some (p, ⟨0x62, .configure, .counted 1 1⟩, rest)
  | .writeStationConstants p rest => some (p, ⟨0x63, .configure, .fixed 74⟩, rest)
  | .copyCurve p rest => some (p, ⟨0x64, .configure, .fixed 1⟩, rest)
  | .writeCurvePoints p rest => some (p, ⟨0x65, .configure, .counted 2 5⟩, rest)
  | .setCurveCount p rest => some (p, ⟨0x66, .configure, .fixed 2⟩, rest)
  | .commitCurve p rest => some (p, ⟨0x67, .configure, .fixed 1⟩, rest)
  | .setArithControl p rest => some (p, ⟨0x68, .configure, .fixed 11⟩, rest)
  | .saveSettings p rest => some (p, ⟨0x69, .configure, .fixed 0⟩, rest)
  | .stationReset p rest => some (p, ⟨0x6A, .configure, .fixed 0⟩, rest)
  | .takeReport p rest => some (p, ⟨0x80, .report, .fixed 2⟩, rest)
  | .setClock p rest => some (p, ⟨0x81, .report, .fixed 4⟩, rest)
  | .powerUp | .resetHold | .selectFall _ | .emptyPeriod _ _ | .requestNotTaken _ _ | .unknownRequest _ _ _
  | .portClear _ | .measurementCycle _ _ _ _ _ | .rawLevelChange _ _ | .debounceExpiry _ _ | .firstSettling _ _
  | .spacingExpiry | .budgetExpiry | .confirmExpiry _ | .minRunExpiry _ | .stopConfirmExpiry _ | .minOffExpiry _
  | .pruneExpiry _ | .deadIntervalExpiry | .lowerTimerExpiry | .raiseTimerExpiry | .reverseTimerExpiry | .dwellExpiry
  | .restTimerExpiry | .intervalExpiry | .stationTimeAdvance _ | .storeWriteEnd _ => none

/-- A port takes the request that a period carries: the part is not held in reset and the slot is not PENDING (R177, R187). -/
def Station.takes (st : Station) (p : PortId) : Prop := st.held = false ∧ st.slotPending p = false

/-- A request reaches its owner with the parameters `ps`: taken, its form right, its class permitted (R177 steps 2 to 4). -/
def Station.admits (st : Station) (p : PortId) (cls : ReqClass) (form : Form) (rest ps : List Byte) : Prop :=
  st.takes p ∧ frameParams rest = some ps ∧ form.fits ps = true ∧ st.permits p cls = true

/-- What a request leaves: the period of `rest` has ended at port `p`, the owner's effect, the reply in the slot. -/
def State.replied (s : State) (p : PortId) (rest : List Byte) (code : Byte) (reply : Reply)
    (effect : Station → Station) : State :=
  { s with st := (effect (s.st.rise p (1 + rest.length))).putReply p code reply }

/-- The station once a request has been taken at port `p` and answered with `r`, before any effect of its owner. -/
def State.taken (s : State) (p : PortId) (rest : List Byte) (code : Byte) (r : Reply) : Station :=
  (s.st.rise p (1 + rest.length)).putReply p code r

/-- What a request whose owner changes nothing leaves. -/
def State.answered (s : State) (p : PortId) (rest : List Byte) (code : Byte) (reply : Reply) : State :=
  s.replied p rest code reply id

/-! ### Timed events -/

/-- A timed event armed for the uptime `expiry` comes about at the station `u`: time stands at or past it, or moves on to it with
no other armed event before it (assumption 2). -/
def Station.comesDue (st : Station) (expiry : Option Nat) (u : Station) : Prop :=
  st.held = false ∧ ∃ e, expiry = some e ∧ st.reach (10 * e) = some u

/-- A settled input's candidate has run its time at the station `u` (R46). -/
def Station.changeComesDue (st : Station) (i : Input) (u : Station) : Prop :=
  st.held = false ∧ ∃ d, (st.ctu.input i).dueWhen true = some d ∧ st.reach d = some u

/-- An unsettled input's candidate has run its time at the station `u` (R48). -/
def Station.settlingComesDue (st : Station) (i : Input) (u : Station) : Prop :=
  st.held = false ∧ ∃ d, (st.ctu.input i).dueWhen false = some d ∧ st.reach d = some u

/-- The rake drive's dead interval ends at the station `u` (R53, assumption 3). -/
def Station.deadComesDue (st u : Station) : Prop :=
  st.held = false ∧ ∃ e, st.ctu.drive.deadExpiry = some e ∧ st.reach e = some u

/-- The station whose input `i` has taken its change, before the change is delivered (R46). -/
def Station.withChange (u : Station) (i : Input) : Station := u.setInput i ((u.ctu.input i).take u.uptime)

/-- The station whose input `i` has settled for the first time, before any notice is delivered (R48). -/
def Station.withSettling (u : Station) (i : Input) : Station := u.setInput i (u.ctu.input i).settle

/-- The rake's entry to WAITING and what the event makes of it, from the station `a` to `t`, with the homing flag clear: it stands in
the queue with its demand, or it has had its grant (R77, R121, R122). -/
def Station.rakeQueuedOrGranted (a t : Station) : Prop :=
  (t.rkc.state = .waiting ∧ t.queued .rake = true ∧ t.rkc.demand = true) ∨
  (t.stc.lastGrant = some a.uptime ∧ t.rkc.demand = false ∧
    (t.rkc.state = .lowering ∨ t.rkc.state = .raising ∨ t.rkc.state = .jammed))

/-! ### Frames -/

/-- `b` agrees with `a` outside the duty, start-control, pump, rake, alarm and report records and the outputs. -/
structure KeepsOuter (a b : Station) : Prop where
  held : b.held = a.held
  clock : b.clock = a.clock
  lve : b.lve = a.lve
  crv : b.crv = a.crv
  ofm : b.ofm = a.ofm
  trb : b.trb = a.trb
  portA : b.portA = a.portA
  portB : b.portB = a.portB
  consts : b.consts = a.consts
  sst : b.sst = a.sst
  draws : b.draws = a.draws
  inputs : ∀ i, b.ctu.input i = a.ctu.input i
  selectors : b.ctu.selectors = a.ctu.selectors

/-- `b` agrees with `a` outside the alarm table, the report and clock record, the port units and the BEACON output. -/
structure KeepsControl (a b : Station) : Prop where
  held : b.held = a.held
  clock : b.clock = a.clock
  lve : b.lve = a.lve
  crv : b.crv = a.crv
  dty : b.dty = a.dty
  stc : b.stc = a.stc
  pumps : b.pumps = a.pumps
  rkc : b.rkc = a.rkc
  ofm : b.ofm = a.ofm
  trb : b.trb = a.trb
  consts : b.consts = a.consts
  sst : b.sst = a.sst
  draws : b.draws = a.draws
  ctu : b.ctu = { a.ctu with beacon := b.ctu.beacon }

/-- The floats judged anew while the source is FLOAT, from the station `v` to `t`: both level conditions at the LVE, and a demand
evaluation from the floats at the DTY (R27, R67, R70). -/
structure FloatsJudged (v t : Station) : Prop where
  levels : t.lve = { v.lve with highLevel := v.settled .floatHigh, lowLevel := !v.settled .floatLow }
  high : t.alt.points[Alarm.highLevel].condition = v.settled .floatHigh
  low : t.alt.points[Alarm.lowLevel].condition = !v.settled .floatLow
  held : t.dty.held = v.demandFloat.held
  effective : t.dty.effective = v.demandFloat.effective
  cutoff : t.dty.cutoff = v.demandFloat.cutoff
  source : t.dty.lastSource = some .float

/-! ### Daily close -/

/-- A pump's pumped volume in cubic metres, of the run seconds that it hands over, as rounded (R166). -/
def Station.volumeOfDay (st : Station) (seconds : PumpNo → Nat) (n : PumpNo) : Nat :=
  (roundDiv st.lve.arith.mode ((seconds n * st.pumps[n].settings.ratedFlow : Nat) : Int) 1000).toNat

/-- What a daily close makes of the summary in force and the run seconds that the pumps hand over: EVENT_OPEN_AT_END fixed, and the
figures of the day taken, the starts and the pumped volumes held at 65,535 (R166). -/
def Station.closedDay (st : Station) (summary : Summary) (seconds : PumpNo → Nat) : DailyRec :=
  { summary := { summary with eventOpenAtEnd := st.ofm.event.any fun e => e.isOpen }
    starts := Vector.ofFn fun n => min 65535 st.pumps[n].startsToday
    runSeconds := Vector.ofFn seconds
    pumped := Vector.ofFn fun n => min 65535 (st.volumeOfDay seconds n)
    rakeCycles := st.rkc.cyclesToday, rakeJams := st.rkc.jamsToday }

/-- A start count or a pumped volume of the day lies above 65,535, so that the close sets SATURATED (R166). -/
def Station.overfullDay (st : Station) (seconds : PumpNo → Nat) : Prop :=
  ∃ n : PumpNo, 65535 < st.pumps[n].startsToday ∨ 65535 < st.volumeOfDay seconds n

/-! ### Stored items -/

/-- Every stored item lies in its range and the lists and curves pass their tests, so that a power-up keeps each (R186). -/
def StoredItems.fit (t : StoredItems) : Prop :=
  (∀ c ∈ [t.wellA, t.wellB, t.inlet, t.weir], c.checks.all id = true) ∧
  (∀ n : PumpNo, (pumpFieldChecks t.pumps[n].values).all id = true) ∧ t.constants.checks.all id = true ∧
  (∃ l, pumpList t.rotation = some l ∧ l.Nodup ∧ ∀ n : PumpNo, n ∈ l ↔ t.pumps[n].installed = true) ∧
  t.altMode ≤ 2 ∧ t.roundMode ≤ 2 ∧ t.setpoints.failing (installedList t.pumps).length = none ∧
  t.volumeCurve.valid .volume = true ∧ t.weirCurve.valid .weir = true

/-! ### Invariants -/

/-- The demand of a pump may stand (R95). -/
def PumpState.mayBeDemanded : PumpState → Bool
  | .ready | .waiting | .starting | .running | .stopping | .resting => true
  | .uninstalled | .off | .hand | .inhibited | .faulted => false

/-- A pump record as Chapter 6 keeps it: the output follows the state (R94), the installed setting the state (R113), the shed
mark the demand (R92), the cause FAULTED and the deferred-stop mark the motion (Table 6-1), the demand the state (R95), the
history its limit (R96, R110). -/
def PumpRec.safe (p : PumpRec) (output : Bool) : Prop :=
  (output = true → p.state.inMotion = true) ∧ (p.settings.installed = true ↔ p.state ≠ .uninstalled) ∧
  (p.shed = true → p.demand = true) ∧ (p.demand = true → p.state.mayBeDemanded = true) ∧
  (p.cause.isSome = true ↔ p.state = .faulted) ∧ (p.deferred ≠ .none → p.state.inMotion = true) ∧
  (p.deferred = .cutoff → p.state = .starting) ∧ p.history.length ≤ p.settings.maxStarts ∧
  (p.state = .waiting → p.history.length < p.settings.maxStarts)

/-- Every pump record is as Chapter 6 keeps it. -/
def Station.pumpsSafe (st : Station) : Prop := ∀ n : PumpNo, st.pumps[n].safe st.ctu.pumpRun[n]

/-- The rotation list holds each installed pump exactly once and no other (R60). -/
def Station.rotationSafe (st : Station) : Prop :=
  st.dty.rotation.Nodup ∧ ∀ n : PumpNo, n ∈ st.dty.rotation ↔ st.pumps[n].settings.installed = true

/-- The committed load stays within the active limit (R82), over a rotation list as R60 has it, with no event waiting at the
STC. -/
def Station.loadSafe (st : Station) : Prop :=
  st.rotationSafe ∧ st.committedLoad ≤ st.activeLimit ∧ st.stc.heard = false

/-- From its settling notice on, the STC's motor table shows every RUN_FB as settled (R79), and the active limit follows the
settled GEN_RUN (R80). -/
def Station.tableSafe (st : Station) : Prop :=
  st.stcSettled = true →
    (∀ n : PumpNo, st.stc.runFbSeen[n] = st.settled (.runFb n)) ∧ st.stc.genSeen = st.settled .genRun

/-- No two entries for one motor, and no hold reason behind the head (R75). -/
def Station.queueSafe (st : Station) : Prop :=
  (st.stc.queue.map (·.motor)).Nodup ∧ ∀ e ∈ st.stc.queue.tail, e.hold = .none

/-- A point record as R153 and R154 keep it. -/
def PointRec.safe (p : PointRec) : Prop :=
  (p.condition = true ↔ p.state = .activeUnack ∨ p.state = .activeAck) ∧ p.occurrences ≤ 255 ∧
  (p.occurrences = 0 → p.state = .normal ∧ p.firstActive = 0 ∧ p.lastChange = 0)

/-- The alarm table: each point record, and the beacon demand and the BEACON output by R158 and R55. -/
def Station.alarmsSafe (st : Station) : Prop :=
  (∀ k : PointNo, st.alt.points[k].safe) ∧
  st.alt.beaconDemand = beaconJudged st.alt.points st.consts.priorities ∧
  (st.held = false → st.ctu.beacon = st.alt.beaconDemand)

/-- A curve: the active copy is valid, the shadow of a pending curve is valid, the shadow's count is at most 16 (R28, R40). -/
def Curve.safe (c : Curve) (id : CurveId) : Prop :=
  c.active.valid id = true ∧ (c.mark ≠ none → c.shadow.valid id = true) ∧ c.shadow.n ≤ 16

/-- Both curves. -/
def Station.curvesSafe (st : Station) : Prop := st.crv.volume.safe .volume ∧ st.crv.weir.safe .weir

/-- At most 64 records in the queue (R170), sequence numbers in 16 bits (R169). -/
def Station.reportsSafe (st : Station) : Prop := st.rpq.queue.length ≤ 64 ∧ st.rpq.nextSeq < 65536

/-- The trace's entries, and its state against the post-trigger count and trigger uptime (R147, R148). -/
def Trace.safe (t : Trace) : Prop :=
  t.entries.length ≤ 256 ∧ t.postCount ≤ 64 ∧ (t.state = .triggered ↔ 0 < t.postCount) ∧
  (t.state = .live ↔ t.triggerUptime = none)

/-- A trace window: s ≤ next ≤ e, each from 0 to 255 (R150). -/
def Window.safe (w : Window) : Prop := w.start ≤ w.next ∧ w.next ≤ w.stop ∧ w.stop ≤ 255

/-- A port unit: PENDING exactly while a request waits, and read from the start; NONE with code and length 0 (R178). -/
def Port.safe (q : Port) : Prop :=
  (q.slot.status = .pending ↔ q.awaits ≠ none) ∧ (q.slot.status = .pending → q.readInd = true) ∧
  (q.slot.status = .none → q.slot.code = 0 ∧ q.slot.data = []) ∧ q.window.safe

/-- The trace and both port units. -/
def Station.portsSafe (st : Station) : Prop := st.trb.safe ∧ st.portA.safe ∧ st.portB.safe

/-- A channel: its settings in the ranges of Table 1-2, the filter state within 0 to 480,000 and the level within 0 to 30,000
(R4, R5), the run counts by Table 1-4. -/
def Channel.safe (c : Channel) : Prop :=
  c.settings.checks.all id = true ∧ c.filter ≤ 480000 ∧ c.level ≤ 30000 ∧ c.badRun ≤ 2 ∧ c.goodRun ≤ 2

/-- The Level Engine: its channels, the disagreement run (R16), the inflow ring (R20). -/
def Station.levelSafe (st : Station) : Prop :=
  st.lve.wellA.safe ∧ st.lve.wellB.safe ∧ st.lve.inlet.safe ∧ st.lve.weir.safe ∧ st.lve.disagreeRun ≤ 30 ∧
  st.lve.ring.length ≤ 16

/-- A property of the station that every step keeps. -/
def KeptByEveryStep (inv : Station → Prop) : Prop := ∀ s t : State, inv s.st → step s = .next t → inv t.st

end Sys2Proof.Machine
end

