-- ==== Sys2Proof/Certificates/Slice0/Obligations.lean ====
section
/-! DEFINITION. The statements for the provers, in the order of the blocks: the machine, the resets, the ports, then Chapters 1
to 11, then what every step keeps. A request is stated under `Station.admits`: taken at its port, its form right, its class
permitted. A timed event is stated under `comesDue`: armed, and time stands at or moves on to its moment. -/

open Sys2Proof Sys2Proof.Machine

/-! ### The machine -/

/-- The command at the front of the queue runs on the state with the queue's rest (assumption 1). -/
def Obligations.StepRunsFrontCommand : Prop :=
  ∀ (c : Instr) (s : State), step { s with pending := c :: s.pending } = exec c s

/-- A command with operands that its row can have answers a next state and leaves the queue alone; with others it is refused
(assumption 21: DESIGN CHOICE). -/
def Obligations.CommandsCompleteOrAreRefused : Prop :=
  ∀ (c : Instr) (s : State),
    (c.wellFormed = true → ∃ t, exec c s = .next t ∧ t.pending = s.pending) ∧
    (c.wellFormed = false → exec c s = .refused .illFormed)

/-- On an empty queue one of the timed events that have fallen due is taken, or 10 ms pass when none has; a part held in reset
stands still (assumption 1: DESIGN CHOICE). Which due event is taken, and with what operands, the free values decide (assumption 5:
DESIGN CHOICE). -/
def Obligations.IdleStepTakesADueEvent : Prop :=
  ∀ st : Station,
    (st.held = true → step ⟨st, []⟩ = .next ⟨st, []⟩) ∧
    (st.held = false → st.dueEvents = [] → step ⟨st, []⟩ = .next ⟨{ st with clock := st.clock + 1 }, []⟩) ∧
    (st.held = false → st.dueEvents ≠ [] → ∃ c ∈ st.dueEvents, step ⟨st, []⟩ = exec c ⟨st.drawn, []⟩)

/-! ### Resets -/

/-- State.reset is what a power-up leaves of it, with every block as its chapter has it after a power-up. The store has never been
written and the contacts are open (assumption 13: DESIGN CHOICE). -/
def Obligations.ResetLeavesPowerUpValues : Prop :=
  exec .powerUp State.reset = .next State.reset ∧ State.reset.pending = [] ∧
  let st := State.reset.st
  st.held = false ∧ st.uptime = 0 ∧
  (∀ c ∈ [st.lve.wellA, st.lve.wellB, st.lve.inlet, st.lve.weir],
    c.state = .failed ∧ c.filter = 0 ∧ c.level = 0 ∧ c.badRun = 0 ∧ c.goodRun = 0 ∧ c.sample = .none ∧ c.raw = 0 ∧
    c.settings = ⟨5000, 0, 2⟩) ∧
  st.lve.arith = ⟨.nearestAway, .clear, .clear⟩ ∧ st.lve.ring = [] ∧ st.lve.disagreeRun = 0 ∧ st.lve.published = none ∧
  st.lve.highLevel = false ∧ st.lve.lowLevel = false ∧ st.lve.nextCycle = 10 ∧
  (∀ id : CurveId, (st.crv.curve id).shadow = (st.crv.curve id).active ∧ (st.crv.curve id).mark = none) ∧
  (∀ i ∈ allInputs, st.settled i = false ∧ (st.ctu.input i).hasSettled = false ∧ (st.ctu.input i).lastChange = none ∧
    (st.ctu.input i).candidate = some ⟨0, st.consts.debounce i⟩) ∧
  (∀ n : PumpNo, st.ctu.selectors[n] = ⟨.off, false⟩ ∧ st.ctu.pumpRun[n] = false) ∧
  st.ctu.drive = .dead 50 none ∧ st.ctu.beacon = false ∧
  st.dty.held = 0 ∧ st.dty.effective = 0 ∧ st.dty.hand = 0 ∧ st.dty.need = 0 ∧ st.dty.unmet = 0 ∧
  st.dty.altMark = false ∧ st.dty.lastSource = none ∧ st.dty.rotation = [0, 1] ∧ st.dty.mode = .onCycle ∧
  st.stc.queue = [] ∧ st.stc.shedEmpty = true ∧ st.stc.lastGrant = none ∧ st.stc.spacingExpiry = none ∧
  st.stc.budgetSince = none ∧ st.stc.capacityHeld = false ∧ st.stc.loadShed = false ∧ st.activeLimit = 1200 ∧
  (∀ n : PumpNo, st.pumps[n].state = (if st.pumps[n].settings.installed then .off else .uninstalled) ∧
    st.pumps[n].cause = none ∧ st.pumps[n].demand = false ∧ st.pumps[n].shed = false ∧ st.pumps[n].deferred = .none ∧
    st.pumps[n].inhibit = false ∧ st.pumps[n].runLost = false ∧ st.pumps[n].history = [] ∧ st.pumps[n].startsToday = 0 ∧
    st.pumps[n].runToday = 0 ∧ st.pumps[n].stateChange = 0) ∧
  st.npos = 2 ∧
  st.rkc.state = .idle ∧ st.rkc.jamCause = none ∧ st.rkc.homing = false ∧ st.rkc.demand = false ∧ st.rkc.retries = 0 ∧
  st.rkc.timer = none ∧ st.rkc.lastCycleEnd = none ∧ st.rkc.intervalOrigin = 0 ∧ st.rkc.shortInterval = true ∧
  st.intervalExpiry = 4200 ∧ st.rkc.lastDiff = none ∧ st.rkc.blindCount = 0 ∧ st.rkc.cyclesToday = 0 ∧ st.rkc.jamsToday = 0 ∧
  st.ofm.state = .quiet ∧ st.ofm.event = none ∧ st.ofm.eventCounter = 0 ∧ st.ofm.lastHead = none ∧ st.ofm.lastFlow = none ∧
  st.trb = ⟨[], .live, 0, none, 0⟩ ∧
  (∀ k : PointNo, k ≠ Alarm.settingsDefault → st.alt.points[k] = ⟨.normal, false, 0, 0, 0⟩) ∧
  st.alt.points[Alarm.settingsDefault].state = .activeUnack ∧ st.alt.beaconDemand = false ∧
  st.rpq.stationTime = 0 ∧ st.rpq.clockNotSet = true ∧ st.rpq.nextSeq = 3 ∧
  st.rpq.queue.map (·.body) = [.station .powerUp, .station .settingsDefault, .alarmChange Alarm.settingsDefault .activeUnack] ∧
  (∀ p : PortId, (st.port p).slot = ⟨.none, 0, []⟩ ∧ (st.port p).notTaken = false ∧ (st.port p).readInd = false ∧
    (st.port p).window = ⟨0, 255, 0⟩ ∧ (st.alt.attn p).rise = 0xFFFFFFFF ∧ (st.alt.attn p).fall = 0) ∧
  st.sst.inFlight = none ∧ st.sst.followUp = false ∧ st.sst.coverA = .none ∧ st.sst.coverB = .none ∧
  st.sst.outcome = .none ∧ st.sst.fellBack = true

/-- State.reset meets every invariant that the statements below show each step to keep. What State.reset has in its store and its contacts
is assumption 13 (DESIGN CHOICE); the invariants name two fields of the model's own, heard (assumption 10: DEDUCED) and awaits
(assumption 28: DEDUCED), and the settling of all seven STC contacts (assumption 26: DEDUCED). -/
def Obligations.ResetMeetsTheInvariants : Prop :=
  Station.reset.pumpsSafe ∧ Station.reset.loadSafe ∧ Station.reset.tableSafe ∧ Station.reset.queueSafe ∧
  Station.reset.alarmsSafe ∧ Station.reset.curvesSafe ∧ Station.reset.reportsSafe ∧ Station.reset.portsSafe ∧
  Station.reset.levelSafe

/-- A power-up over an unsound image hands defaults throughout, and every input begins its first settling against its raw level. The
store image is not rewritten (R186, R187, R174). The rest is as State.reset has it; what no rule gives there is assumption 33: DESIGN
CHOICE. -/
def Obligations.PowerUpFallsBackToDefaults : Prop :=
  ∀ s : State, s.st.sst.image.sound = false →
    exec .powerUp s = .next { s with st := { Station.reset with
      ctu := s.st.ctu.powerUp .default, sst := .powerUp s.st.sst.image true, draws := s.st.draws } } ∧
    ∀ i : Input, (s.st.ctu.powerUp .default).input i =
      ⟨(s.st.ctu.input i).raw, false, false, some ⟨0, Constants.default.debounce i⟩, none⟩

/-- A power-up over a sound image whose items are fit restores every stored item, and its first record is STATION(POWER_UP), number
0 (R183, R186, R174). Over any sound image a setting outside its range takes its default and every other setting is kept; a curve,
the rotation list and the setpoint table are judged whole (R43, R62, R66). What the ranges that hang on another setting are judged
against is assumption 35: DESIGN CHOICE. -/
def Obligations.PowerUpRestoresFitItems : Prop :=
  (∀ s : State, s.st.sst.image.sound = true →
    let i := s.st.sst.image.items
    let mended := fun (checks : List Bool) (stored defaults restored : List Nat) =>
      restored.length = defaults.length ∧
      ∀ j, j < defaults.length → restored.getD j 0 = if checks.getD j false then stored.getD j 0 else defaults.getD j 0
    let channel := fun stored restored : ChanSettings =>
      mended stored.checks stored.values ChanSettings.default.values restored.values
    let curve := fun (id : CurveId) (stored default restored : CurveCopy) =>
      restored = if stored.valid id then stored else default
    ∃ t, exec .powerUp s = .next t ∧ t.pending = s.pending ∧
      mended i.constants.checks i.constants.values Constants.default.values t.st.consts.values ∧
      (∀ n : PumpNo, t.st.pumps[n].settings.installed = i.pumps[n].installed ∧
        mended (pumpFieldChecks i.pumps[n].values) i.pumps[n].values (PumpSettings.default i.pumps[n].installed).values
          t.st.pumps[n].settings.values ∧
        t.st.pumps[n].startsTotal = i.startsTotal[n] ∧ t.st.pumps[n].runTotal = i.runTotal[n]) ∧
      channel i.wellA t.st.lve.wellA.settings ∧ channel i.wellB t.st.lve.wellB.settings ∧
      channel i.inlet t.st.lve.inlet.settings ∧ channel i.weir t.st.lve.weir.settings ∧
      curve .volume i.volumeCurve .defaultVolume t.st.crv.volume.active ∧
      curve .weir i.weirCurve .defaultWeir t.st.crv.weir.active ∧
      t.st.dty.setpoints = (if i.setpoints.failing t.st.npos = none then i.setpoints else .default) ∧
      (∀ l, pumpList i.rotation = some l →
        (l.Nodup ∧ ∀ n : PumpNo, n ∈ l ↔ i.pumps[n].installed = true) → t.st.dty.rotation = l) ∧
      ((¬∃ l, pumpList i.rotation = some l ∧ l.Nodup ∧ ∀ n : PumpNo, n ∈ l ↔ i.pumps[n].installed = true) →
        t.st.dty.rotation = allPumps.filter fun n => i.pumps[n].installed) ∧
      t.st.dty.mode.code = (if i.altMode ≤ 2 then i.altMode else 0) ∧
      t.st.lve.arith.mode.code = (if i.roundMode ≤ 2 then i.roundMode else 0) ∧
      t.st.lve.arith.masks = i.masks ∧ t.st.rkc.cyclesTotal = i.cyclesTotal ∧ t.st.ofm.eventCounter = i.eventCounter ∧
      t.st.sst.fellBack = false) ∧
  ∀ s : State, s.st.sst.image.sound = true → s.st.sst.image.items.fit →
    ∃ t, exec .powerUp s = .next t ∧ t.pending = s.pending ∧ t.st.storedItems = s.st.sst.image.items ∧
      t.st.sst = .powerUp s.st.sst.image false ∧ t.st.rpq.queue = [⟨0, 0, .station .powerUp⟩] ∧ t.st.rpq.nextSeq = 1 ∧
      t.st.uptime = 0 ∧ t.st.ctu.drive = .dead 50 none ∧
      ∀ n : PumpNo, t.st.ctu.pumpRun[n] = false ∧ t.st.pumps[n].history = [] ∧
        t.st.pumps[n].state = (if t.st.pumps[n].settings.installed then .off else .uninstalled)

/-- RESET_HOLD holds every output off and releases both attention lines; while it lasts nothing but a power-up or a change of a
terminal has any effect (R187). That records are kept and a write in flight is cut off is assumption 14: DESIGN CHOICE. -/
def Obligations.HeldPartDrivesAndTakesNothing : Prop :=
  ∀ s : State,
    (∃ t, exec .resetHold s = .next t ∧ t.pending = s.pending ∧ t.st.held = true ∧
      (∀ n : PumpNo, t.st.ctu.pumpRun[n] = false) ∧ (∀ d, t.st.ctu.drive.output d = false) ∧ t.st.ctu.beacon = false ∧
      (∀ p, t.st.attention p = false) ∧ t.st.sst.inFlight = none ∧ t.st.sst.image = s.st.sst.image ∧
      t.st.pumps = s.st.pumps ∧ ∀ i, t.st.ctu.input i = s.st.ctu.input i) ∧
    (s.st.held = true → ∀ c : Instr, c.wellFormed = true → c ≠ .powerUp → c ≠ .resetHold →
      (∀ i level, c ≠ .rawLevelChange i level) → exec c s = .next s)

/-- STATION RESET is answered DONE, and every block carries out its soft reset handling (R188): the records after STATION(SOFT_RESET)
(R174), curves (R44), drive (R53), beacon (R55, R163), duty (R74), start control (R90), pumps (R114), rake (R133), overflow
(R146). That the abandoned indication of a commit is the byte 1 is assumption 17 (DESIGN CHOICE), and that the port holds which request
its PENDING reply belongs to, assumption 28 (DEDUCED). -/
def Obligations.StationResetHandlesEveryBlock : Prop :=
  ∀ (s : State) (p : PortId) (rest ps : List Byte), s.st.admits p .configure (.fixed 0) rest ps →
    ∃ t, exec (.stationReset p rest) s = .next t ∧ t.pending = s.pending ∧
      (t.st.port p).slot = ⟨.done, 0x6A, []⟩ ∧ t.st.clock = s.st.clock ∧ t.st.consts = s.st.consts ∧
      t.st.sst = s.st.sst ∧ t.st.trb = s.st.trb ∧ (∀ i, t.st.ctu.input i = s.st.ctu.input i) ∧
      t.st.lve.nextCycle = s.st.uptime + 10 ∧ t.st.lve.ring = [] ∧ t.st.lve.disagreeRun = 0 ∧
      t.st.lve.wellA = s.st.lve.wellA ∧ t.st.lve.wellB = s.st.lve.wellB ∧ t.st.lve.inlet = s.st.lve.inlet ∧
      t.st.lve.weir = s.st.lve.weir ∧ t.st.lve.published = s.st.lve.published ∧ t.st.lve.arith = s.st.lve.arith ∧
      (∀ id : CurveId, t.st.crv.curve id = { s.st.crv.curve id with mark := none }) ∧
      (∀ (id : CurveId) (q : PortId), (s.st.crv.curve id).mark = some q → (s.st.port q).slot.status = .pending →
        (s.st.port q).awaits = some (.commit id) →
        (t.st.port q).slot = ⟨.refusedState, (s.st.port q).slot.code, byte id.code ++ flagByte true⟩ ∧
        (t.st.port q).readInd = false) ∧
      (∀ n : PumpNo, t.st.ctu.pumpRun[n] = false ∧
        t.st.pumps[n].state = s.st.pumps[n].state.softReset (s.st.settled (.runFb n)) ∧
        t.st.pumps[n].demand = false ∧ t.st.pumps[n].shed = false ∧ t.st.pumps[n].deferred = .none ∧
        t.st.pumps[n].inhibit = false ∧ t.st.pumps[n].settings = s.st.pumps[n].settings ∧
        t.st.pumps[n].history = s.st.pumps[n].history ∧ t.st.pumps[n].startsToday = s.st.pumps[n].startsToday ∧
        t.st.pumps[n].runTotal = s.st.pumps[n].runTotal ∧ t.st.queued (.pump n) = false ∧
        t.st.stc.shedPumps[n] = false) ∧
      t.st.stc.shedRake = false ∧ t.st.stc.capacityHeld = false ∧
      t.st.dty = { s.st.dty with
        held := 0, effective := 0, hand := 0, need := 0, unmet := 0, altMark := false, lastSource := none, mods := .none,
        cutoff := false, orders := Vector.replicate 6 none } ∧
      (∃ later : List RecordBody, (∀ b ∈ later, ∀ k, b ≠ .station k) ∧
        t.st.rpq = later.foldl ReportQueue.create (s.st.rpq.create (.station .softReset))) ∧
      t.st.ctu.beacon = t.st.alt.beaconDemand ∧
      (∀ k ∈ [Alarm.highLevel, Alarm.floatHigh, Alarm.lowLevel, Alarm.levelDisagree, Alarm.wellAFailed, Alarm.wellBFailed,
        Alarm.sourceFloat, Alarm.inletFailed, Alarm.weirFailed, Alarm.curveRange, Alarm.arithSaturated,
        Alarm.settingsDefault], t.st.alt.points[k] = s.st.alt.points[k]) ∧
      (let k := s.st.rkc
       let now := s.st.uptime
       let off := match s.st.ctu.drive with
        | .clear => Drive.clear
        | .driven _ => .dead (s.st.clock + 50) none
        | .dead e _ => .dead e none
       let queues := k.state ≠ .jammed ∧ (k.homing = true ∨ (k.demand = true ∧ s.st.settled .skipFull = false))
       let idle := if k.state = .idle then k else { k with
        state := .idle, stateChange := now, timer := none, drivePending := false }
       (k.state = .jammed → t.st.rkc = k) ∧
       (k.state ≠ .jammed → k.state ≠ .discharging → ¬queues → t.st.rkc = idle) ∧
       (k.state = .discharging → ¬queues → t.st.rkc = { idle with
        cyclesToday := min 65535 (k.cyclesToday + 1), cyclesTotal := min 4294967295 (k.cyclesTotal + 1)
        lastCycleEnd := some now, intervalOrigin := now }) ∧
       (¬queues → t.st.ctu.drive = off) ∧
       (queues → (t.st.rkc.state = .waiting ∧ t.st.queued .rake = true ∧ t.st.rkc.demand = k.demand ∧
          t.st.rkc.homing = k.homing ∧ t.st.ctu.drive = off) ∨ t.st.stc.lastGrant = some now)) ∧
      t.st.ofm.state = .quiet ∧ t.st.ofm.eventCounter = s.st.ofm.eventCounter ∧
      (∀ e, s.st.ofm.event = some e → (s.st.ofm.state = .spilling ∨ s.st.ofm.state = .easing) →
        t.st.ofm.event = some { e with
          isOpen := false, closeTime := some s.st.rpq.stationTime, closeReason := some .reset }) ∧
      t.st.alt.points[Alarm.overflow].condition = false ∧ t.st.rpq.stationTime = s.st.rpq.stationTime

/-! ### Ports (Chapter 11) -/

/-- SELECT_FALL latches the port status byte and the reply slot, which the period sends one byte per byte clocked, then zeros
(R176); the status byte shows the five flags of Table 11-7 (R179). The rise after an empty period clears the not-taken flag, and sets
the read indication when the latched slot was final and has been read whole (R177, R178). PORT_CLEAR sets the slot to NONE and
clears both flags, whatever the slot holds (R189). That a rise with nothing latched sets no read indication is assumption 20: DESIGN
CHOICE. -/
def Obligations.SelectPeriodsLatchAndClear : Prop :=
  (∀ (s : State) (p : PortId), s.st.held = false →
    exec (.selectFall p) s = .next ⟨s.st.setPort { s.st.port p with
      latched := some ⟨s.st.statusByte p, (s.st.port p).slot⟩ } p, s.pending⟩ ∧
    (∀ clocked, clocked ≠ 1 → exec (.emptyPeriod p clocked) s = .next ⟨s.st.setPort { s.st.port p with
      readInd := (s.st.port p).readInd || (match (s.st.port p).latched with
        | some l => l.slot.status.final && decide (4 + l.slot.data.length ≤ clocked)
        | none => false),
      notTaken := false, latched := none } p, s.pending⟩) ∧
    exec (.portClear p) s = .next ⟨s.st.setPort { s.st.port p with
      slot := ⟨.none, 0, []⟩, awaits := none, readInd := false, notTaken := false, latched := none } p, s.pending⟩) ∧
  (∀ (st : Station) (p : PortId),
    (st.statusByte p).getLsbD 7 = ((st.port p).slot.status == .pending) ∧
    (st.statusByte p).getLsbD 6 = (st.port p).notTaken ∧ (st.statusByte p).getLsbD 5 = st.attention p ∧
    (st.statusByte p).getLsbD 4 = st.settled .modeRemote ∧ (st.statusByte p).getLsbD 3 = st.settled .maintKey ∧
    ∀ j, j < 3 → (st.statusByte p).getLsbD j = false) ∧
  ∀ l : Latched, l.sends 0 = l.statusByte ∧ l.sends 1 = BitVec.ofNat 8 l.slot.status.code ∧ l.sends 2 = l.slot.code ∧
    l.sends 3 = BitVec.ofNat 8 l.slot.data.length ∧ ∀ j, l.sends (4 + j) = l.slot.data.getD j 0

/-- A request that finds the reply slot PENDING is discarded unread: the slot stays, the not-taken flag is set, and nothing else
changes but what the end of the period does to the port (R177 step 2). A taken request whose form is wrong is answered
REFUSED_FORMAT, and so is one whose code is not in the catalogue; no block but the port is touched (R177 step 3). That a request's row
behind a PENDING slot is the period not taken is assumption 20: DESIGN CHOICE. -/
def Obligations.PendingAndMalformedRequests : Prop :=
  (∀ (s : State) (p : PortId), s.st.held = false → s.st.slotPending p = true →
    (∀ c k rest, requestOfInstr c = some (p, k, rest) →
      exec c s = .next { s with st := (s.st.rise p (1 + rest.length)).setNotTaken p true }) ∧
    (∀ code rest, (Instr.unknownRequest p code rest).wellFormed = true →
      exec (.unknownRequest p code rest) s = .next { s with st := (s.st.rise p (1 + rest.length)).setNotTaken p true }) ∧
    (∀ bytes, (Instr.requestNotTaken p bytes).wellFormed = true →
      exec (.requestNotTaken p bytes) s = .next { s with st := (s.st.rise p bytes.length).setNotTaken p true }) ∧
    ∀ n, (((s.st.rise p n).setNotTaken p true).port p).slot = (s.st.port p).slot) ∧
  ∀ (s : State) (p : PortId), s.st.takes p →
    (∀ c k rest, requestOfInstr c = some (p, k, rest) →
      (∀ ps, frameParams rest = some ps → k.form.fits ps = false) →
      exec c s = .next (s.answered p rest k.code (.final .refusedFormat []))) ∧
    ∀ code rest, (Instr.unknownRequest p code rest).wellFormed = true →
      exec (.unknownRequest p code rest) s = .next (s.answered p rest code (.final .refusedFormat []))

/-- A port permits a request by Table 11-2 from the settled keys; one outside its class is answered REFUSED_AUTHORITY and touches no
block but the port. After a power-up both keys read off (R180). -/
def Obligations.AuthorityFollowsTheKeys : Prop :=
  (∀ (s : State) (p : PortId), s.st.takes p → ∀ c k rest ps, requestOfInstr c = some (p, k, rest) →
    frameParams rest = some ps → k.form.fits ps = true → s.st.permits p k.cls = false →
    exec c s = .next (s.answered p rest k.code (.final .refusedAuthority []))) ∧
  (∀ (st : Station) (p : PortId),
    st.permits p .view = true ∧ st.permits p .ack = true ∧
    (st.permits .a .operate = true ↔ st.settled .modeRemote = false ∨ st.settled .maintKey = true) ∧
    (st.permits .b .operate = true ↔ st.settled .modeRemote = true ∨ st.settled .maintKey = true) ∧
    (st.permits p .configure = true ↔ st.settled .maintKey = true) ∧
    (st.permits .a .report = true ↔ st.settled .maintKey = true) ∧ st.permits .b .report = true) ∧
  ∀ st : Station, st.powerUp.settled .modeRemote = false ∧ st.powerUp.settled .maintKey = false

/-- The bytes of a period and the command they give determine each other: every command that a period gives is decoded from its own
bytes, every period decodes to a well-formed command, and one that carries a request keeps every byte (R176, R177, R189, Table
11-3). That a period is modelled by its bytes is assumption 30: DESIGN CHOICE. -/
def Obligations.PeriodsDecodeToTheirCommands : Prop :=
  (∀ (c : Instr) (p : PortId) (bytes : List Byte), c.wellFormed = true → encodePeriod c = some (p, bytes) →
    decodePeriod p bytes = c) ∧
  ∀ (p : PortId) (bytes : List Byte), (decodePeriod p bytes).wellFormed = true ∧
    (bytes.headD 0 ≠ 0 → encodePeriod (decodePeriod p bytes) = some (p, bytes))

/-- The sizes that R190 and Tables 11-8 to 11-11 give: the contact section 175 bytes, a READ ALARMS reply of sixteen points 245, the
DAILY and OVERFLOW_CLOSE bodies 83 and 27, a pump's settings 12, a trace entry 13 or 17. -/
def Obligations.RepliesHaveTheirSizes : Prop :=
  (∀ st : Station, st.contactSection.length = 175) ∧
  (∀ (st : Station) (p : PortId), (st.readAlarms p 1 16).data.length = 245 ∧ (st.readAlarms p 17 16).data.length = 245) ∧
  (∀ d : DailyRec, d.bytes.length = 83) ∧ (∀ e : EventRec, e.bytes.length = 27) ∧
  (∀ c : PumpSettings, (encode PumpSettings.widths c.values).length = 12) ∧
  (∀ (i : Nat) (e : Option TraceEntry), (traceBytes false i e).length = 13 ∧ (traceBytes true i e).length = 17) ∧
  ∀ r : Report, r.bytes.length = 9 + r.body.bytes.length

/-! ### VIEW requests -/

/-- READ STATUS carries the one section that its code names, READ SETTINGS the one group, and a code above 3 is answered
REFUSED_RANGE; nothing but the port changes (R181). The count byte before the rotation list and
the values 1 and 0 of an indication byte are assumption 17, and so is what R190 leaves open of the sections' bytes; of the start-control
section the order of the shed list is assumption 47, and its condition GEN_RUNNING assumption 46: each DESIGN CHOICE. -/
def Obligations.StatusAndSettingsReads : Prop :=
  ∀ (s : State) (p : PortId) (rest : List Byte) (c : Byte), s.st.admits p .view (.fixed 1) rest [c] →
    let u := s.st.rise p (1 + rest.length)
    exec (.readStatus p rest) s = .next (s.answered p rest 0x01 (match c.toNat with
      | 0 => .done u.contactSection
      | 1 => .done u.dutySection
      | 2 => .done u.startSection
      | 3 => .done u.clockSection
      | _ => .range)) ∧
    exec (.readSettings p rest) s = .next (s.answered p rest 0x0D (match c.toNat with
      | 0 => .done (encode Constants.widths s.st.consts.values)
      | 1 => .done (encode Setpoints.widths s.st.dty.setpoints.values)
      | 2 => .done (byte s.st.dty.rotation.length ++ s.st.dty.rotation.flatMap (fun n => byte (n.val + 1)) ++
          byte s.st.dty.mode.code)
      | 3 => .done (flagByte s.st.sst.inFlight.isSome ++ flagByte s.st.sst.followUp ++ byte s.st.sst.outcome.code ++
          be 2 s.st.sst.writes ++ flagByte s.st.sst.fellBack)
      | _ => .range))

/-- READ CHANNELS, READ WELL, READ ARITH, READ RAKE and READ OVERFLOW answer DONE with the data their owners form, and change nothing
but the port (R7, R25, R14, R131, R145); READ ARITH's data are the mode, the five flags, the five masks and the notice of R12. READ
ALARMS answers DONE with the points asked for and the summary, and REFUSED_RANGE when the first point or the count is out of range
or their sum exceeds 33 (R162). What R190 leaves open of these layouts is assumption 17, READ WELL before the first update
assumption 31, that READ ALARMS shows the attention sources after the rise has set the read indication assumption 43, the condition
SKIP_FULL of READ RAKE assumption 46, and that the first point of READ ALARMS stands before its count assumption 39: each DESIGN
CHOICE. -/
def Obligations.BlockReadsChangeNothing : Prop :=
  (∀ (s : State) (p : PortId) (rest ps : List Byte), s.st.admits p .view (.fixed 0) rest ps →
    exec (.readChannels p rest) s = .next (s.answered p rest 0x02 (.done (
      s.st.lve.wellA.bytes ++ s.st.lve.wellB.bytes ++ s.st.lve.inlet.bytes ++ s.st.lve.weir.bytes))) ∧
    exec (.readWell p rest) s = .next (s.answered p rest 0x03 (.done (
      (match s.st.lve.published with
        | some u => u.bytes
        | none => s.st.unpublished.bytes) ++
      byte s.st.lve.disagreeRun ++ byte s.st.lve.ring.length ++ flagByte s.st.lve.highLevel ++
      flagByte s.st.lve.lowLevel ++ flagByte s.st.lve.published.isSome))) ∧
    exec (.readArith p rest) s = .next (s.answered p rest 0x0C (.done (
      byte s.st.lve.arith.mode.code ++
      s.st.lve.arith.flags.toList.flatMap flagByte ++ s.st.lve.arith.masks.toList.flatMap flagByte ++
      flagByte ((s.st.lve.arith.flags.scaleClamp && !s.st.lve.arith.masks.scaleClamp) ||
        (s.st.lve.arith.flags.inflowNeg && !s.st.lve.arith.masks.inflowNeg))))) ∧
    exec (.readRake p rest) s = .next (s.answered p rest 0x05 s.st.readRake) ∧
    exec (.readOverflow p rest) s = .next (s.answered p rest 0x06 s.st.readOverflow) ∧
    s.st.readRake.status = .done ∧ s.st.readOverflow.status = .done) ∧
  ∀ (s : State) (p : PortId) (rest : List Byte) (c d : Byte), s.st.admits p .view (.fixed 2) rest [c, d] →
    let u := s.st.rise p (1 + rest.length)
    (c.toNat < 1 ∨ 32 < c.toNat ∨ d.toNat < 1 ∨ 16 < d.toNat ∨ 33 < c.toNat + d.toNat →
      exec (.readAlarms p rest) s = .next (s.answered p rest 0x07 .range)) ∧
    (1 ≤ c.toNat → c.toNat ≤ 32 → 1 ≤ d.toNat → d.toNat ≤ 16 → c.toNat + d.toNat ≤ 33 →
      exec (.readAlarms p rest) s = .next (s.answered p rest 0x07 (.done (
        ((allPoints.drop (c.toNat - 1)).take d.toNat).flatMap (u.pointBytes p) ++ u.alarmSummary p))))

/-- READ PUMP prunes the start history of its pump, judges START_LIMITED and answers DONE with the record as it then stands; a number
outside 1 to 6 is answered REFUSED_RANGE and changes nothing (R57, R93, R110). That the prune of this VIEW request has START_LIMITED judged,
so that it can move an alarm point, is assumption 37: DEDUCED. What R190 leaves open of the record's bytes is assumption 17, and that
min_run elapsed reads no outside RUNNING assumption 45: each DESIGN CHOICE. -/
def Obligations.ReadPumpPrunesAndReplies : Prop :=
  ∀ (s : State) (p : PortId) (rest : List Byte) (c : Byte), s.st.admits p .view (.fixed 1) rest [c] →
    ((c.toNat < 1 ∨ 6 < c.toNat) → exec (.readPump p rest) s = .next (s.answered p rest 0x04 .range)) ∧
    ∀ n : PumpNo, c.toNat = n.val + 1 →
      ∃ t, exec (.readPump p rest) s = .next t ∧ t.pending = s.pending ∧
        (t.st.port p).slot = ⟨.done, 0x04, t.st.pumpBytes n⟩ ∧
        t.st.pumps = s.st.pumps.set n { s.st.pumps[n] with
          history := s.st.pumps[n].history.dropWhile fun g => decide (g + 36000 < s.st.uptime) } ∧
        t.st.alt.points[Alarm.startLimited].condition = t.st.startLimitedCondition ∧
        t.st.stc = s.st.stc ∧ t.st.dty = s.st.dty ∧ t.st.rkc = s.st.rkc ∧ t.st.lve = s.st.lve ∧ t.st.crv = s.st.crv ∧
        t.st.ofm = s.st.ofm ∧ t.st.trb = s.st.trb ∧ t.st.consts = s.st.consts ∧ t.st.sst = s.st.sst ∧
        t.st.clock = s.st.clock

/-- READ CURVE reads from the start slot, up or down, as many slots as the count asks or as lie before the edge; the end mark is EXHAUSTED
exactly when the count ran out (R36). Its operands are judged by R35, in SHORT form y is limited to 65,535 and the clipped indication says
so (R37), and it is taken whatever the pending-commit mark. That its six parameters stand in the order of R35 is assumption 39, and the 2
bytes of the y of a SHORT point and the values of the pending and the clipped indication assumption 17: each DESIGN CHOICE. -/
def Obligations.ReadCurveWalksTheSlots : Prop :=
  (∀ (down : Bool) (i k : Nat), i ≤ 15 → 1 ≤ k →
    let room := if down then i + 1 else 16 - i
    readSlots down i k =
      ((List.range (min k room)).map (fun j => if down then i - j else i + j), decide (k ≤ room))) ∧
  ∀ (s : State) (p : PortId) (rest : List Byte) (cv cp st k dir form : Byte),
    s.st.admits p .view (.fixed 6) rest [cv, cp, st, k, dir, form] →
    (1 < cv.toNat ∨ 1 < cp.toNat ∨ 15 < st.toNat ∨ k.toNat < 1 ∨ 16 < k.toNat ∨ 1 < dir.toNat ∨ 1 < form.toNat →
      exec (.readCurve p rest) s = .next (s.answered p rest 0x08 .range)) ∧
    ∀ id : CurveId, cv.toNat = id.code → cp.toNat ≤ 1 → st.toNat ≤ 15 → 1 ≤ k.toNat → k.toNat ≤ 16 → dir.toNat ≤ 1 →
      form.toNat ≤ 1 →
      let c := s.st.crv.curve id
      let copy := if cp.toNat = 0 then c.active else c.shadow
      let read := readSlots (dir.toNat == 1) st.toNat k.toNat
      let y := fun i => (copy.slots.toList.getD i ⟨0, 0⟩).y
      exec (.readCurve p rest) s = .next (s.answered p rest 0x08 (.done (
        [cv, cp] ++ byte copy.n ++ flagByte c.mark.isSome ++ [form] ++
        read.1.flatMap (fun i => byte i ++ be 2 (copy.slots.toList.getD i ⟨0, 0⟩).x ++
          (if form.toNat = 1 then be 3 (y i) else be 2 (min 65535 (y i)))) ++
        byte read.1.length ++ byte (if read.2 then 0 else 1) ++
        (if form.toNat = 1 then [] else flagByte (read.1.any fun i => decide (65535 < y i))))))

/-- PEEK REPORT carries the record at its index, header and body, with the record count and the oldest record's sequence number;
an index at or above the count is answered REFUSED_RANGE with the count. The queue is unchanged, and the reply stands in the slot as
formed (R172). -/
def Obligations.PeekReportReadsARecord : Prop :=
  ∀ (s : State) (p : PortId) (rest : List Byte) (c : Byte), s.st.admits p .view (.fixed 1) rest [c] →
    (s.st.rpq.queue.length ≤ c.toNat →
      exec (.peekReport p rest) s =
        .next (s.answered p rest 0x0B (.final .refusedRange (byte s.st.rpq.queue.length)))) ∧
    (∀ r, s.st.rpq.queue[c.toNat]? = some r → ∀ o, s.st.rpq.queue.head? = some o →
      exec (.peekReport p rest) s =
        .next (s.answered p rest 0x0B (.done (r.bytes ++ byte s.st.rpq.queue.length ++ be 2 o.seq)))) ∧
    ∀ reply, (s.answered p rest 0x0B reply).st.rpq = s.st.rpq ∧
      ((s.answered p rest 0x0B reply).st.port p).slot = ⟨reply.status, 0x0B, reply.data⟩

/-- SET TRACE WINDOW sets the window of the port that presented it, and no other, to s and e with the next pointer at s; with s above
e it is answered REFUSED_RANGE and the window is unchanged. The window so set has s ≤ next ≤ e, each from 0 to 255 (R150). That s
stands before e is assumption 39: DESIGN CHOICE. -/
def Obligations.SetTraceWindowMovesOneWindow : Prop :=
  ∀ (s : State) (p : PortId) (rest : List Byte) (c d : Byte), s.st.admits p .view (.fixed 2) rest [c, d] →
    (d.toNat < c.toNat → exec (.setTraceWindow p rest) s = .next (s.answered p rest 0x09 .range)) ∧
    (c.toNat ≤ d.toNat →
      exec (.setTraceWindow p rest) s = .next (s.replied p rest 0x09 (.done []) fun u =>
        u.setPort { u.port p with window := ⟨c.toNat, d.toNat, c.toNat⟩ } p) ∧
      (⟨c.toNat, d.toNat, c.toNat⟩ : Window).safe)

/-- READ TRACE returns n entries from the next pointer, each index below e followed by the next and e followed by s, and leaves the
pointer after them; a form or count out of range is answered REFUSED_RANGE and leaves it. Nothing but the port changes (R151). The two
bytes of the entry count, the values of the indications and the presence bits of a SHORT entry are assumption 17, and that the form stands
before the count assumption 39: DESIGN CHOICE. -/
def Obligations.ReadTraceWalksTheWindow : Prop :=
  (∀ (a e n i : Nat), a ≤ i → i ≤ e →
    (traceWalk a e n i).1 = (List.range n).map (fun j => a + (i - a + j) % (e + 1 - a)) ∧
    (traceWalk a e n i).2.1 = a + (i - a + n) % (e + 1 - a) ∧
    (traceWalk a e n i).2.2 = decide (e + 1 - i < n)) ∧
  ∀ (s : State) (p : PortId) (rest : List Byte) (form c : Byte), s.st.admits p .view (.fixed 2) rest [form, c] →
    (1 < form.toNat ∨ c.toNat < 1 ∨ (if form.toNat = 0 then 12 else 8) < c.toNat →
      exec (.readTrace p rest) s = .next (s.answered p rest 0x0A .range)) ∧
    (form.toNat ≤ 1 → 1 ≤ c.toNat → c.toNat ≤ (if form.toNat = 0 then 12 else 8) →
      let w := (s.st.port p).window
      let walk := traceWalk w.start w.stop c.toNat w.next
      exec (.readTrace p rest) s = .next (s.replied p rest 0x0A (.done (
        walk.1.flatMap (fun i => traceBytes (form.toNat == 1) i s.st.trb.entries[i]?) ++ byte s.st.trb.state.code ++
        be 2 s.st.trb.entries.length ++ flagByte (s.st.trb.state == .frozen) ++ flagByte walk.2.2 ++ byte walk.2.1))
        fun u => u.setPort { u.port p with window := { (u.port p).window with next := walk.2.1 } } p))

/-! ### Levels (Chapter 1) -/

/-- Rounding by Table 1-5: within half of the exact quotient in the nearest modes, a tie going away from zero or to the even integer;
TOWARD_ZERO drops the fraction; an integer quotient is left as it is in every mode (R10). -/
def Obligations.RoundingFollowsTheMode : Prop :=
  ∀ (num : Int) (den : Nat), 0 < den →
    roundDiv .towardZero num den = num.tdiv den ∧
    (2 * (roundDiv .nearestAway num den * den - num)).natAbs ≤ den ∧
    ((2 * (roundDiv .nearestAway num den * den - num)).natAbs = den →
      num.natAbs < (roundDiv .nearestAway num den * den).natAbs) ∧
    (2 * (roundDiv .nearestEven num den * den - num)).natAbs ≤ den ∧
    ((2 * (roundDiv .nearestEven num den * den - num)).natAbs = den → 2 ∣ roundDiv .nearestEven num den) ∧
    ∀ (mode : RoundMode) (q : Int), roundDiv mode (q * den) den = q

/-- A valid sample is scaled to offset × 16 + round((r_c − 800) × span ÷ 200) sixteenths of a millimetre, from 0 to 480,000 (R4).
One filter step is F plus the rounded weighted difference, formed with its sign; it leaves F between its old value and the sample in
every mode, and with shift 0 at the sample (R5). -/
def Obligations.SamplesAreScaledAndFiltered : Prop :=
  (∀ (c : ChanSettings) (mode : RoundMode) (r : Nat), c.checks.all id = true → 720 ≤ r → r ≤ 4080 →
    let rc := if r < 800 then 800 else if 4000 < r then 4000 else r
    (c.scale mode r : Int) = c.offset * 16 + roundDiv mode (((rc : Int) - 800) * c.span) 200 ∧ c.scale mode r ≤ 480000) ∧
  ∀ (mode : RoundMode) (k f v : Nat),
    (filterStep mode k f v : Int) = f + roundDiv mode ((v : Int) - f) (2 ^ k) ∧
    min f v ≤ filterStep mode k f v ∧ filterStep mode k f v ≤ max f v ∧ filterStep mode 0 f v = v

/-- A channel through a cycle: the sample classes of Table 1-3, the transitions of Table 1-4 with the filter run or held, and the
level formed of the filter state (R3, R5, R6). -/
def Obligations.ChannelCycleFollowsItsTables : Prop :=
  ∀ (c : Channel) (mode : RoundMode) (count : BitVec 12),
    let r := count.toNat
    let v := c.settings.scale mode r
    let ran := filterStep mode c.settings.shift c.filter v
    let d := c.cycle mode count
    d.settings = c.settings ∧ d.raw = count ∧ (d.level : Int) = roundDiv mode (d.filter : Int) 16 ∧
    d.sample = (if r < 720 then .under else if r < 800 then .clamped else if r ≤ 4000 then .good
      else if r ≤ 4080 then .clamped else .over) ∧
    (720 ≤ r ∧ r ≤ 4080 →
      (c.state = .ok → d.state = .ok ∧ d.filter = ran ∧ d.badRun = 0) ∧
      (c.state = .suspect → d.state = .ok ∧ d.filter = ran ∧ d.badRun = 0) ∧
      (c.state = .failed → d.state = .recovering ∧ d.goodRun = 1 ∧ d.filter = v) ∧
      (c.state = .recovering → d.filter = ran ∧
        (if 3 ≤ c.goodRun + 1 then d.state = .ok ∧ d.goodRun = 0
         else d.state = .recovering ∧ d.goodRun = c.goodRun + 1))) ∧
    (r < 720 ∨ 4080 < r → d.filter = c.filter ∧
      (c.state = .ok → d.state = .suspect ∧ d.badRun = 1) ∧
      (c.state = .suspect →
        (if 3 ≤ c.badRun + 1 then d.state = .failed ∧ d.badRun = 0 ∧ d.goodRun = 0
         else d.state = .suspect ∧ d.badRun = c.badRun + 1)) ∧
      (c.state = .failed → d.state = .failed) ∧
      (c.state = .recovering → d.state = .failed ∧ d.goodRun = 0))

/-- The well vote of Table 1-7: the rounded mean of two levels that agree, the higher of two that disagree, the one usable level, or
FLOAT with W absent (R15). HIGH_LEVEL and LOW_LEVEL follow W with a hysteresis of 50 mm (R26), and the floats while the source is
FLOAT (R27). -/
def Obligations.VoteAndLevelConditions : Prop :=
  (∀ (mode : RoundMode) (limit a b : Nat),
    (max a b - min a b ≤ limit →
      wellVote mode limit (some a) (some b) = ⟨some (roundDiv mode ((a : Int) + b) 2).toNat, .dual, false⟩ ∧
      min a b ≤ (roundDiv mode ((a : Int) + b) 2).toNat ∧ (roundDiv mode ((a : Int) + b) 2).toNat ≤ max a b) ∧
    (limit < max a b - min a b → wellVote mode limit (some a) (some b) = ⟨some (max a b), .dual, true⟩) ∧
    wellVote mode limit (some a) none = ⟨some a, .singleA, false⟩ ∧
    wellVote mode limit none (some b) = ⟨some b, .singleB, false⟩ ∧
    wellVote mode limit none none = ⟨none, .float, false⟩) ∧
  ∀ (st : Station) (w : Nat),
    let t := st.dty.setpoints
    let c := st.levelConditions (some w)
    (t.highAlarm ≤ w → c.1 = true) ∧ (w + 50 < t.highAlarm → c.1 = false) ∧
    (w < t.highAlarm → t.highAlarm ≤ w + 50 → c.1 = st.lve.highLevel) ∧
    (w ≤ t.lowAlarm → c.2 = true) ∧ (t.lowAlarm + 50 < w → c.2 = false) ∧
    (t.lowAlarm < w → w ≤ t.lowAlarm + 50 → c.2 = st.lve.lowLevel) ∧
    st.levelConditions none = (st.settled .floatHigh, !st.settled .floatLow)

/-- Q_in is formed only with V present now and in each of the newest N ring records; it is then the sum of the two separately rounded
terms, held to 0 to 65,535 with the flag of the end it was held at (R21, R22). -/
def Obligations.InflowIsFormedOverTheWindow : Prop :=
  ∀ (mode : RoundMode) (n v q : Nat) (ring : List CycleRec), 2 ≤ n →
    inflowSum mode n none q ring = none ∧
    (ring.length < n → inflowSum mode n (some v) q ring = none) ∧
    (n ≤ ring.length → (∃ r ∈ ring.drop (ring.length - n), r.v = none) → inflowSum mode n (some v) q ring = none) ∧
    (∀ past : List (Nat × Nat), past.length = n → ring.drop (ring.length - n) = past.map (fun x => ⟨some x.1, x.2⟩) →
      ∃ s, inflowSum mode n (some v) q ring = some s ∧
        s = roundDiv mode ((v : Int) - ((past.headD (0, 0)).1 : Nat)) n +
            roundDiv mode (((q + ((past.drop 1).map (·.2)).sum : Nat)) : Int) n ∧
        (inflowValue s : Int) = max 0 (min 65535 s) ∧
        (inflowFlags s).inflowNeg = decide (s < 0) ∧ (inflowFlags s).saturated = decide (65535 < s))

/-- MEASUREMENT_CYCLE at its moment applies each pending commit first: the shadow becomes the active copy, the mark is cleared, and the
port that it named has its reply DONE with the curve code, the count and the cycle's uptime, if its slot still holds that PENDING reply
(R40, R178). It then publishes the level update: W and the source voted from the four channels as the cycle leaves them, V and Q_weir read
from the active curves (R18, R19), Q_in over the inflow ring, which is emptied at a VOLUME swap and at a move into or out of FLOAT (R17,
R21, R23), and takes the cycle's record (R20). The sticky flags of the cycle are set (R9, R11), the disagreement run is kept, every
condition of the LVE is judged (R12, R16, R26, R27), and the next cycle is due 1.0 s on (R1, R24). The five readers then take the update
in the order given, each by its own reaction: the DTY's evaluation (R67), the RKC's (R118), the OFM's (R136), the TRB's (R147), the RPQ's
(R168); of the LVE they move SATURATED alone. A WEIR swap marks an open event CURVE_CHANGED first (R42). Three clauses are the model's,
each DEDUCED: for the emptying of the ring the source before the first update counts as FLOAT (assumption 27), the next cycle is due 10
ticks after the one taken (assumption 36), and the port holds which request its PENDING reply belongs to (assumption 28). The
uptime in that reply is held at its 32-bit top (assumption 4: DESIGN CHOICE). -/
def Obligations.CycleCommitsAndPublishes : Prop :=
  (∀ (x : Station) (l : LevelUpdate),
    let m := x.rpq.summary
    x.react l .duty = x.evaluate l ∧ x.react l .rake = x.rakeUpdate l ∧ x.react l .overflow = x.overflowUpdate l ∧
    x.react l .trace = x.traceUpdate l ∧
    ∃ m' : Summary, x.react l .reports = { x with rpq := { x.rpq with summary := m' } } ∧
      m' = { m with maxW := m'.maxW, minW := m'.minW, peakQin := m'.peakQin, floatSeconds := m'.floatSeconds } ∧
      (l.w = none → m'.maxW = m.maxW ∧ m'.minW = m.minW) ∧
      (∀ w, l.w = some w → m'.maxW = some (max (m.maxW.getD w) w) ∧ m'.minW = some (min (m.minW.getD w) w)) ∧
      (l.qIn = none → m'.peakQin = m.peakQin) ∧ (∀ q, l.qIn = some q → m'.peakQin = some (max (m.peakQin.getD q) q)) ∧
      m'.floatSeconds = (if l.source = .float then min 4294967295 (m.floatSeconds + 1) else m.floatSeconds)) ∧
  ∀ (s : State) (a b i w : BitVec 12) (order : List Reader) (u : Station), orderOk order = true →
    s.st.comesDue (some s.st.lve.nextCycle) u →
    let e := s.st.lve
    let m := e.arith.mode
    let chA := e.wellA.cycle m a
    let chB := e.wellB.cycle m b
    let chInlet := e.inlet.cycle m i
    let chWeir := e.weir.cycle m w
    let vote := wellVote m s.st.consts.disagree chA.offered chB.offered
    let active := fun id : CurveId => if (s.st.crv.curve id).mark = none then (s.st.crv.curve id).active
      else (s.st.crv.curve id).shadow
    let volume := vote.w.map ((active .volume).interp m)
    let flow := chWeir.offered.map ((active .weir).interp m)
    let floatBefore := e.published = none ∨ ∃ k, e.published = some k ∧ k.source = .float
    let past := if s.st.crv.volume.mark ≠ none ∨ ¬(floatBefore ↔ vote.source = .float) then [] else e.ring
    let running := allPumps.filter fun n => s.st.pumps[n].settings.installed && s.st.settled (.runFb n)
    let qOut := (running.map fun n => s.st.pumps[n].settings.ratedFlow).sum
    let inflow := inflowSum m s.st.consts.inflowWindow (volume.map (·.value)) qOut past
    let levels := s.st.levelConditions vote.w
    let l : LevelUpdate := ⟨u.uptime, s.st.rpq.stationTime, vote.w, vote.source, volume.map (·.value),
      inflow.map inflowValue, chInlet.offered, chWeir.state, chWeir.offered, flow.map (·.value)⟩
    let flagged : FlagSet := e.arith.flags.or {
      scaleClamp := [chA, chB, chInlet, chWeir].any fun c => c.sample == .clamped
      curveLow := volume.any (·.low) || flow.any (·.low)
      curveHigh := volume.any (·.high) || flow.any (·.high)
      inflowNeg := inflow.any fun z => decide (z < 0)
      saturated := inflow.any fun z => decide (65535 < z) }
    ∃ t, exec (.measurementCycle a b i w order) s = .next t ∧ t.pending = s.pending ∧ t.st.clock = u.clock ∧
      (∃ x : Station, x.dty = s.st.dty ∧ x.pumps = s.st.pumps ∧ x.stc = s.st.stc ∧
        x.rkc = s.st.rkc ∧ x.trb = s.st.trb ∧ x.consts = s.st.consts ∧ x.ctu.pumpRun = s.st.ctu.pumpRun ∧
        x.ctu.drive = s.st.ctu.drive ∧ x.rpq.summary = s.st.rpq.summary ∧ x.clock = u.clock ∧
        x.lve = { wellA := chA, wellB := chB, inlet := chInlet, weir := chWeir, arith := { e.arith with flags := flagged }
                  disagreeRun := if vote.disagreeing then min 30 (e.disagreeRun + 1) else 0
                  ring := past.drop (if past.length < 16 then 0 else 1) ++ [⟨volume.map (·.value), qOut⟩]
                  published := some l, highLevel := levels.1, lowLevel := levels.2, nextCycle := u.uptime + 10
                  fresh := false } ∧
        (s.st.crv.weir.mark = none ∨ s.st.ofm.event = none ∨ s.st.ofm.state = .quiet ∨ s.st.ofm.state = .onset →
          x.ofm = s.st.ofm) ∧
        (s.st.crv.weir.mark ≠ none → ∀ e, s.st.ofm.event = some e → s.st.ofm.state = .spilling ∨ s.st.ofm.state = .easing →
          x.ofm = { s.st.ofm with event := some { e with flags := { e.flags with curveChanged := true } } }) ∧
        t.st = order.foldl (Station.react l) x ∧
        ∃ top, t.st.lve = { x.lve with arith := { x.lve.arith with flags := { flagged with saturated := top } } } ∧
          (flagged.saturated = true → top = true)) ∧
      (let on := fun k : PointNo => t.st.alt.points[k].condition
       on Alarm.highLevel = levels.1 ∧ on Alarm.lowLevel = levels.2 ∧
       on Alarm.levelDisagree = (t.st.lve.disagreeRun == 30) ∧
       on Alarm.wellAFailed = !chA.state.usable ∧ on Alarm.wellBFailed = !chB.state.usable ∧
       on Alarm.inletFailed = !chInlet.state.usable ∧ on Alarm.weirFailed = !chWeir.state.usable ∧
       on Alarm.sourceFloat = (vote.source == .float) ∧ on Alarm.curveRange = t.st.lve.arith.curveRange ∧
       on Alarm.arithSaturated = t.st.lve.arith.arithSaturated ∧
       on Alarm.floatHigh = if e.fresh then s.st.settled .floatHigh else s.st.alt.points[Alarm.floatHigh].condition) ∧
      t.st.consts = s.st.consts ∧ t.st.sst.image.items = s.st.sst.image.items ∧
      (∀ j, t.st.ctu.input j = s.st.ctu.input j) ∧
      ∀ id : CurveId,
        ((s.st.crv.curve id).mark = none → t.st.crv.curve id = s.st.crv.curve id) ∧
        ∀ p, (s.st.crv.curve id).mark = some p →
          t.st.crv.curve id =
            { active := (s.st.crv.curve id).shadow, shadow := (s.st.crv.curve id).shadow, mark := none } ∧
          ((s.st.port p).slot.status = .pending → (s.st.port p).awaits = some (.commit id) →
            (t.st.port p).slot = ⟨.done, (s.st.port p).slot.code,
              byte id.code ++ byte (s.st.crv.curve id).shadow.n ++ be 4 (shownUptime u.uptime)⟩ ∧
            (t.st.port p).awaits = none ∧ (t.st.port p).readInd = false)

/-- WRITE CHANNEL replaces the three settings of the channel named and nothing else of it; a code or a value out of range is answered
REFUSED_RANGE and changes no setting (R2). SET ARITH CONTROL clears the flags that it names, loads the mode and the masks and has
both conditions judged at once; a mode outside Table 1-5 is answered REFUSED_RANGE and changes nothing (R13). The order of the former's
bytes is assumption 39 and the latter's layout assumption 18: DESIGN CHOICE. -/
def Obligations.LevelEngineRequests : Prop :=
  (∀ (s : State) (p : PortId) (rest ps : List Byte), s.st.admits p .configure (.fixed 6) rest ps →
    let code := ofBe (ps.take 1)
    let c : ChanSettings := ⟨ofBe ((ps.drop 1).take 2), ofBe ((ps.drop 3).take 2), ofBe ((ps.drop 5).take 1)⟩
    let ok := 100 ≤ c.span ∧ c.span ≤ 20000 ∧ c.offset ≤ 10000 ∧ c.shift ≤ 5
    (3 < code ∨ ¬ok → exec (.writeChannel p rest) s = .next (s.answered p rest 0x60 .range)) ∧
    (ok → ∀ name, ChanName.ofCode code = some name →
      exec (.writeChannel p rest) s = .next (s.replied p rest 0x60 (.done []) fun u =>
        { u with lve := u.lve.setChannel { u.lve.channel name with settings := c } name }))) ∧
  ∀ (s : State) (p : PortId) (rest ps : List Byte), s.st.admits p .configure (.fixed 11) rest ps →
    let v := ps.map BitVec.toNat
    let masks := FlagSet.ofBytes (v.drop 1)
    let clear := FlagSet.ofBytes (v.drop 6)
    (2 < nth v 0 → exec (.setArithControl p rest) s = .next (s.answered p rest 0x68 .range)) ∧
    ∀ mode, RoundMode.ofCode (nth v 0) = some mode →
      ∃ t, exec (.setArithControl p rest) s = .next t ∧ t.pending = s.pending ∧ (t.st.port p).slot = ⟨.done, 0x68, []⟩ ∧
        t.st.lve = { s.st.lve with arith := ⟨mode, s.st.lve.arith.flags.without clear, masks⟩ } ∧
        t.st.alt.points[Alarm.curveRange].condition = t.st.lve.arith.curveRange ∧
        t.st.alt.points[Alarm.arithSaturated].condition = t.st.lve.arith.arithSaturated ∧
        t.st.pumps = s.st.pumps ∧ t.st.dty = s.st.dty ∧ t.st.stc = s.st.stc ∧ t.st.rkc = s.st.rkc ∧ t.st.crv = s.st.crv ∧
        t.st.ofm = s.st.ofm ∧ t.st.trb = s.st.trb ∧ t.st.consts = s.st.consts ∧ t.st.sst = s.st.sst ∧
        t.st.clock = s.st.clock

/-! ### Curves (Chapter 2) -/

/-- A copy is valid exactly when its count lies from 2 to 16 and every point passes the tests of Table 2-2. A fault names the first slot
whose point fails and the first of the tests 2 to 5 that fails there, or COUNT and 255 (R29). -/
def Obligations.CurveJudgementFollowsItsTests : Prop :=
  ∀ (id : CurveId) (c : CurveCopy),
    let pt := fun i => c.slots.toList.getD i ⟨0, 0⟩
    let passes := fun i => (pt i).x ≤ 30000 ∧ (pt i).y ≤ id.yTop ∧
      (i ≠ 0 → (pt (i - 1)).x < (pt i).x ∧ (pt (i - 1)).y ≤ (pt i).y)
    (c.valid id = true ↔ 2 ≤ c.n ∧ c.n ≤ 16 ∧ ∀ i, i < c.n → passes i) ∧
    (c.fault id = some (.count, 255) ↔ c.n < 2 ∨ 16 < c.n) ∧
    [CurveFault.count, .xRange, .yRange, .xOrder, .yOrder].map CurveFault.code = [0, 1, 2, 3, 4] ∧
    ∀ f i, 2 ≤ c.n → c.n ≤ 16 → c.fault id = some (f, i) →
      i < c.n ∧ ¬passes i ∧ (∀ j, j < i → passes j) ∧
      match f with
      | .count => False
      | .xRange => 30000 < (pt i).x
      | .yRange => (pt i).x ≤ 30000 ∧ id.yTop < (pt i).y
      | .xOrder => (pt i).x ≤ 30000 ∧ (pt i).y ≤ id.yTop ∧ i ≠ 0 ∧ (pt i).x ≤ (pt (i - 1)).x
      | .yOrder => (pt i).x ≤ 30000 ∧ (pt i).y ≤ id.yTop ∧ i ≠ 0 ∧ (pt (i - 1)).x < (pt i).x ∧ (pt i).y < (pt (i - 1)).y

/-- An interpolation of a valid copy gives the end value with its flag outside the curve, the end value at an end point, and inside
the segment value, which lies between the two points that bound it, in every mode (R30, R31). -/
def Obligations.InterpolationStaysInItsSegment : Prop :=
  ∀ (id : CurveId) (c : CurveCopy) (mode : RoundMode) (x : Nat), c.valid id = true →
    let pt := fun i => c.slots.toList.getD i ⟨0, 0⟩
    let r := c.interp mode x
    (x < (pt 0).x → r = ⟨(pt 0).y, true, false⟩) ∧
    (x = (pt (c.n - 1)).x → r = ⟨(pt (c.n - 1)).y, false, false⟩) ∧
    ((pt (c.n - 1)).x < x → r = ⟨(pt (c.n - 1)).y, false, true⟩) ∧
    ∀ i, i + 1 < c.n → (pt i).x ≤ x → x < (pt (i + 1)).x →
      r.low = false ∧ r.high = false ∧ (pt i).y ≤ r.value ∧ r.value ≤ (pt (i + 1)).y ∧ (x = (pt i).x → r.value = (pt i).y) ∧
      (r.value : Int) = (pt i).y +
        roundDiv mode ((((pt (i + 1)).y : Int) - (pt i).y) * ((x : Int) - (pt i).x)) ((pt (i + 1)).x - (pt i).x)

/-- COPY CURVE replaces the shadow of the curve it names with its active copy, the count and all sixteen slots, and is answered DONE
with the curve code and the copied count (R32). SET CURVE COUNT sets the shadow's count and leaves its sixteen slots, and is answered
DONE with the curve code and the count; a count above 16 is answered REFUSED_RANGE and changes nothing; a count of 0 or 1 fails the
count test at commit (R34). The curve is not pending: the statement of COMMIT CURVE has the other case. A code that names no curve is
answered REFUSED_RANGE, as a count out of range is, whatever is pending (R39). That the code stands before the count is assumption 39:
DESIGN CHOICE. -/
def Obligations.CopyAndCountOfAShadow : Prop :=
  (∀ (s : State) (p : PortId) (rest : List Byte) (c : Byte) (id : CurveId), s.st.admits p .configure (.fixed 1) rest [c] →
    (1 < c.toNat → exec (.copyCurve p rest) s = .next (s.answered p rest 0x64 .range)) ∧
    (c.toNat = id.code → (s.st.crv.curve id).mark = none →
      exec (.copyCurve p rest) s = .next (s.replied p rest 0x64 (.done ([c] ++ byte (s.st.crv.curve id).active.n)) fun u =>
        u.setCurve id { u.crv.curve id with shadow := (u.crv.curve id).active }))) ∧
  ∀ (s : State) (p : PortId) (rest : List Byte) (c n : Byte) (id : CurveId),
    s.st.admits p .configure (.fixed 2) rest [c, n] →
    (1 < c.toNat ∨ 16 < n.toNat → exec (.setCurveCount p rest) s = .next (s.answered p rest 0x66 .range)) ∧
    (c.toNat = id.code → (s.st.crv.curve id).mark = none → n.toNat ≤ 16 →
      exec (.setCurveCount p rest) s = .next (s.replied p rest 0x66 (.done [c, n]) fun u =>
        u.setCurve id { u.crv.curve id with shadow := { (u.crv.curve id).shadow with n := n.toNat } })) ∧
    (n.toNat < 2 → ({ (s.st.crv.curve id).shadow with n := n.toNat } : CurveCopy).fault id = some (.count, 255))

/-- WRITE CURVE POINTS writes the carried points into consecutive slots of the shadow from slot s and leaves the other slots and the
count, answered DONE with the curve code and s + k, while the curve is not pending; a code that names no curve, s above 15, k outside 1
to 16 or s + k above 16 is answered REFUSED_RANGE and writes nothing, whatever is pending (R33, R39). The places of the code, s, k, x
and y in the parameters are assumption 39: DESIGN CHOICE. -/
def Obligations.WriteCurvePointsFillsSlots : Prop :=
  ∀ (s : State) (p : PortId) (rest more : List Byte) (c a k : Byte) (id : CurveId),
    s.st.admits p .configure (.counted 2 5) rest (c :: a :: k :: more) →
    (1 < c.toNat ∨ 15 < a.toNat ∨ k.toNat < 1 ∨ 16 < k.toNat ∨ 16 < a.toNat + k.toNat →
      exec (.writeCurvePoints p rest) s = .next (s.answered p rest 0x65 .range)) ∧
    (c.toNat = id.code → (s.st.crv.curve id).mark = none → a.toNat ≤ 15 → 1 ≤ k.toNat → k.toNat ≤ 16 → a.toNat + k.toNat ≤ 16 →
      ∃ slots : Vector Point 16,
        (∀ j, (slots.toList.getD j ⟨0, 0⟩) = if a.toNat ≤ j ∧ j < a.toNat + k.toNat then
            ⟨ofBe ((more.drop (5 * (j - a.toNat))).take 2), ofBe ((more.drop (5 * (j - a.toNat) + 2)).take 3)⟩
          else (s.st.crv.curve id).shadow.slots.toList.getD j ⟨0, 0⟩) ∧
        exec (.writeCurvePoints p rest) s =
          .next (s.replied p rest 0x65 (.done ([c] ++ byte (a.toNat + k.toNat))) fun u =>
            u.setCurve id { u.crv.curve id with shadow := { (u.crv.curve id).shadow with slots := slots } }))

/-- COMMIT CURVE with a valid shadow sets the mark to the presenting port and is answered PENDING with the curve code; with an invalid
one it is answered REFUSED_RANGE with the code, the fault kind and its position, and nothing changes (R38). While a curve is pending,
the four requests that name it are answered REFUSED_BUSY and change nothing when their operands are in range, and REFUSED_RANGE when
one is not: the range tests come first (R39). The order of the parameters of SET CURVE COUNT and WRITE CURVE POINTS is assumption 39:
DESIGN CHOICE. -/
def Obligations.CommitCurveJudgesTheShadow : Prop :=
  (∀ (s : State) (p : PortId) (rest : List Byte) (c : Byte), s.st.admits p .configure (.fixed 1) rest [c] →
    (1 < c.toNat → exec (.commitCurve p rest) s = .next (s.answered p rest 0x67 .range) ∧
      exec (.copyCurve p rest) s = .next (s.answered p rest 0x64 .range)) ∧
    ∀ id : CurveId, c.toNat = id.code →
      ((s.st.crv.curve id).mark ≠ none →
        exec (.commitCurve p rest) s = .next (s.answered p rest 0x67 (.final .refusedBusy [])) ∧
        exec (.copyCurve p rest) s = .next (s.answered p rest 0x64 (.final .refusedBusy []))) ∧
      ((s.st.crv.curve id).mark = none →
        (∀ f i, (s.st.crv.curve id).shadow.fault id = some (f, i) →
          exec (.commitCurve p rest) s =
            .next (s.answered p rest 0x67 (.final .refusedRange ([c] ++ byte f.code ++ byte i)))) ∧
        ((s.st.crv.curve id).shadow.valid id = true →
          exec (.commitCurve p rest) s = .next (s.replied p rest 0x67 ⟨.pending, [c], some (.commit id)⟩ fun u =>
            u.setCurve id { u.crv.curve id with mark := some p })))) ∧
  (∀ (s : State) (p : PortId) (rest : List Byte) (c n : Byte) (id : CurveId),
    s.st.admits p .configure (.fixed 2) rest [c, n] → c.toNat = id.code → (s.st.crv.curve id).mark ≠ none →
    exec (.setCurveCount p rest) s =
      .next (s.answered p rest 0x66 (if n.toNat ≤ 16 then .final .refusedBusy [] else .range))) ∧
  ∀ (s : State) (p : PortId) (rest more : List Byte) (c a k : Byte) (id : CurveId),
    s.st.admits p .configure (.counted 2 5) rest (c :: a :: k :: more) → c.toNat = id.code → (s.st.crv.curve id).mark ≠ none →
    exec (.writeCurvePoints p rest) s = .next (s.answered p rest 0x65
      (if a.toNat ≤ 15 ∧ 1 ≤ k.toNat ∧ a.toNat + k.toNat ≤ 16 then .final .refusedBusy [] else .range))

/-! ### Contacts (Chapter 3) -/

/-- RAW_LEVEL_CHANGE moves the candidate alone: a settled input begins one while its raw level differs from the settled level and
drops it at the return, an unsettled input begins afresh at each change (R46, R48). DEBOUNCE_EXPIRY takes the raw level as the
settled level and stamps the uptime; FIRST_SETTLING settles without a stamp. Other inputs, and the blocks that no contact reaches,
stay; the keys reach no block (R45, R49). While the published source is FLOAT a change or the settling notice of the floats has the
LVE and the DTY judge them anew; in another source FLOAT_HIGH alone is reported (R27, R67). That FLOAT_HIGH alone is reported before the
first level update too, when there is no published source, is assumption 27: DEDUCED. -/
def Obligations.ContactsAreDebounced : Prop :=
  (∀ (s : State) (i : Input) (swapped : Bool) (u : Station), i = .floatHigh ∨ i = .floatLow →
    let onFloat := ∃ l, s.st.lve.published = some l ∧ l.source = .float ∧ l.w = none
    (s.st.changeComesDue i u →
      let v := u.withChange i
      (s.st.lve.onFloat = false → exec (.debounceExpiry i swapped) s = .next { s with
        st := if i = .floatHigh then v.report Alarm.floatHigh (v.settled .floatHigh) else v }) ∧
      (onFloat → ∃ t, exec (.debounceExpiry i swapped) s = .next t ∧ t.pending = s.pending ∧ FloatsJudged v t.st ∧
        (i = .floatHigh → t.st.alt.points[Alarm.floatHigh].condition = v.settled .floatHigh))) ∧
    (s.st.settlingComesDue i u →
      let v := u.withSettling i
      (v.floatsSettled = false → exec (.firstSettling i swapped) s = .next { s with st := v }) ∧
      (v.floatsSettled = true → s.st.lve.onFloat = false → exec (.firstSettling i swapped) s = .next { s with
        st := v.report Alarm.floatHigh (v.settled .floatHigh) }) ∧
      (v.floatsSettled = true → onFloat → ∃ t, exec (.firstSettling i swapped) s = .next t ∧ t.pending = s.pending ∧
        FloatsJudged v t.st ∧ t.st.alt.points[Alarm.floatHigh].condition = v.settled .floatHigh))) ∧
  (∀ (s : State) (i : Input) (level : Bool), s.st.held = false →
    let r := s.st.ctu.input i
    let began : Candidate := ⟨s.st.clock, s.st.consts.debounce i⟩
    (level = r.raw → exec (.rawLevelChange i level) s = .next s) ∧
    (level ≠ r.raw → r.hasSettled = true → level ≠ r.settled →
      exec (.rawLevelChange i level) s =
        .next { s with st := s.st.setInput i { r with raw := level, candidate := some began } }) ∧
    (level ≠ r.raw → r.hasSettled = true → level = r.settled →
      exec (.rawLevelChange i level) s = .next { s with st := s.st.setInput i { r with raw := level, candidate := none } }) ∧
    (level ≠ r.raw → r.hasSettled = false →
      exec (.rawLevelChange i level) s =
        .next { s with st := s.st.setInput i { r with raw := level, candidate := some began } })) ∧
  ∀ (s : State) (i : Input) (swapped : Bool) (u : Station),
    let r := s.st.ctu.input i
    let keeps := fun t : Station =>
      (∀ j, j ≠ i → t.ctu.input j = s.st.ctu.input j) ∧ t.clock = u.clock ∧ t.crv = s.st.crv ∧ t.ofm = s.st.ofm ∧
      t.trb = s.st.trb ∧ t.portA = s.st.portA ∧ t.portB = s.st.portB ∧ t.consts = s.st.consts ∧ t.sst = s.st.sst
    (s.st.changeComesDue i u →
      ∃ t, exec (.debounceExpiry i swapped) s = .next t ∧ t.pending = s.pending ∧
        t.st.ctu.input i = ⟨r.raw, r.raw, true, none, some u.uptime⟩ ∧ keeps t.st ∧
        (i = .modeRemote ∨ i = .maintKey → t.st = u.setInput i ⟨r.raw, r.raw, true, none, some u.uptime⟩)) ∧
    (s.st.settlingComesDue i u →
      ∃ t, exec (.firstSettling i swapped) s = .next t ∧ t.pending = s.pending ∧
        t.st.ctu.input i = ⟨r.raw, r.raw, true, none, r.lastChange⟩ ∧ keeps t.st ∧
        (i = .modeRemote ∨ i = .maintKey → t.st = u.setInput i ⟨r.raw, r.raw, true, none, r.lastChange⟩) ∧
        (∀ n, i = .pumpFault n → (u.setInput i ⟨r.raw, r.raw, true, none, r.lastChange⟩).pumpNoticed n = false →
          t.st = u.setInput i ⟨r.raw, r.raw, true, none, r.lastChange⟩))

/-- Table 3-3, and the delivery of R50: at a taken change of either contact the selector is decoded again; a position that stays
moves nothing else; one that changes moves the pump by R107: out of duty with its output off and its marks cleared, or into READY,
STOPPING or FAULTED by the settled contacts. One to AUTO that finds the pump in an auto state changes no pump: assumption 48, DESIGN
CHOICE. A contact that has not settled reads as off in the decoding (assumption 38: DEDUCED), and a pump moved
back to OFF before its settling notice has no fault condition (assumption 49: DESIGN CHOICE). No event waits at the STC (its field heard
is the model's: assumption 10, DEDUCED). -/
def Obligations.SelectorChangesReachThePump : Prop :=
  (∀ hand auto : Bool, Selector.decode hand auto =
    (match hand, auto with
      | false, false => ⟨.off, false⟩
      | true, false => ⟨.hand, false⟩
      | false, true => ⟨.auto, false⟩
      | true, true => ⟨.off, true⟩)) ∧
  ∀ (s : State) (n : PumpNo) (i : Input) (swapped : Bool) (u : Station), i = .hoaHand n ∨ i = .hoaAuto n →
    s.st.changeComesDue i u → s.st.stc.heard = false →
    ∃ t, exec (.debounceExpiry i swapped) s = .next t ∧ t.pending = s.pending ∧
      let sel := Selector.decode (t.st.settled (.hoaHand n)) (t.st.settled (.hoaAuto n))
      let old := s.st.pumps[n].state
      let p := t.st.pumps[n]
      t.st.ctu.selectors[n] = sel ∧ (∀ k, k ≠ n → t.st.ctu.selectors[k] = s.st.ctu.selectors[k]) ∧
      (sel.position = s.st.ctu.selectors[n].position →
        t.st.pumps = s.st.pumps ∧ t.st.stc = s.st.stc ∧ t.st.dty = s.st.dty ∧ t.st.rkc = s.st.rkc ∧ t.st.alt = s.st.alt ∧
        t.st.rpq = s.st.rpq ∧ t.st.ctu.pumpRun = s.st.ctu.pumpRun ∧ t.st.ctu.drive = s.st.ctu.drive) ∧
      (sel.position ≠ s.st.ctu.selectors[n].position →
        t.st.alt.points[Alarm.pumpFault n].condition = t.st.pumpFaultCondition n ∧
        p.settings = s.st.pumps[n].settings ∧ p.history = s.st.pumps[n].history ∧
        (old = .uninstalled → p.state = .uninstalled) ∧
        (sel.position ≠ .auto → old.auto = true ∨ old = .faulted →
          p.state = (if sel.position = .hand then .hand else .off) ∧ t.st.ctu.pumpRun[n] = false ∧ p.cause = none ∧
          p.demand = false ∧ p.shed = false ∧ p.deferred = .none ∧ p.inhibit = false) ∧
        (sel.position ≠ .auto → old = .off ∨ old = .hand → p.state = (if sel.position = .hand then .hand else .off)) ∧
        (sel.position = .auto → old = .faulted → p.state = .faulted) ∧
        (sel.position = .auto → old.auto = true → t.st.pumps = s.st.pumps ∧ t.st.stc = s.st.stc) ∧
        (sel.position = .auto → old = .off ∨ old = .hand →
          p.state = (if s.st.settled (.pumpFault n) then .faulted else if s.st.settled (.runFb n) then .stopping else .ready) ∧
          (s.st.settled (.pumpFault n) = true → p.cause = some .motorFault)))

/-- Table 3-4: the drive's answer to each request at a 10 ms step in each state, and DEAD_INTERVAL_EXPIRY (R53, R54). The waiting
direction is driven; a rake that waits for it begins its phase timer, unless its settled contacts move it on at once (R117, R123 to
R125). No event waits at the STC (its field heard is the model's: assumption 10, DEDUCED). -/
def Obligations.DriveFollowsItsTable : Prop :=
  (∀ (now e : Nat) (w req : Option Dir) (d d' : Dir),
    Drive.clear.request now none = .clear ∧ Drive.clear.request now (some d) = .driven d ∧
    (Drive.driven d).request now (some d) = .driven d ∧ (Drive.driven d).request now none = .dead (now + 50) none ∧
    (d ≠ d' → (Drive.driven d).request now (some d') = .dead (now + 50) (some d')) ∧
    (Drive.dead e w).request now req = .dead e req ∧
    ∀ x : Drive, ¬(x.output .down = true ∧ x.output .up = true)) ∧
  ∀ (s : State) (u : Station), s.st.deadComesDue u → s.st.stc.heard = false →
    ∃ t, exec .deadIntervalExpiry s = .next t ∧ t.pending = s.pending ∧ KeepsOuter u t.st ∧
      let k := s.st.rkc
      let r := t.st.rkc
      (∀ e, s.st.ctu.drive = .dead e none → t.st = { u with ctu := { u.ctu with drive := .clear } }) ∧
      ∀ e d, s.st.ctu.drive = .dead e (some d) →
        let driven : Station := { u with ctu := { u.ctu with drive := .driven d } }
        let begun := fun limit : Nat =>
          { driven with rkc := { u.rkc with drivePending := false, timer := some (u.uptime + 10 * limit) } }
        (k.drivePending = false ∨ k.state.direction ≠ some d → t.st = driven) ∧
        (k.drivePending = true → k.state = .lowering → d = .down →
          (s.st.settled .torqueTrip = true → r.state = .jammed ∧ r.jamCause = some .torque ∧ r.homing = false) ∧
          (s.st.settled .torqueTrip = false → s.st.settled .limBottom = true →
            r.state = .raising ∧ r.drivePending = true ∧ t.st.ctu.drive = .dead (u.clock + 50) (some .up)) ∧
          (s.st.settled .torqueTrip = false → s.st.settled .limBottom = false → t.st = begun s.st.consts.lowerMax)) ∧
        (k.drivePending = true → k.state = .raising → d = .up →
          (s.st.settled .limTop = true → k.homing = false →
            r.state = .discharging ∧ r.timer = some (u.uptime + 10 * s.st.consts.dwell) ∧
            t.st.ctu.drive = .dead (u.clock + 50) none) ∧
          (s.st.settled .limTop = true → k.homing = true → r.homing = false ∧ r.cyclesToday = k.cyclesToday) ∧
          (s.st.settled .limTop = false → s.st.settled .torqueTrip = true →
            (k.retries = 0 → r.state = .jammed ∧ r.jamCause = some .torque) ∧
            (k.retries ≠ 0 → r.state = .reversing ∧ r.retries + 1 = k.retries ∧
              t.st.ctu.drive = .dead (u.clock + 50) (some .down))) ∧
          (s.st.settled .limTop = false → s.st.settled .torqueTrip = false → t.st = begun s.st.consts.raiseMax)) ∧
        (k.drivePending = true → k.state = .reversing → d = .down →
          (s.st.settled .limBottom = true →
            r.state = .raising ∧ r.retries = k.retries ∧ t.st.ctu.drive = .dead (u.clock + 50) (some .up)) ∧
          (s.st.settled .limBottom = false → t.st = begun s.st.consts.reverseTime))

/-! ### Pumps (Chapters 4 and 6) -/

/-- INHIBIT PUMP, RELEASE PUMP and RESET PUMP FAULT by the state they find (R108, R109); a number outside 1 to 6 is answered
REFUSED_RANGE. That a FAULTED pump whose selector reads HAND is reset into HAND is assumption 23: DESIGN CHOICE. -/
def Obligations.PumpRequestsActByState : Prop :=
  ∀ (s : State) (p : PortId) (rest : List Byte) (c : Byte), s.st.admits p .operate (.fixed 1) rest [c] →
    (c.toNat < 1 ∨ 6 < c.toNat →
      exec (.inhibitPump p rest) s = .next (s.answered p rest 0x41 .range) ∧
      exec (.releasePump p rest) s = .next (s.answered p rest 0x42 .range) ∧
      exec (.resetPumpFault p rest) s = .next (s.answered p rest 0x43 .range)) ∧
    ∀ n : PumpNo, c.toNat = n.val + 1 →
      let a := s.st.pumps[n]
      let x := a.state
      let keeps := fun t : State =>
        t.pending = s.pending ∧ t.st.pumps[n].settings = a.settings ∧ t.st.pumps[n].startsTotal = a.startsTotal ∧
        t.st.pumps[n].startsToday = a.startsToday
      (x = .uninstalled ∨ x = .off ∨ x = .hand → exec (.inhibitPump p rest) s = .next (s.answered p rest 0x41 .state)) ∧
      (x ≠ .uninstalled → x ≠ .off → x ≠ .hand →
        ∃ t, exec (.inhibitPump p rest) s = .next t ∧ keeps t ∧ KeepsOuter (s.taken p rest 0x41 (.done [])) t.st ∧
          t.st.pumps[n].history = a.history ∧
          (x = .inhibited → t.st.pumps[n] = a) ∧
          (x ≠ .inhibited →
            t.st.pumps[n].inhibit = true ∧ t.st.pumps[n].demand = false ∧ t.st.pumps[n].shed = false ∧
            t.st.pumps[n].deferred = .none) ∧
          (x = .ready → t.st.pumps[n].state = .inhibited) ∧
          (x = .waiting → t.st.pumps[n].state = .inhibited ∧ t.st.queued (.pump n) = false) ∧
          (x = .starting ∨ x = .running →
            t.st.pumps[n].state = .stopping ∧ t.st.ctu.pumpRun[n] = false ∧
            t.st.pumps[n].timer = some (s.st.uptime + 10 * a.settings.stopConfirmTime)) ∧
          (x = .stopping ∨ x = .resting ∨ x = .faulted →
            t.st.pumps[n].state = x ∧ t.st.pumps[n].timer = a.timer ∧ t.st.pumps[n].cause = a.cause)) ∧
      (x = .inhibited ∨ (a.inhibit = true ∧ (x = .stopping ∨ x = .resting ∨ x = .faulted)) →
        ∃ t, exec (.releasePump p rest) s = .next t ∧ keeps t ∧ KeepsOuter (s.taken p rest 0x42 (.done [])) t.st ∧
          t.st.pumps[n].inhibit = false ∧ t.st.pumps[n].state = (if x = .inhibited then .ready else x) ∧
          t.st.pumps[n].demand = a.demand ∧ t.st.pumps[n].history = a.history) ∧
      (x ≠ .inhibited → ¬(a.inhibit = true ∧ (x = .stopping ∨ x = .resting ∨ x = .faulted)) →
        exec (.releasePump p rest) s = .next (s.answered p rest 0x42 .state)) ∧
      (x ≠ .faulted ∨ s.st.settled (.pumpFault n) = true ∨ s.st.settled (.runFb n) = true →
        exec (.resetPumpFault p rest) s = .next (s.answered p rest 0x43 .state)) ∧
      (x = .faulted → s.st.settled (.pumpFault n) = false → s.st.settled (.runFb n) = false →
        ∃ t, exec (.resetPumpFault p rest) s = .next t ∧ t.pending = s.pending ∧
          KeepsOuter (s.taken p rest 0x43 (.done [])) t.st ∧ t.st.pumps[n].cause = none ∧
          (s.st.ctu.selectors[n].position = .auto → a.settings.minOff ≠ 0 →
            t.st.pumps[n].state = .resting ∧ t.st.pumps[n].timer = some (s.st.uptime + 10 * a.settings.minOff) ∧ keeps t ∧
            t.st.pumps[n].history = a.history) ∧
          (s.st.ctu.selectors[n].position = .off → t.st.pumps[n].state = .off ∧ keeps t) ∧
          (s.st.ctu.selectors[n].position = .hand → t.st.pumps[n].state = .hand ∧ keeps t))

/-- WRITE PUMP RECORD is judged by Table 4-1 and, on a change of `installed`, by R59; accepted, it replaces all eight settings, and a
removal or an installation moves the pump, its place in the rotation list and its marks (R58 to R60). The field code that answers a
bad pump number is free: assumption 19. max_starts_per_hour applies at once: the oldest entries go, and a WAITING pump that is now
start-limited returns to READY with its demand kept (R58). A refused one changes no setting; like every WRITE PUMP RECORD that names
a pump, it prunes that pump's history and has START_LIMITED judged (R110, R111: assumption 41, DEDUCED). What a removal leaves of an
inhibit mark is assumption 22: DEDUCED. -/
def Obligations.PumpRecordIsJudgedThenReplaced : Prop :=
  ∀ (s : State) (p : PortId) (rest ps : List Byte), s.st.admits p .configure (.fixed 13) rest ps →
    let number := ofBe (ps.take 1)
    let v := readFields PumpSettings.widths (ps.drop 1)
    let c := PumpSettings.ofValues v
    (number < 1 ∨ 6 < number → exec (.writePumpRecord p rest) s =
      .next (s.answered p rest 0x61 (.final .refusedRange [Config.pumpNumberFieldCode]))) ∧
    ∀ n : PumpNo, number = n.val + 1 →
      let a := s.st.pumps[n]
      let young := a.history.dropWhile fun g => decide (g + 36000 < s.st.uptime)
      let refused := fun r : Reply =>
        let x := s.taken p rest 0x61 r
        ∃ t, exec (.writePumpRecord p rest) s = .next t ∧ t.pending = s.pending ∧
          KeepsControl { x with pumps := s.st.pumps.set n { a with history := young } } t.st ∧ (∀ q, t.st.port q = x.port q) ∧
          t.st.alt.points[Alarm.startLimited].condition = t.st.startLimitedCondition ∧
          ∀ k : PointNo, k ≠ Alarm.startLimited → t.st.alt.points[k] = s.st.alt.points[k]
      (∀ k, firstFailing (pumpFieldChecks v) = some k → refused (.final .refusedRange (byte (k - 1)))) ∧
      let kept := young.drop (young.length - c.maxStarts)
      (firstFailing (pumpFieldChecks v) = none →
        (a.settings.installed = true → c.installed = false →
          a.state ≠ .ready → a.state ≠ .off → a.state ≠ .hand → a.state ≠ .faulted → refused .state) ∧
        (∀ test k, a.settings.installed = false → c.installed = true →
          s.st.dty.setpoints.failing (s.st.npos + 1) = some (test, k) →
          refused (.final .refusedState (byte test ++ byte k))) ∧
        ((a.settings.installed = true → c.installed = false →
            a.state = .ready ∨ a.state = .off ∨ a.state = .hand ∨ a.state = .faulted) →
          (a.settings.installed = false → c.installed = true → s.st.dty.setpoints.failing (s.st.npos + 1) = none) →
          ∃ t, exec (.writePumpRecord p rest) s = .next t ∧ t.pending = s.pending ∧
            KeepsOuter (s.taken p rest 0x61 (.done [])) t.st ∧ t.st.pumps[n].settings = c ∧
            t.st.alt.points[Alarm.startLimited].condition = t.st.startLimitedCondition ∧
            t.st.pumps[n].history.length ≤ c.maxStarts ∧ (a.state ≠ .waiting → t.st.pumps[n].history = kept) ∧
            (a.settings.installed = true → c.installed = true → a.state = .waiting → c.maxStarts ≤ young.length →
              t.st.pumps[n].state = .ready ∧ t.st.pumps[n].demand = a.demand ∧ t.st.pumps[n].history = kept ∧
              t.st.queued (.pump n) = false) ∧
            (∀ k, k ≠ n → t.st.pumps[k].settings = s.st.pumps[k].settings) ∧
            (a.settings.installed = true → c.installed = false →
              t.st.pumps[n].state = .uninstalled ∧ t.st.pumps[n].cause = none ∧ t.st.pumps[n].demand = false ∧
              t.st.pumps[n].shed = false ∧ t.st.pumps[n].deferred = .none ∧
              (a.shed = true → t.st.stc.shedPumps[n] = false) ∧ t.st.pumps[n].runLost = false ∧
              t.st.pumps[n].startsTotal = a.startsTotal ∧ t.st.pumps[n].runTotal = a.runTotal ∧ t.st.dty.held = min s.st.dty.held t.st.npos ∧
              (∀ k, k ∈ t.st.dty.rotation ↔ k ∈ s.st.dty.rotation ∧ k ≠ n) ∧
              (s.st.pumpDownEnd = false → s.st.pumpsSafe →
                t.st.dty.rotation = s.st.dty.rotation.filter fun k => k != n)) ∧
            (a.settings.installed = false → c.installed = true →
              (∀ k, k ∈ t.st.dty.rotation ↔ k ∈ s.st.dty.rotation ∨ k = n) ∧
              (s.st.pumpDownEnd = false → s.st.pumpsSafe → t.st.dty.rotation = s.st.dty.rotation ++ [n]) ∧
              t.st.pumps[n].state = (match s.st.ctu.selectors[n].position with
                | .off => .off
                | .hand => .hand
                | .auto => if s.st.settled (.pumpFault n) then .faulted
                    else if s.st.settled (.runFb n) then .stopping else .ready))))

/-- SET SETPOINTS replaces the whole table when the tests of Table 4-4 pass for the installed pumps, and else names the first test that
fails, at its first position (R65). WRITE ROTATION replaces mode and list when the list holds each installed pump once, and else
changes nothing (R61). At pump-down end the list is reordered by the mode and the mark is cleared (R63, R64). That SET SETPOINTS carries
its fields in the order of Table 4-3, and WRITE ROTATION its mode, count and list in this order, is assumption 39: DESIGN CHOICE. -/
def Obligations.SetpointsAndRotationAreJudgedWhole : Prop :=
  (∀ (t : Setpoints) (npos : Nat),
    let start := fun k => t.start.toList.getD k 0
    let stop := fun k => t.stop.toList.getD k 0
    let first := (∀ v ∈ t.start.toList ++ t.stop.toList ++ [t.highAlarm, t.lowAlarm, t.lowCutoff, t.anticipate], v ≤ 30000) ∧
      t.margin ≤ 65535 ∧ 1 ≤ t.floatDemand ∧ t.floatDemand ≤ 6
    let second := fun k => stop k < start k
    let third := fun k => start k < start (k + 1)
    let fourth := fun k => t.lowCutoff < stop k
    let all := fun (n : Nat) (test : Nat → Prop) => ∀ k, k < n → test k
    let fails := fun (k : Nat) (test : Nat → Prop) => ¬test k ∧ all k test
    (t.failing npos = none ↔ first ∧ all npos second ∧ all (npos - 1) third ∧ all npos fourth) ∧
    (∀ test k, t.failing npos = some (test, k) ↔
      (test = 1 ∧ k = 0 ∧ ¬first) ∨
      (test = 2 ∧ first ∧ 1 ≤ k ∧ k ≤ npos ∧ fails (k - 1) second) ∨
      (test = 3 ∧ first ∧ all npos second ∧ 2 ≤ k ∧ k ≤ npos ∧ fails (k - 2) third) ∨
      (test = 4 ∧ first ∧ all npos second ∧ all (npos - 1) third ∧ 1 ≤ k ∧ k ≤ npos ∧ fails (k - 1) fourth))) ∧
  (∀ (s : State) (p : PortId) (rest ps : List Byte), s.st.admits p .operate (.fixed 35) rest ps →
    let table := Setpoints.ofValues (readFields Setpoints.widths ps)
    (∀ test k, table.failing s.st.npos = some (test, k) →
      exec (.setSetpoints p rest) s = .next (s.answered p rest 0x40 (.final .refusedRange (byte test ++ byte k)))) ∧
    (table.failing s.st.npos = none →
      exec (.setSetpoints p rest) s = .next (s.replied p rest 0x40 (.done []) fun u =>
        { u with dty := { u.dty with setpoints := table } }))) ∧
  (∀ (s : State) (p : PortId) (rest list : List Byte) (m c : Byte),
    s.st.admits p .configure (.counted 1 1) rest (m :: c :: list) →
    (2 < m.toNat ∨ list.length ≠ s.st.npos ∨ (∃ b ∈ list, b.toNat < 1 ∨ 6 < b.toNat) ∨
        (∃ n : PumpNo, BitVec.ofNat 8 (n.val + 1) ∈ list ∧ s.st.pumps[n].settings.installed = false) ∨ ¬list.Nodup →
      exec (.writeRotation p rest) s = .next (s.answered p rest 0x62 .range)) ∧
    ∀ (mode : AltMode) (l : List PumpNo), m.toNat = mode.code → list.map BitVec.toNat = l.map (fun n => n.val + 1) →
      l.Nodup → l.length = s.st.npos → (∀ n ∈ l, s.st.pumps[n].settings.installed = true) →
      ∃ t, exec (.writeRotation p rest) s = .next t ∧ t.pending = s.pending ∧
        KeepsOuter (s.taken p rest 0x62 (.done [])) t.st ∧ t.st.dty.mode = mode ∧
        t.st.dty.setpoints = s.st.dty.setpoints ∧
        (s.st.pumpsSafe ∨ s.st.dty.altMark = false → t.st.dty = { s.st.dty with mode := mode, rotation := l })) ∧
  ∀ st : Station,
    let d := st.dty
    let ended := d.altMark = true ∧ d.held = 0 ∧ d.effective = 0 ∧ ∀ n : PumpNo, st.pumps[n].settings.installed = true →
      st.pumps[n].state ≠ .starting ∧ st.pumps[n].state ≠ .running ∧ st.pumps[n].state ≠ .stopping
    let total := fun n : PumpNo => st.pumps[n].runTotal
    let t := st.testPumpDown
    let l := t.dty.rotation
    (¬ended → t = st) ∧
    (ended → t.dty = { d with altMark := false, rotation := l } ∧ t.pumps = st.pumps ∧
      (d.mode = .onCycle → l = d.rotation.drop 1 ++ d.rotation.take 1) ∧
      (d.mode = .onHours → l.Perm d.rotation ∧
        l.Pairwise fun x y => total x < total y ∨ (total x = total y ∧ x.val ≤ y.val)) ∧
      (d.mode = .fixed → l = d.rotation ∧ t.stc = st.stc) ∧
      (d.mode ≠ .fixed → t.stc.queue = ({ st with dty := t.dty } : Station).resort.stc.queue))

/-! ### Duty (sections 4.6 and 4.7) -/

/-- The hysteresis of R68: D rises through the start levels that W has reached and falls through the stop levels that it has fallen to,
never both. D_eff by R69: anticipation adds one pump while Q_in exceeds what runs and the margin just below the next start level, the
high floor takes it to every pump, the cutoff to 0, the float floor lifts it, and each modification that changes it is marked. In
FLOAT source the float contacts set both, without a modification (R70). An evaluation forms both on the histories as pruned and leaves
them in the duty record (R67); that it prunes every history is assumption 29: DEDUCED. -/
def Obligations.DemandFollowsLevelsAndFloats : Prop :=
  (∀ (t : Setpoints) (npos w d : Nat), npos ≤ 6 → d ≤ npos → t.failing npos = none →
    let m := moveDemand t npos w d
    m ≤ npos ∧ (∀ k, d < k → k ≤ m → t.startAt k ≤ w) ∧ (d ≤ m → m < npos → w < t.startAt (m + 1)) ∧
    (∀ k, m < k → k ≤ d → w ≤ t.stopAt k) ∧ (m ≤ d → 0 < m → t.stopAt m < w)) ∧
  (∀ (st : Station) (w : Nat) (q : Option Nat),
    let t := st.dty.setpoints
    let e := st.demandAt w q
    let d := moveDemand t st.npos w st.dty.held
    let runs := fun n : PumpNo => st.pumps[n].settings.installed && (st.pumps[n].state == .running ||
      (st.pumps[n].state == .hand && st.settled (.runFb n)))
    let runningFlow := ((allPumps.filter runs).map fun n => st.pumps[n].settings.ratedFlow).sum
    let surplus := q.any fun f => decide (d < st.npos ∧ (t.start.toList.getD d 0 : Int) - t.anticipate ≤ w ∧
      runningFlow + t.margin < f)
    let floor := min t.floatDemand st.npos
    let first := if surplus then d + 1 else d
    let second := if t.highAlarm ≤ w then st.npos else first
    let third := if w ≤ t.lowCutoff then 0 else second
    e.held = d ∧ e.effective = (if st.settled .floatHigh then max third floor else third) ∧
    (t.lowCutoff < w → t.highAlarm ≤ w → e.effective = st.npos) ∧
    (e.cutoff = true ↔ w ≤ t.lowCutoff ∧ e.effective = 0) ∧
    (e.mods.anticipation = true ↔ ∃ f, q = some f ∧ d < st.npos ∧ t.startAt (d + 1) ≤ w + t.anticipate ∧
      runningFlow + t.margin < f) ∧
    (e.mods.highFloor = true ↔ second ≠ first) ∧ (e.mods.lowCutoff = true ↔ third ≠ second) ∧
    (e.mods.floatFloor = true ↔ st.settled .floatHigh = true ∧ third < floor)) ∧
  (∀ (st : Station) (u : LevelUpdate),
    let d := (st.pruneAll).demand u
    let t := st.evaluate u
    (∀ n : PumpNo, st.pruneAll.pumps[n] = { st.pumps[n] with
      history := st.pumps[n].history.dropWhile fun g => decide (g + 36000 < st.uptime) }) ∧
    (∀ w, u.w = some w → d = st.demandAt w u.qIn) ∧ (u.w = none → d = st.demandFloat) ∧
    KeepsOuter st t ∧ t.dty.held = d.held ∧ t.dty.effective = d.effective ∧ t.dty.mods = d.mods ∧ t.dty.cutoff = d.cutoff ∧
    t.dty.lastSource = some u.source ∧ t.dty.setpoints = st.dty.setpoints ∧ t.dty.mode = st.dty.mode ∧
    (1 ≤ d.effective → t.dty.altMark = true ∧ t.dty.rotation = st.dty.rotation)) ∧
  ∀ st : Station,
    let e := st.demandFloat
    e.effective = e.held ∧ e.mods = ⟨false, false, false, false⟩ ∧
    (st.settled .floatHigh = true → e.held = min st.dty.setpoints.floatDemand st.npos ∧ e.cutoff = false) ∧
    (st.settled .floatHigh = false → st.settled .floatLow = true → e.held = st.dty.held ∧ e.cutoff = false) ∧
    (st.settled .floatHigh = false → st.settled .floatLow = false → e.held = 0 ∧ e.cutoff = true)

/-- The assignment of R71 to R73 over a rotation list as R60 has it: hand pumps count first, the held set is kept in rotation order as far
as the need reaches, eligible pumps fill the rest in rotation order, the shortfall is the unmet count, and each pump receives at most the
one order that its part in it gives; a READY pump that still carries a shed mark is in neither set (assumption 22: DEDUCED). An evaluation
prunes every history first (assumption 29: DEDUCED), records what it assigns, sends the orders in rotation order and then tests for
pump-down end (assumption 9: DESIGN CHOICE). Each order is a handling of its own, at whose end the STC handles what reached it, and one
more STC event follows the last (assumption 10: DEDUCED). A PRU answers each order by Table 6-3 (R95, R96); min_run elapsed goes to no at
each entry to a state (assumption 45: DESIGN CHOICE). -/
def Obligations.AssignmentFollowsTheRotation : Prop :=
  (∀ (st : Station) (u : LevelUpdate),
    let v := st.pruneAll
    let a := v.assign (v.demand u).effective
    let t := st.evaluate u
    let send := fun (x : Station) (n : PumpNo) => match t.dty.orders[n] with
      | none => x
      | some o => x.pumpEvent n fun y => y.order n o
    t.dty.hand = a.hand ∧ t.dty.need = a.need ∧ t.dty.unmet = a.unmet ∧
    (∀ n : PumpNo, t.dty.orders[n] = v.orderFor a (v.demand u).cutoff n) ∧
    ∃ x : Station, x.pumps = v.pumps ∧ x.stc = st.stc ∧ x.rkc = st.rkc ∧ x.ctu.pumpRun = st.ctu.pumpRun ∧
      x.dty.rotation = st.dty.rotation ∧ x.dty.orders = t.dty.orders ∧
      t = ((st.dty.rotation.foldl send x).testPumpDown).settleStc) ∧
  (∀ (st : Station) (n : PumpNo) (o : Order),
    let a := st.pumps[n]
    let young := a.history.dropWhile fun g => decide (g + 36000 < st.uptime)
    let t := st.order n o
    let b := t.pumps[n]
    let entered := fun (p : PumpRec) (x : PumpState) (timer : Option Nat) =>
      { p with state := x, stateChange := st.uptime, timer := timer, minRunElapsed := false }
    let cleared := { a with demand := false, shed := false }
    KeepsOuter st t ∧ (∀ k, k ≠ n → t.pumps[k] = st.pumps[k]) ∧
    (a.state = .uninstalled ∨ a.state = .off ∨ a.state = .hand ∨ a.state = .inhibited ∨ a.state = .faulted → t = st) ∧
    (o = .start ∨ o = .keep →
      (a.state = .ready → a.settings.maxStarts ≤ young.length →
        t = { st with pumps := st.pumps.set n { a with demand := true, history := young } }) ∧
      (a.state = .ready → young.length < a.settings.maxStarts →
        b = entered { a with demand := true, history := young } .waiting none ∧ t.queued (.pump n) = true) ∧
      (a.state = .waiting ∨ a.state = .stopping ∨ a.state = .resting →
        t = { st with pumps := st.pumps.set n { a with demand := true } }) ∧
      (a.state = .starting ∨ a.state = .running →
        t = { st with pumps := st.pumps.set n { a with demand := true, deferred := .none } })) ∧
    (o = .stop ∨ o = .withdraw ∨ o = .cutoffStop →
      (a.state = .ready ∨ a.state = .stopping ∨ a.state = .resting → b = cleared ∧ t.ctu = st.ctu) ∧
      (a.state = .waiting → b = entered cleared .ready none ∧ t.queued (.pump n) = false) ∧
      (a.state = .starting →
        b = { cleared with deferred := if o = .cutoffStop then .cutoff else .normal } ∧ t.ctu = st.ctu) ∧
      (a.state = .running → o = .cutoffStop ∨ a.minRunElapsed = true →
        b = entered { cleared with deferred := .none } .stopping (some (st.uptime + 10 * a.settings.stopConfirmTime)) ∧
        t.ctu.pumpRun[n] = false) ∧
      (a.state = .running → o ≠ .cutoffStop → a.minRunElapsed = false →
        b = { cleared with deferred := .normal } ∧ t.ctu = st.ctu) ∧
      (a.state.mayBeDemanded = true → a.shed = true → t.stc.shedPumps[n] = false))) ∧
  ∀ (st : Station) (effective : Nat) (cutoff : Bool), st.rotationSafe →
    let a := st.assign effective
    let order := st.orderFor a cutoff
    let before := fun x y : PumpNo => st.dty.rotation.idxOf x < st.dty.rotation.idxOf y
    (∀ n : PumpNo,
      let x := st.pumps[n]
      (st.handRunning n = true ↔ x.settings.installed = true ∧ x.state = .hand ∧ st.settled (.runFb n) = true) ∧
      (st.inHeldSet n = true ↔ x.settings.installed = true ∧ (x.state = .starting ∨ x.state = .running ∨
        (x.shed = true ∧ (x.state = .stopping ∨ x.state = .resting ∨ x.state = .waiting)))) ∧
      (st.eligible n = true ↔ x.settings.installed = true ∧ (x.state = .ready ∨ x.state = .waiting) ∧ x.shed = false ∧
        x.history.length < x.settings.maxStarts)) ∧
    a.hand = allPumps.countP st.handRunning ∧ a.need = effective - a.hand ∧
    a.kept.length + a.filled.length + a.unmet = a.need ∧
    (∀ n, n ∈ a.kept → st.inHeldSet n = true) ∧ (∀ n, n ∈ a.filled → st.eligible n = true) ∧
    (∀ x y, st.inHeldSet x = true → y ∈ a.kept → before x y → x ∈ a.kept) ∧
    (∀ x y, st.eligible x = true → y ∈ a.filled → before x y → x ∈ a.filled) ∧
    ((∃ x, st.inHeldSet x = true ∧ x ∉ a.kept) → a.kept.length = a.need) ∧
    (0 < a.unmet → ∀ x, st.inHeldSet x = true ∨ st.eligible x = true → x ∈ a.kept ∨ x ∈ a.filled) ∧
    ∀ n : PumpNo,
      let x := st.pumps[n]
      (n ∈ a.kept → order n = some .keep) ∧
      (n ∈ a.filled → order n = (if x.state = .ready then some .start else some .keep)) ∧
      (x.settings.installed = false → order n = none) ∧
      (x.settings.installed = true → n ∉ a.kept → n ∉ a.filled →
        let withdrawn := x.state = .waiting ∨ (x.shed = true ∧ (cutoff = true ∨ x.state = .stopping ∨ x.state = .resting))
        (x.state.inMotion = true → order n = (if cutoff then some .cutoffStop else some .stop)) ∧
        (x.state.inMotion = false → withdrawn → order n = some .withdraw) ∧
        (x.state.inMotion = false → ¬withdrawn → order n = none))

/-- The five timers of a pump (R99 to R102, R110): a confirm window that ends is a failed start; min_run ends in the deferred stop or
lets later stops through; the stop-confirm window judges the feedback; min_off ends the rest by the inhibit mark, the demand and the
start limit; the prune expiry takes the oldest start from the history. No event waits at the STC, which handles what a timer's handling
sends it at its end (assumption 10: DEDUCED). -/
def Obligations.PumpTimersActAtExpiry : Prop :=
  ∀ (s : State) (n : PumpNo) (u : Station), s.st.stc.heard = false →
    let a := s.st.pumps[n]
    let young := a.history.dropWhile fun g => decide (g + 36000 < u.uptime)
    (s.st.comesDue (s.st.pumpTimer n .starting) u →
      ∃ t, exec (.confirmExpiry n) s = .next t ∧ t.pending = s.pending ∧ KeepsOuter u t.st ∧
        let b := t.st.pumps[n]
        b.state = .faulted ∧ b.cause = some .failToStart ∧ b.demand = false ∧ b.shed = false ∧ b.deferred = .none ∧
        b.timer = none ∧ b.history = a.history ∧ b.startsTotal = a.startsTotal ∧ t.st.ctu.pumpRun[n] = false ∧
        t.st.alt.points[Alarm.pumpFault n].condition = true) ∧
    (s.st.comesDue (s.st.pumpTimer n .running) u →
      ∃ t, exec (.minRunExpiry n) s = .next t ∧ t.pending = s.pending ∧ KeepsOuter u t.st ∧
        (a.deferred = .normal →
          t.st.pumps[n].state = .stopping ∧ t.st.pumps[n].deferred = .none ∧ t.st.ctu.pumpRun[n] = false ∧
          t.st.pumps[n].demand = a.demand ∧
          t.st.pumps[n].timer = some (u.uptime + 10 * a.settings.stopConfirmTime)) ∧
        (a.deferred ≠ .normal →
          t.st.pumps = s.st.pumps.set n { a with minRunElapsed := true, timer := none } ∧ t.st.stc = s.st.stc ∧
          t.st.ctu.pumpRun = s.st.ctu.pumpRun ∧ t.st.rkc = s.st.rkc)) ∧
    (s.st.comesDue (s.st.pumpTimer n .stopping) u →
      ∃ t, exec (.stopConfirmExpiry n) s = .next t ∧ t.pending = s.pending ∧ KeepsOuter u t.st ∧
        let b := t.st.pumps[n]
        (s.st.settled (.runFb n) = true →
          b.state = .faulted ∧ b.cause = some .failToStop ∧ b.demand = false ∧ b.shed = false ∧ b.history = a.history) ∧
        (s.st.settled (.runFb n) = false → a.settings.minOff ≠ 0 →
          b.state = .resting ∧ b.timer = some (u.uptime + 10 * a.settings.minOff) ∧ b.demand = a.demand ∧
          b.shed = a.shed ∧ b.history = a.history) ∧
        (s.st.settled (.runFb n) = false → a.settings.minOff = 0 →
          b.state = .inhibited ∨ b.state = .ready ∨ b.state = .waiting ∨ b.state = .starting)) ∧
    (s.st.comesDue (s.st.pumpTimer n .resting) u →
      ∃ t, exec (.minOffExpiry n) s = .next t ∧ t.pending = s.pending ∧ KeepsOuter u t.st ∧
        let b := t.st.pumps[n]
        (a.inhibit = true → b.state = .inhibited ∧ b.demand = false ∧ b.shed = false ∧ b.inhibit = true) ∧
        (a.inhibit = false → a.demand = false → b.state = .ready ∧ b.demand = false) ∧
        (a.inhibit = false → a.demand = true → a.settings.maxStarts ≤ young.length →
          b.state = .ready ∧ b.demand = true ∧ b.shed = false ∧ b.history = young) ∧
        (a.inhibit = false → a.demand = true → young.length < a.settings.maxStarts →
          b.demand = true ∧
          ((b.state = .waiting ∧ b.shed = a.shed ∧ b.history = young ∧ t.st.queued (.pump n) = true) ∨
           (b.state = .starting ∧ b.shed = false ∧ b.history = young ++ [u.uptime] ∧ t.st.ctu.pumpRun[n] = true ∧
            t.st.stc.lastGrant = some u.uptime)))) ∧
    (s.st.comesDue a.pruneExpiry u →
      ∃ t, exec (.pruneExpiry n) s = .next t ∧ t.pending = s.pending ∧ KeepsOuter u t.st ∧
        t.st.pumps = s.st.pumps.set n { a with history := young } ∧ young.length < a.history.length ∧
        t.st.stc = s.st.stc ∧ t.st.rkc = s.st.rkc ∧ t.st.dty = s.st.dty ∧ t.st.ctu.pumpRun = s.st.ctu.pumpRun ∧
        t.st.alt.points[Alarm.startLimited].condition = t.st.startLimitedCondition)

/-- A taken change of RUN_FB n by the pump's state: the start confirmed, the lost run, the stop confirmed, the uncommanded run, no change
in HAND, FAULTED and UNINSTALLED (R98, R101, R103, R104); a taken PUMP_FAULT n in an auto state is a motor fault and changes no state
elsewhere (R105). The loads with the change in the motor table, whose RUN_FB column takes it first (assumption 12: DEDUCED), lie within
the limit, and no event waits at the STC (assumption 10: DEDUCED). A min_run of 0 leaves its timer due at once (assumption 34: DEDUCED). A
taken change of GEN_RUN re-forms the active limit, and what a shed pass takes stops (R80, R86 to R89), passes being made until the loads
fit (assumption 11: DEDUCED). The settling notices have a pump in OFF take its selector (R113), and the STC fill its motor table and form
its limit (R80, R90; when it comes is assumption 26: DEDUCED). A pump moved from OFF and back before its notice counts as still in OFF at
the notice and at a change before it: assumption 49, DESIGN CHOICE. -/
def Obligations.ContactsMoveThePump : Prop :=
  (∀ (s : State) (swapped : Bool) (u : Station), s.st.changeComesDue .genRun u →
    let v := u.withChange .genRun
    let on := v.settled .genRun
    let w : Station := { v with stc := { v.stc with genSeen := on } }
    ∃ t, exec (.debounceExpiry .genRun swapped) s = .next t ∧ t.pending = s.pending ∧ KeepsOuter v t.st ∧
      t.st.stc.genSeen = on ∧ t.st.alt.points[Alarm.genRunning].condition = on ∧
      t.st.activeLimit = (if on then s.st.consts.genLimit else s.st.consts.utilityLimit) ∧
      (s.st.rotationSafe → t.st.committedLoad ≤ t.st.activeLimit) ∧
      (w.overloaded = false →
        (∀ n : PumpNo, s.st.pumps[n].state ≠ .waiting → t.st.pumps[n] = s.st.pumps[n]) ∧
        (s.st.rkc.state ≠ .waiting → t.st.rkc = s.st.rkc) ∧
        (on = true → t.st.stc.loadShed = s.st.stc.loadShed) ∧
        (on = false → s.st.stc.shedEmpty = true → t.st.stc.loadShed = false ∧
          (s.st.stc.loadShed = true → t.st.alt.points[Alarm.loadShed].condition = false))) ∧
      ∀ n : PumpNo, .pump n ∈ w.shedChoice w.shedCandidates w.loadAfterShedding w.committedLoad →
        t.st.pumps[n].state = .stopping ∧ t.st.ctu.pumpRun[n] = false ∧ t.st.pumps[n].demand = s.st.pumps[n].demand ∧
        (s.st.pumps[n].demand = true → t.st.pumps[n].shed = true) ∧ (on = true → t.st.stc.loadShed = true)) ∧
  (∀ (s : State) (n : PumpNo) (i : Input) (swapped : Bool) (u : Station),
    i = .hoaHand n ∨ i = .hoaAuto n ∨ i = .runFb n ∨ i = .pumpFault n → s.st.settlingComesDue i u → s.st.stc.heard = false →
    let v := u.withSettling i
    let sel := v.decoded n
    v.pumpNoticed n = true →
    ∃ t, exec (.firstSettling i swapped) s = .next t ∧ t.pending = s.pending ∧
      (i = .hoaHand n ∨ i = .hoaAuto n → t.st.ctu.selectors[n] = sel) ∧
      (s.st.pumps[n].state = .off →
        let position := t.st.ctu.selectors[n].position
        t.st.pumps[n].state = (match position with
          | .off => .off
          | .hand => .hand
          | .auto => if v.settled (.pumpFault n) then .faulted else if v.settled (.runFb n) then .stopping else .ready) ∧
        t.st.alt.points[Alarm.pumpFault n].condition = t.st.pumpFaultCondition n) ∧
      (s.st.pumps[n].state ≠ .off → i ≠ .runFb n → t.st.pumps = s.st.pumps)) ∧
  (∀ (s : State) (i : Input) (swapped : Bool) (u : Station), i = .genRun ∨ (∃ n, i = .runFb n) → s.st.settlingComesDue i u →
    let v := u.withSettling i
    (i = .genRun → v.stcSettled = false → exec (.firstSettling i swapped) s = .next { s with st := v }) ∧
    (v.stcSettled = true →
      ∃ t, exec (.firstSettling i swapped) s = .next t ∧ t.pending = s.pending ∧ KeepsOuter v t.st ∧
        t.st.stc.genSeen = v.settled .genRun ∧ (∀ n : PumpNo, t.st.stc.runFbSeen[n] = v.settled (.runFb n)) ∧
        t.st.alt.points[Alarm.genRunning].condition = v.settled .genRun)) ∧
  (∀ (s : State) (n : PumpNo) (swapped : Bool) (u : Station), s.st.changeComesDue (.runFb n) u → s.st.stc.heard = false →
    let r := s.st.ctu.input (.runFb n)
    let v := u.setInput (.runFb n) ⟨r.raw, r.raw, true, none, some u.uptime⟩
    let a := s.st.pumps[n]
    (v.seeFeedback n).overloaded = false →
    ∃ t, exec (.debounceExpiry (.runFb n) swapped) s = .next t ∧ t.pending = s.pending ∧ KeepsOuter v t.st ∧
      let b := t.st.pumps[n]
      t.st.stc.runFbSeen[n] = r.raw ∧
      (r.raw = true → a.state = .starting → b.runLost = false ∧ b.demand = a.demand ∧
        (a.deferred = .none ∨ (a.deferred = .normal ∧ a.settings.minRun ≠ 0) →
          b.state = .running ∧ b.timer = some (u.uptime + 10 * a.settings.minRun) ∧ b.minRunElapsed = false ∧
          b.deferred = a.deferred ∧ t.st.ctu.pumpRun[n] = s.st.ctu.pumpRun[n]) ∧
        (a.deferred = .cutoff ∨ (a.deferred = .normal ∧ a.settings.minRun = 0) →
          b.state = .stopping ∧ b.timer = some (u.uptime + 10 * a.settings.stopConfirmTime) ∧ b.deferred = .none ∧
          t.st.ctu.pumpRun[n] = false)) ∧
      (r.raw = false → a.state = .running → a.settings.minOff ≠ 0 →
        b.state = .resting ∧ b.timer = some (u.uptime + 10 * a.settings.minOff) ∧ b.runLost = true ∧ b.deferred = .none ∧
        b.demand = a.demand ∧ t.st.ctu.pumpRun[n] = false ∧ t.st.alt.points[Alarm.runLost n].condition = true) ∧
      (r.raw = false → a.state = .stopping → a.settings.minOff ≠ 0 →
        b.state = .resting ∧ b.timer = some (u.uptime + 10 * a.settings.minOff) ∧ b.runLost = a.runLost ∧
        b.demand = a.demand ∧ b.shed = a.shed) ∧
      (r.raw = true → a.state = .ready ∨ a.state = .resting ∨ a.state = .inhibited ∨
          (a.state = .waiting ∧ swapped = false) ∨ (a.state = .off ∧ s.st.pumpNoticed n = true) →
        b.state = .faulted ∧ b.cause = some .uncommandedRun ∧ b.demand = false ∧ b.shed = false ∧ b.inhibit = false ∧
        t.st.alt.points[Alarm.pumpFault n].condition = true) ∧
      (a.state = .hand ∨ a.state = .faulted ∨ a.state = .uninstalled ∨ (r.raw = true ∧ a.state = .stopping) → b = a)) ∧
  ∀ (s : State) (n : PumpNo) (swapped : Bool) (u : Station), s.st.changeComesDue (.pumpFault n) u →
    s.st.stc.heard = false →
    let r := s.st.ctu.input (.pumpFault n)
    let a := s.st.pumps[n]
    ∃ t, exec (.debounceExpiry (.pumpFault n) swapped) s = .next t ∧ t.pending = s.pending ∧
      KeepsOuter (u.setInput (.pumpFault n) ⟨r.raw, r.raw, true, none, some u.uptime⟩) t.st ∧
      (r.raw = true → a.state.auto = true →
        t.st.pumps[n].state = .faulted ∧ t.st.pumps[n].cause = some .motorFault ∧ t.st.pumps[n].demand = false ∧
        t.st.pumps[n].shed = false ∧ t.st.pumps[n].inhibit = false ∧ t.st.pumps[n].deferred = .none ∧
        t.st.ctu.pumpRun[n] = false ∧ (a.state = .waiting → t.st.queued (.pump n) = false)) ∧
      (r.raw = false ∨ a.state.auto = false → t.st.pumps = s.st.pumps ∧ t.st.ctu.pumpRun = s.st.ctu.pumpRun) ∧
      t.st.alt.points[Alarm.pumpFault n].condition = t.st.pumpFaultCondition n

/-! ### Start control (Chapter 5) -/

/-- SPACING_EXPIRY judges the head: budget first, then spacing. A pump granted is STARTING with its output on, its start in the history
and both counts, the grant's uptime recorded and the spacing armed; both loads stay within the limit. A rake granted begins its
cycle. A head not granted takes its hold reason, and nothing starts (R81 to R83, R97, R122). BUDGET_EXPIRY turns CAPACITY_HELD on
while the head stays held for BUDGET (R85). The loads lie within the limit before. The queue keeps the order of R76 through re-sorts
and additions, and a withdrawal takes one motor out (R77, R78). A shed pass takes the motors of Table 5-3 in order until both figures
are within the limit, and sheds each (R86 to R89, R106, R129); min_run elapsed goes to no with it (assumption 45: DESIGN CHOICE). That
an event ends with one grant test is assumption 10: DEDUCED. -/
def Obligations.ExpiriesJudgeTheHead : Prop :=
  (∀ (st : Station) (m : Motor), st.dty.rotation.length ≤ 6 →
    let before := fun a b : Motor => match a, b with
      | .pump x, .pump y => st.dty.rotation.idxOf x ≤ st.dty.rotation.idxOf y
      | .rake, .pump _ => st.rkc.blinded = true
      | .pump _, .rake => st.rkc.blinded = false
      | .rake, .rake => True
    let motors := fun q : List QEntry => q.map (·.motor)
    let names := fun q : List QEntry => q.map fun e => (e.motor, e.enqueued)
    let q := st.stc.queue
    let sorted := st.resort.stc.queue
    let added := (st.enqueue m).stc.queue
    st.resort = { st with stc := { st.stc with queue := sorted } } ∧
    (names sorted).Perm (names q) ∧ (motors sorted).Pairwise before ∧ (∀ e ∈ sorted.head?, e ∈ q) ∧
    (∀ e ∈ sorted.tail, e.hold = .none) ∧
    ((motors q).Nodup → (∀ n, .pump n ∈ motors q → n ∈ st.dty.rotation) → (motors q).Pairwise before →
      (∀ e ∈ q.tail, e.hold = .none) → sorted = q) ∧
    (st.queued m = true → added = q) ∧
    (st.queued m = false → (names added).Perm ((m, st.uptime) :: names q) ∧ (motors added).Pairwise before ∧
      ⟨m, st.uptime, .none⟩ ∈ added) ∧
    (st.enqueue m).stc.heard = true ∧
    (st.withdraw m).stc.queue = q.filter (fun e => e.motor != m) ∧ (st.withdraw m).stc.heard = true) ∧
  (∀ st : Station,
    let power := fun m : Motor => match m with
      | .pump n => st.pumps[n].settings.ratedPower
      | .rake => st.consts.rakeKw
    let connected := fun ms : List Motor =>
      st.loadAfterShedding - (ms.map fun m => if st.motorConnects m then power m else 0).sum
    let committed := fun ms : List Motor => st.committedLoad - (ms.map power).sum
    let within := fun ms : List Motor => connected ms ≤ st.activeLimit ∧ committed ms ≤ st.activeLimit
    let chosen := st.shedChoice st.shedCandidates st.loadAfterShedding st.committedLoad
    let t := st.shedPass
    (∀ lead rest, st.dty.rotation = lead :: rest → st.shedCandidates =
      (rest.reverse.filter st.commits).map .pump ++ (if st.rkc.state.inMotion then [.rake] else []) ++
      (if st.commits lead then [.pump lead] else [])) ∧
    chosen <+: st.shedCandidates ∧ (chosen ≠ st.shedCandidates → within chosen) ∧
    (∀ k, k < chosen.length → ¬within (chosen.take k)) ∧
    (chosen = [] → t = st) ∧ (chosen ≠ [] → t.stc.loadShed = true) ∧ KeepsOuter st t ∧
    (∀ n : PumpNo, .pump n ∉ chosen → t.pumps[n] = st.pumps[n]) ∧
    (.rake ∉ chosen → t.rkc = st.rkc) ∧
    (∀ n : PumpNo, .pump n ∈ chosen → t.pumps[n] = { st.pumps[n] with
        state := .stopping, stateChange := st.uptime, minRunElapsed := false, deferred := .none
        timer := some (st.uptime + 10 * st.pumps[n].settings.stopConfirmTime)
        shed := st.pumps[n].demand || st.pumps[n].shed } ∧
      t.ctu.pumpRun[n] = false ∧ (st.rotationSafe → t.stc.shedPumps[n] = st.pumps[n].demand)) ∧
    (.rake ∈ chosen → t.rkc = { st.rkc with
        state := .waiting, stateChange := st.uptime, timer := none, drivePending := false, demand := true } ∧
      t.ctu.drive = st.ctu.drive.request st.clock none ∧ t.queued .rake = true ∧ t.stc.shedRake = true) ∧
    (st.overloaded = true ↔ ¬within [])) ∧
  (∀ (s : State) (u : Station), s.st.comesDue s.st.stc.spacingExpiry u → s.st.overloaded = false →
    ∃ t, exec .spacingExpiry s = .next t ∧ t.pending = s.pending ∧ KeepsOuter u t.st ∧
      (s.st.stc.queue = [] → t.st.stc.queue = [] ∧ t.st.stc.spacingExpiry = none ∧ t.st.pumps = s.st.pumps ∧
        t.st.rkc = s.st.rkc) ∧
      ∀ e es, s.st.stc.queue = e :: es →
        (u.budgetFits e.motor = true → u.spacingElapsed = false →
          t.st.stc.queue = { e with hold := .spacing } :: es ∧ t.st.pumps = s.st.pumps ∧ t.st.rkc = s.st.rkc ∧
          t.st.stc.lastGrant = s.st.stc.lastGrant ∧ t.st.stc.budgetSince = none ∧ t.st.stc.capacityHeld = false) ∧
        (u.budgetFits e.motor = false →
          t.st.stc.queue = { e with hold := .budget } :: es ∧ t.st.pumps = s.st.pumps ∧ t.st.rkc = s.st.rkc ∧
          t.st.stc.lastGrant = s.st.stc.lastGrant ∧
          t.st.stc.budgetSince = some (s.st.stc.budgetSince.getD u.uptime)) ∧
        (u.budgetFits e.motor = true → u.spacingElapsed = true →
          t.st.stc.lastGrant = some u.uptime ∧ t.st.stc.spacingExpiry = some (u.uptime + 10 * s.st.consts.startSpacing) ∧
          (∀ n : PumpNo, e.motor = .pump n → s.st.pumps[n].settings.installed = true → s.st.pumps[n].state = .waiting →
            let a := s.st.pumps[n]
            let b := t.st.pumps[n]
            b.state = .starting ∧ t.st.ctu.pumpRun[n] = true ∧ t.st.queued (.pump n) = false ∧
            b.history = a.history.dropWhile (fun g => decide (g + 36000 < u.uptime)) ++ [u.uptime] ∧
            b.startsToday = min 65535 (a.startsToday + 1) ∧ b.startsTotal = min 4294967295 (a.startsTotal + 1) ∧
            b.demand = a.demand ∧ b.shed = false ∧ b.deferred = .none ∧ b.runLost = a.runLost ∧
            b.timer = some (u.uptime + 10 * a.settings.confirmTime) ∧ t.st.connectedLoad ≤ t.st.activeLimit ∧
            t.st.committedLoad ≤ t.st.activeLimit ∧ ∀ k, k ≠ n → t.st.pumps[k] = s.st.pumps[k]) ∧
          (e.motor = .rake → s.st.rkc.state = .waiting → s.st.settled .torqueTrip = false →
            (s.st.rkc.homing = true → s.st.settled .limTop = false) →
            (s.st.rkc.homing = false → s.st.settled .limBottom = false) →
            t.st.pumps = s.st.pumps ∧ t.st.queued .rake = false ∧ t.st.rkc.retries = s.st.consts.retries ∧
            t.st.rkc.state = (if s.st.rkc.homing then .raising else .lowering) ∧
            t.st.rkc.demand = (s.st.rkc.homing && s.st.rkc.demand) ∧
            t.st.ctu.drive = s.st.ctu.drive.request u.clock t.st.rkc.state.direction ∧
            t.st.connectedLoad ≤ t.st.activeLimit ∧ t.st.committedLoad ≤ t.st.activeLimit))) ∧
  ∀ (s : State) (u : Station), s.st.comesDue s.st.stc.budgetExpiry u → s.st.overloaded = false →
    ∃ t, exec .budgetExpiry s = .next t ∧ t.pending = s.pending ∧ KeepsOuter u t.st ∧
      ∀ e es, s.st.stc.queue = e :: es → u.budgetFits e.motor = false →
        t.st.stc.capacityHeld = true ∧ t.st.alt.points[Alarm.capacityHeld].condition = true ∧
        t.st.stc.budgetSince = s.st.stc.budgetSince ∧ t.st.stc.queue = { e with hold := .budget } :: es ∧
        t.st.pumps = s.st.pumps ∧ t.st.rkc = s.st.rkc

/-! ### Rake (Chapter 7) -/

/-- REQUEST RAKE CYCLE sets the demand and is answered DONE with the rake state after the intake (R120); RESET RAKE is answered by state
(R127). No event waits at the STC (assumption 10: DEDUCED); a rake in IDLE that may wait goes to the queue, or is granted in the event
(R121). A level
update is taken by its DIFF: the demand (R118), the interval length (R119; that an expiry equal to the uptime has passed is assumption
42: DESIGN CHOICE) and the blinding (R130). -/
def Obligations.RakeRequestsAreAnswered : Prop :=
  (∀ (st : Station) (u : LevelUpdate), st.stc.heard = false →
    let k := st.rkc
    let c := st.consts
    let t := st.rakeUpdate u
    let diff : Option Int := match u.w, u.inlet with
      | some w, some i => if u.source = .float then none else some ((i : Int) - w)
      | _, _ => none
    let reaches := fun limit : Nat => match diff with
      | some d => decide ((limit : Int) ≤ d)
      | none => false
    let count := if reaches c.diffHigh then min 600 (k.blindCount + 1) else 0
    let blinded := if reaches c.diffHigh then k.blinded || decide (c.blindCycles ≤ count)
      else reaches c.diffStart && k.blinded
    let minutes := if diff = none then max 1 (c.intervalMin / 4) else c.intervalMin
    let expired := k.shortInterval ≠ diff.isNone ∧ k.intervalOrigin + 600 * minutes ≤ st.uptime
    let taken := { k with
      lastDiff := diff, shortInterval := diff.isNone, blindCount := count, blinded := blinded
      demand := k.demand || reaches c.diffStart || decide expired
      intervalOrigin := if expired then st.uptime else k.intervalOrigin }
    KeepsOuter st t ∧ t.rkc.lastDiff = diff ∧ t.rkc.shortInterval = diff.isNone ∧ t.rkc.blindCount = count ∧
    t.rkc.blinded = blinded ∧ t.rkc.intervalOrigin = taken.intervalOrigin ∧
    (blinded ≠ k.blinded → t.alt.points[Alarm.screenBlinded].condition = blinded) ∧
    (blinded = k.blinded → k.state ≠ .idle ∨ (reaches c.diffStart = false ∧ ¬expired) → t = { st with rkc := taken }) ∧
    (blinded = k.blinded → k.state = .idle → k.homing = false → st.settled .skipFull = false → ¬expired →
      reaches c.diffStart = true → st.rakeQueuedOrGranted t)) ∧
  ∀ (s : State) (p : PortId) (rest ps : List Byte), s.st.admits p .operate (.fixed 0) rest ps → s.st.stc.heard = false →
    let k := s.st.rkc
    (k.state ≠ .idle ∨ (k.homing = false ∧ s.st.settled .skipFull = true) →
      exec (.requestRakeCycle p rest) s = .next (s.replied p rest 0x44 (.done (byte k.state.code)) fun u =>
        { u with rkc := { u.rkc with demand := true } })) ∧
    (k.state = .idle → k.homing = false → s.st.settled .skipFull = false →
      ∃ t, exec (.requestRakeCycle p rest) s = .next t ∧ t.pending = s.pending ∧
        KeepsOuter (s.taken p rest 0x44 (.done (byte t.st.rkc.state.code))) t.st ∧ s.st.rakeQueuedOrGranted t.st) ∧
    (k.state ≠ .jammed ∨ s.st.settled .torqueTrip = true →
      exec (.resetRake p rest) s = .next (s.answered p rest 0x45 .state)) ∧
    (k.state = .jammed → s.st.settled .torqueTrip = false →
      ∃ t, exec (.resetRake p rest) s = .next t ∧ t.pending = s.pending ∧
        KeepsOuter (s.taken p rest 0x45 (.done [])) t.st ∧ t.st.rkc.jamCause = none ∧
        t.st.alt.points[Alarm.rakeJammed].condition = false ∧ t.st.rkc.jamsToday = k.jamsToday ∧
        (s.st.settled .limTop = false → t.st.rkc.homing = true ∧
          ((t.st.rkc.state = .waiting ∧ t.st.queued .rake = true) ∨
            (t.st.rkc.state = .raising ∧ t.st.stc.lastGrant = some s.st.uptime))) ∧
        (s.st.settled .limTop = true → k.homing = false → k.demand = false ∨ s.st.settled .skipFull = true →
          t.st.rkc.state = .idle ∧ t.st.rkc.homing = false ∧ t.st.rkc.demand = k.demand) ∧
        (s.st.settled .limTop = true → k.homing = false → k.demand = true → s.st.settled .skipFull = false →
          s.st.rakeQueuedOrGranted t.st))

/-- The rake's timers (R119, R123 to R126): the travel limits jam it, the reversal ends in a new raise, the dwell counts the cycle and
begins the rest, the rest ends in IDLE or the queue, the interval sets the demand and begins again. A taken change of a limit, of the
torque trip or of the skip contact moves it by its state (R121, R123 to R125, R128), and the settling notice reports SKIP_FULL
(R132). No event waits at the STC (its field heard is the model's: assumption 10, DEDUCED). -/
def Obligations.RakeTimersActAtExpiry : Prop :=
  (∀ (s : State) (i : Input) (swapped : Bool) (u : Station), s.st.changeComesDue i u → s.st.stc.heard = false →
    let k := s.st.rkc
    let v := u.withChange i
    let on := v.settled i
    let c := Instr.debounceExpiry i swapped
    let jams := ∃ t, exec c s = .next t ∧ t.pending = s.pending ∧ KeepsOuter v t.st ∧ t.st.rkc = { k with
        state := .jammed, jamCause := some .torque, homing := false, drivePending := false, timer := none,
        jamsToday := min 65535 (k.jamsToday + 1), stateChange := u.uptime } ∧
      t.st.ctu.drive = s.st.ctu.drive.request u.clock none ∧ t.st.alt.points[Alarm.rakeJammed].condition = true
    let turned := fun (r : Rake) (d : Dir) => exec c s = .next { s with st := { v with
      rkc := { r with stateChange := u.uptime, timer := none, drivePending := true }
      ctu := { v.ctu with drive := .dead (u.clock + 50) (some d) } } }
    let idle := { k with state := .idle, homing := false, stateChange := u.uptime, timer := none, drivePending := false }
    (i = .torqueTrip → on = true →
      (k.state = .lowering ∨ k.state = .reversing ∨ (k.state = .raising ∧ k.retries = 0) → jams) ∧
      (k.state = .raising → k.retries ≠ 0 → s.st.ctu.drive = .driven .up →
        turned { k with state := .reversing, retries := k.retries - 1 } .down)) ∧
    (i = .limBottom → on = true → k.state = .lowering ∨ k.state = .reversing → s.st.ctu.drive = .driven .down →
      turned { k with state := .raising } .up) ∧
    (i = .limTop → on = true → k.state = .raising →
      ∃ t, exec c s = .next t ∧ t.pending = s.pending ∧ KeepsOuter v t.st ∧ t.st.rkc.cyclesTotal = k.cyclesTotal ∧
        t.st.rkc.intervalOrigin = k.intervalOrigin ∧
        (k.homing = false →
          t.st.rkc = { k with
            state := .discharging, stateChange := u.uptime, timer := some (u.uptime + 10 * s.st.consts.dwell)
            drivePending := false } ∧ t.st.ctu.drive = s.st.ctu.drive.request u.clock none) ∧
        (k.homing = true → k.demand = false ∨ s.st.settled .skipFull = true →
          t.st.rkc = idle ∧ t.st.ctu.drive = s.st.ctu.drive.request u.clock none) ∧
        (k.homing = true → k.demand = true → s.st.settled .skipFull = false → v.rakeQueuedOrGranted t.st)) ∧
    ((i = .torqueTrip ∧ (on = false ∨ k.state.inMotion = false)) ∨
        (i = .limBottom ∧ (on = false ∨ (k.state ≠ .lowering ∧ k.state ≠ .reversing))) ∨
        (i = .limTop ∧ (on = false ∨ k.state ≠ .raising)) → exec c s = .next { s with st := v }) ∧
    (i = .skipFull → on = true →
      (k.state = .waiting → k.homing = false →
        ∃ t, exec c s = .next t ∧ t.pending = s.pending ∧ KeepsOuter v t.st ∧ t.st.rkc = idle ∧
          t.st.queued .rake = false ∧ t.st.stc.shedRake = false ∧ t.st.alt.points[Alarm.skipFull].condition = true) ∧
      (k.state ≠ .waiting ∨ k.homing = true → exec c s = .next { s with st := v.report Alarm.skipFull true })) ∧
    (i = .skipFull → on = false →
      (k.state = .idle → k.homing = false → k.demand = true →
        ∃ t, exec c s = .next t ∧ t.pending = s.pending ∧ KeepsOuter v t.st ∧ v.rakeQueuedOrGranted t.st ∧
          t.st.alt.points[Alarm.skipFull].condition = false) ∧
      (k.state ≠ .idle ∨ (k.homing = false ∧ k.demand = false) →
        exec c s = .next { s with st := v.report Alarm.skipFull false }))) ∧
  (∀ (s : State) (i : Input) (swapped : Bool) (u : Station),
    i = .limTop ∨ i = .limBottom ∨ i = .torqueTrip ∨ i = .skipFull → s.st.settlingComesDue i u →
    let v := u.withSettling i
    exec (.firstSettling i swapped) s = .next { s with
      st := if v.rakeSettled then v.report Alarm.skipFull (v.settled .skipFull) else v }) ∧
  ∀ (s : State) (u : Station), s.st.stc.heard = false →
    let k := s.st.rkc
    let jams := fun (t : State) (c : JamCause) =>
      t.pending = s.pending ∧ KeepsOuter u t.st ∧ t.st.rkc = { k with
        state := .jammed, jamCause := some c, homing := false, drivePending := false, timer := none,
        jamsToday := min 65535 (k.jamsToday + 1), stateChange := u.uptime } ∧
      t.st.ctu.drive = s.st.ctu.drive.request u.clock none ∧ t.st.alt.points[Alarm.rakeJammed].condition = true
    (s.st.comesDue (s.st.rakeTimer .lowering) u → ∃ t, exec .lowerTimerExpiry s = .next t ∧ jams t .travelLower) ∧
    (s.st.comesDue (s.st.rakeTimer .raising) u → ∃ t, exec .raiseTimerExpiry s = .next t ∧ jams t .travelRaise) ∧
    (s.st.comesDue (s.st.rakeTimer .reversing) u → s.st.ctu.drive = .driven .down →
      exec .reverseTimerExpiry s = .next { s with st := { u with
        rkc := { k with state := .raising, stateChange := u.uptime, timer := none, drivePending := true }
        ctu := { u.ctu with drive := .dead (u.clock + 50) (some .up) } } }) ∧
    (s.st.comesDue (s.st.rakeTimer .discharging) u →
      ∃ t, exec .dwellExpiry s = .next t ∧ t.pending = s.pending ∧ KeepsOuter u t.st ∧ t.st.pumps = s.st.pumps ∧
        t.st.rkc.state = .resting ∧ t.st.rkc.timer = some (u.uptime + 10 * s.st.consts.restTime) ∧
        t.st.rkc.cyclesToday = min 65535 (k.cyclesToday + 1) ∧
        t.st.rkc.cyclesTotal = min 4294967295 (k.cyclesTotal + 1) ∧ t.st.rkc.lastCycleEnd = some u.uptime ∧
        t.st.rkc.intervalOrigin = u.uptime ∧ (1 ≤ s.st.consts.intervalMin → t.st.rkc.demand = k.demand)) ∧
    (s.st.comesDue (s.st.rakeTimer .resting) u → k.homing = false →
      ∃ t, exec .restTimerExpiry s = .next t ∧ t.pending = s.pending ∧ KeepsOuter u t.st ∧
        (k.demand = false ∨ s.st.settled .skipFull = true →
          t.st.rkc = { k with state := .idle, stateChange := u.uptime, timer := none, drivePending := false } ∧
          t.st.pumps = s.st.pumps) ∧
        (k.demand = true → s.st.settled .skipFull = false → u.rakeQueuedOrGranted t.st)) ∧
    (s.st.comesDue (some s.st.intervalExpiry) u → k.homing = false →
      ∃ t, exec .intervalExpiry s = .next t ∧ t.pending = s.pending ∧ KeepsOuter u t.st ∧
        t.st.rkc.intervalOrigin = u.uptime ∧
        (k.state ≠ .idle ∨ s.st.settled .skipFull = true →
          t.st = { u with rkc := { k with demand := true, intervalOrigin := u.uptime } }) ∧
        (k.state = .idle → s.st.settled .skipFull = false → u.rakeQueuedOrGranted t.st))

/-! ### Overflow and trace (Chapter 8) -/

/-- A level update at the Overflow Monitor: with a head, an onset is tracked until it opens an event, and an open event takes the flow,
the second and the peaks and eases until it closes; without a head, an open event counts a gap (R136 to R140, R142, R143). Once the
volume is saturated each addition sets both flags again (R142), and the accruals go to the daily summary (R144). -/
def Obligations.OverflowFollowsItsUpdates : Prop :=
  ∀ (st : Station) (u : LevelUpdate),
    let o := st.ofm
    let t := st.overflowUpdate u
    let c := st.consts
    let m := st.rpq.summary
    let accrued := fun litres seconds events : Nat => { m with
      overflowVolume := min 16777215 (m.overflowVolume + litres)
      overflowSeconds := min 4294967295 (m.overflowSeconds + seconds), eventsOpened := min 65535 (m.eventsOpened + events) }
    t.ofm.lastHead = u.head ∧ t.ofm.lastFlow = u.qWeir ∧ t.pumps = st.pumps ∧ t.rkc = st.rkc ∧ t.stc = st.stc ∧
    t.dty = st.dty ∧ t.consts = c ∧ t.portA = st.portA ∧ t.portB = st.portB ∧
    (o.state = .quiet ∨ o.state = .onset → u.head = none →
      t = { st with ofm := { o with lastHead := none, lastFlow := u.qWeir } }) ∧
    (∀ head flow, u.head = some head → u.qWeir = some flow →
      (o.state = .quiet ∨ o.state = .onset → head < c.ovfStart →
        t.ofm.state = .quiet ∧ t.ofm.onsetCount = 0 ∧ t.ofm.provisional = 0 ∧ t.ofm.onsetTime = none ∧
        t.ofm.event = o.event ∧ t.rpq = st.rpq) ∧
      (o.state = .quiet → c.ovfStart ≤ head → 1 < c.onCycles →
        t.ofm.state = .onset ∧ t.ofm.onsetCount = 1 ∧ t.ofm.provisional = flow ∧ t.ofm.onsetTime = some u.stationTime ∧
        t.ofm.onsetHead = some head ∧ t.ofm.onsetFlow = some flow ∧ t.rpq = st.rpq) ∧
      (o.state = .onset → c.ovfStart ≤ head → o.onsetCount + 1 < c.onCycles →
        t.ofm.state = .onset ∧ t.ofm.onsetCount = o.onsetCount + 1 ∧ t.ofm.provisional = o.provisional + flow ∧
        t.ofm.onsetTime = o.onsetTime ∧ t.ofm.onsetHead = some (max (o.onsetHead.getD 0) head) ∧
        t.ofm.onsetFlow = some (max (o.onsetFlow.getD 0) flow) ∧ t.rpq = st.rpq) ∧
      (o.state = .quiet → c.ovfStart ≤ head → c.onCycles ≤ 1 →
        t.ofm.state = .spilling ∧ t.ofm.eventCounter = (if 65535 ≤ o.eventCounter then 1 else o.eventCounter + 1) ∧
        t.ofm.onsetCount = 0 ∧ t.ofm.provisional = 0 ∧ t.alt.points[Alarm.overflow].condition = true ∧
        ∃ e, t.ofm.event = some e ∧ e.number = t.ofm.eventCounter ∧ e.isOpen = true ∧ e.openTime = u.stationTime ∧
          e.spillSeconds = 1 ∧ e.gapSeconds = 0 ∧ e.peakHead = head ∧ e.peakFlow = flow ∧ e.volume = flow ∧
          t.rpq.summary = accrued flow 1 1) ∧
      (o.state = .onset → c.ovfStart ≤ head → c.onCycles ≤ o.onsetCount + 1 →
        let number := if 65535 ≤ o.eventCounter then 1 else o.eventCounter + 1
        t.ofm.state = .spilling ∧ t.ofm.eventCounter = number ∧ t.ofm.onsetCount = 0 ∧ t.ofm.provisional = 0 ∧
        t.ofm.event = some {
          number := number, isOpen := true, openTime := o.onsetTime.getD u.stationTime, closeTime := none,
          spillSeconds := o.onsetCount + 1, gapSeconds := 0, peakHead := max (o.onsetHead.getD 0) head,
          peakFlow := max (o.onsetFlow.getD 0) flow, volume := o.provisional + flow, closeReason := none,
          flags := { EventFlags.none with
            capacityHeld := st.stc.capacityHeld, screenBlinded := st.rkc.blinded, levelDegraded := u.source == .float } } ∧
        t.alt.points[Alarm.overflow].condition = true ∧
        t.rpq.summary = accrued (o.provisional + flow) (o.onsetCount + 1) 1 ∧
        (st.trb.state = .live → t.trb.state = .triggered ∧ t.trb.postCount = 64 ∧
          t.trb.triggerUptime = some u.cycleUptime) ∧
        (st.sst.inFlight = none → t.sst.inFlight.isSome = true) ∧
        (st.rpq.queue.length < 60 →
          ∃ r ∈ t.rpq.queue, r.body = .overflowOpen number (o.onsetTime.getD u.stationTime) head)) ∧
      ∀ e, o.event = some e → o.state = .spilling ∨ o.state = .easing →
        ∃ e', t.ofm.event = some e' ∧ e'.number = e.number ∧ e'.openTime = e.openTime ∧
          e'.volume = min 16777215 (e.volume + flow) ∧ e'.spillSeconds = min 4294967295 (e.spillSeconds + 1) ∧
          e'.gapSeconds = e.gapSeconds ∧ e'.peakHead = max e.peakHead head ∧ e'.peakFlow = max e.peakFlow flow ∧
          e'.flags.saturated = (e.flags.saturated || decide (16777215 < e.volume + flow)) ∧
          e'.flags.capacityHeld = (e.flags.capacityHeld || st.stc.capacityHeld) ∧
          e'.flags.screenBlinded = (e.flags.screenBlinded || st.rkc.blinded) ∧
          e'.flags.levelDegraded = (e.flags.levelDegraded || u.source == .float) ∧
          (e'.flags.saturated = true → t.lve.arith.flags.saturated = true) ∧
          t.rpq.summary = accrued (e'.volume - e.volume) 1 0 ∧
          t.ofm.eventCounter = o.eventCounter ∧ t.sst = st.sst ∧ t.trb = st.trb ∧
          let count := if o.state = .easing then o.easingCount + 1 else 1
          (c.ovfEnd ≤ head → t.ofm.state = .spilling ∧ t.ofm.easingCount = 0 ∧ e'.isOpen = e.isOpen) ∧
          (head < c.ovfEnd → count < c.offCycles →
            t.ofm.state = .easing ∧ t.ofm.easingCount = count ∧ e'.isOpen = e.isOpen) ∧
          (head < c.ovfEnd → c.offCycles ≤ count →
            t.ofm.state = .quiet ∧ t.ofm.easingCount = 0 ∧ e'.isOpen = false ∧ e'.closeTime = some u.stationTime ∧
            e'.closeReason = some .normal ∧ t.alt.points[Alarm.overflow].condition = false ∧
            (st.rpq.queue.length < 60 → ∃ r ∈ t.rpq.queue, r.body = .overflowClose e'))) ∧
    ∀ e, o.event = some e → o.state = .spilling ∨ o.state = .easing → u.head = none →
      t.rpq = st.rpq ∧ t.alt = st.alt ∧ t.trb = st.trb ∧ t.sst = st.sst ∧
      t.ofm = { o with
        lastHead := none, lastFlow := u.qWeir
        event := some { e with
          gapSeconds := min 4294967295 (e.gapSeconds + 1)
          flags := { e.flags with
            weirGap := true, capacityHeld := e.flags.capacityHeld || st.stc.capacityHeld
            screenBlinded := e.flags.screenBlinded || st.rkc.blinded
            levelDegraded := e.flags.levelDegraded || u.source == .float } } }

/-- RELEASE TRACE in FROZEN empties the trace and returns it to LIVE, and is answered REFUSED_STATE and changes nothing otherwise. A
trigger moves a LIVE trace alone. An update takes an entry when the divider reaches TRACE_INTERVAL, over the oldest of 256; entries
later than the trigger count down from 64 to FROZEN, in which nothing changes (R147 to R149). -/
def Obligations.TraceRecordsFreezesAndReleases : Prop :=
  (∀ (s : State) (p : PortId) (rest ps : List Byte), s.st.admits p .ack (.fixed 0) rest ps →
    (s.st.trb.state = .frozen → exec (.releaseTrace p rest) s =
      .next (s.replied p rest 0x23 (.done []) fun u => { u with trb := ⟨[], .live, 0, none, 0⟩ })) ∧
    (s.st.trb.state ≠ .frozen → exec (.releaseTrace p rest) s = .next (s.answered p rest 0x23 .state))) ∧
  (∀ (st : Station) (now : Nat),
    (st.trb.state = .live → st.triggerTrace now = { st with trb := { st.trb with
      state := .triggered, postCount := 64, triggerUptime := some now } }) ∧
    (st.trb.state ≠ .live → st.triggerTrace now = st)) ∧
  ∀ (st : Station) (u : LevelUpdate),
    let b := st.trb
    let t := st.traceUpdate u
    let after := b.entries.drop (if b.entries.length < 256 then 0 else 1) ++ [st.traceEntry u]
    t = { st with trb := t.trb } ∧ (b.state = .frozen → t.trb = b) ∧
    (b.state ≠ .frozen → b.divider + 1 < st.consts.traceInterval → t.trb = { b with divider := b.divider + 1 }) ∧
    (b.state ≠ .frozen → st.consts.traceInterval ≤ b.divider + 1 →
      t.trb.entries = after ∧ t.trb.divider = 0 ∧ t.trb.triggerUptime = b.triggerUptime ∧
      (b.safe → t.trb.safe) ∧
      (b.state = .live → t.trb.state = .live ∧ t.trb.postCount = b.postCount) ∧
      ∀ g, b.state = .triggered → b.triggerUptime = some g →
        (u.cycleUptime ≤ g → t.trb.state = .triggered ∧ t.trb.postCount = b.postCount) ∧
        (g < u.cycleUptime → t.trb.postCount = b.postCount - 1 ∧
          t.trb.state = (if b.postCount ≤ 1 then .frozen else .triggered)))

/-! ### Alarms (Chapter 9) -/

/-- Table 9-2 at a report: one equal to the condition held changes nothing; one that differs moves the point, stamps it, counts a rise,
adds the point to the pending sets whose masks select the transition, creates an ALARM_CHANGE record and has the beacon demand judged
again (R154, R155, R158, R159). Every other point stays. -/
def Obligations.ReportsMoveAlarmPoints : Prop :=
  ∀ (st : Station) (k : PointNo) (on : Bool),
    let a := st.alt.points[k]
    let t := st.report k on
    let b := t.alt.points[k]
    KeepsControl st t ∧ (a.condition = on → t = st) ∧ (∀ j, j ≠ k → t.alt.points[j] = st.alt.points[j]) ∧
    (a.condition ≠ on →
      b.condition = on ∧ b.lastChange = st.rpq.stationTime ∧
      (on = true → b.firstActive = st.rpq.stationTime ∧ b.occurrences = min 255 (a.occurrences + 1) ∧
        (a.state = .normal ∨ a.state = .clearedUnack → b.state = .activeUnack)) ∧
      (on = false → b.firstActive = a.firstActive ∧ b.occurrences = a.occurrences ∧
        (a.state = .activeUnack → b.state = .clearedUnack) ∧ (a.state = .activeAck → b.state = .normal)) ∧
      t.rpq = { st.rpq with
        queue := addRecord st.rpq.queue ⟨st.rpq.nextSeq, st.rpq.stationTime, .alarmChange k b.state⟩
        nextSeq := (st.rpq.nextSeq + 1) % 65536 } ∧
      (t.alt.beaconDemand = true ↔
        ∃ j : PointNo, t.alt.points[j].state = .activeUnack ∧ st.consts.priorities[j] = 1) ∧
      (t.alt.beaconDemand ≠ st.alt.beaconDemand → t.ctu.beacon = t.alt.beaconDemand) ∧
      ∀ p : PortId, (t.alt.attn p).rise = (st.alt.attn p).rise ∧ (t.alt.attn p).fall = (st.alt.attn p).fall ∧
        ∀ j : PointNo, (t.alt.attn p).pending.getLsbD j.val = ((st.alt.attn p).pending.getLsbD j.val ||
          (j == k && (if on then (st.alt.attn p).rise else (st.alt.attn p).fall).getLsbD j.val)))

/-- ACK ALARM moves each point that it names by the ACK column of Table 9-2 and is answered with the number moved; CLEAR ATTENTION takes
the points from the presenting port's pending set; SET ATTENTION MASKS loads that port's masks. A list with a number outside 1 to 32,
or with more than 32, is answered REFUSED_RANGE and changes nothing (R156, R160). A port's attention line is asserted exactly while its
pending set is not empty, or its slot holds a final reply unread since it turned from PENDING, or its threshold is not 0 and the queue
holds as many records (R161); no line is asserted while the part is held in reset (R187). A rise or a fall that a mask selects asserts
it, and so does the turn of a PENDING reply to a final one; a reply that is final at intake does not. That SET ATTENTION MASKS carries
the rise mask before the fall mask is assumption 39: DESIGN CHOICE; that the port holds which
request its PENDING reply belongs to, assumption 28: DEDUCED. -/
def Obligations.AlarmRequestsAct : Prop :=
  (∀ (st : Station) (p : PortId),
    let q := st.port p
    let threshold := match p with
      | .a => st.consts.thresholdA
      | .b => st.consts.thresholdB
    (st.attention p = true ↔ st.held = false ∧
      ((∃ k : PointNo, (st.alt.attn p).pending.getLsbD k.val = true) ∨
        (q.slot.status ≠ .none ∧ q.slot.status ≠ .pending ∧ q.readInd = false) ∨
        (threshold ≠ 0 ∧ threshold ≤ st.rpq.queue.length))) ∧
    (∀ (k : PointNo) (on : Bool), st.held = false → st.alt.points[k].condition ≠ on →
      (if on then (st.alt.attn p).rise else (st.alt.attn p).fall).getLsbD k.val = true →
      (st.report k on).attention p = true) ∧
    (∀ (req : PendingRequest) (status : ReplyStatus) (data : List Byte), status ≠ .none → status ≠ .pending →
      st.held = false → q.slot.status = .pending → q.awaits = some req →
      (st.finalise p req status data).attention p = true) ∧
    ∀ (code : Byte) (r : Reply), (st.alt.attn p).pending = 0 → st.rpq.queue = [] →
      (st.putReply p code r).attention p = false) ∧
  (∀ (s : State) (p : PortId) (rest list : List Byte) (c : Byte), s.st.admits p .ack (.counted 0 1) rest (c :: list) →
    let named := fun k : PointNo => list = [] ∨ BitVec.ofNat 8 (k.val + 1) ∈ list
    let other := fun q : PortId => if q = .a then PortId.b else .a
    (32 < list.length ∨ (∃ b ∈ list, b.toNat < 1 ∨ 32 < b.toNat) →
      exec (.ackAlarm p rest) s = .next (s.answered p rest 0x20 .range) ∧
      exec (.clearAttention p rest) s = .next (s.answered p rest 0x21 .range)) ∧
    (list.length ≤ 32 → (∀ b ∈ list, 1 ≤ b.toNat ∧ b.toNat ≤ 32) →
      (∃ (t : State) (moved : Nat), exec (.ackAlarm p rest) s = .next t ∧ t.pending = s.pending ∧
        KeepsControl s.st t.st ∧ (t.st.port p).slot = ⟨.done, 0x20, byte moved⟩ ∧
        moved = allPoints.countP (fun k => t.st.alt.points[k].state != s.st.alt.points[k].state) ∧
        (∀ q, t.st.alt.attn q = s.st.alt.attn q) ∧
        ∀ k : PointNo,
          (named k → t.st.alt.points[k].state = (match s.st.alt.points[k].state with
            | .activeUnack => .activeAck
            | .clearedUnack => .normal
            | .normal => .normal
            | .activeAck => .activeAck)) ∧
          (t.st.alt.points[k].condition = s.st.alt.points[k].condition ∧
            t.st.alt.points[k].occurrences = s.st.alt.points[k].occurrences) ∧
          (¬named k → t.st.alt.points[k] = s.st.alt.points[k])) ∧
      ∃ left : BitVec 32,
        (∀ k : PointNo, (named k → left.getLsbD k.val = false) ∧
          (¬named k → left.getLsbD k.val = (s.st.alt.attn p).pending.getLsbD k.val)) ∧
        exec (.clearAttention p rest) s = .next (s.replied p rest 0x21 (.done (be 4 left.toNat)) fun u =>
          { u with alt := u.alt.setAttn { u.alt.attn p with pending := left } p }) ∧
        ∀ r : Attention, (s.st.alt.setAttn r p).attn (other p) = s.st.alt.attn (other p))) ∧
  ∀ (s : State) (p : PortId) (rest ps : List Byte), s.st.admits p .ack (.fixed 8) rest ps →
    exec (.setAttentionMasks p rest) s = .next (s.replied p rest 0x22 (.done []) fun u =>
      { u with alt := u.alt.setAttn { u.alt.attn p with
        rise := BitVec.ofNat 32 (ofBe (ps.take 4)), fall := BitVec.ofNat 32 (ofBe (ps.drop 4)) } p })

/-! ### Station clock and reports (Chapter 10) -/

/-- STATION_TIME_ADVANCE adds a second to station time, a run second to each installed pump whose RUN_FB is on, and the seconds of R168;
at a multiple of 86,400 it closes the day, begins the next summary and triggers a store write (R112, R164, R167). SET CLOCK loads
station time, marks the summary or closes it, creates its STATION record and marks an open event (R165). The DAILY record of a close
carries the summary with EVENT_OPEN_AT_END fixed, and each pump's starts, run seconds and pumped volume, rounded in the mode in force
and held with the starts at 65,535, which sets SATURATED, and the rake's cycles and jams (R166). The accruals of the second count on the
day that closes or on the next, as the order taken gives (R167; assumption 8: DESIGN CHOICE). -/
def Obligations.StationTimeAdvancesAndIsSet : Prop :=
  (∀ (s : State) (u : Station) (first : Bool), s.st.comesDue (some s.st.rpq.nextSecond) u →
    let now := (s.st.rpq.stationTime + 1) % 4294967296
    let m := s.st.rpq.summary
    let runs := fun n : PumpNo => s.st.pumps[n].settings.installed && s.st.settled (.runFb n)
    let ran := fun (n : PumpNo) (seconds : Nat) => if runs n then min 4294967295 (seconds + 1) else seconds
    let accrued := fun x : Summary => { x with
      genSeconds := if s.st.settled .genRun then min 4294967295 (x.genSeconds + 1) else x.genSeconds
      budgetSeconds := if s.st.stc.budgetHeld then min 4294967295 (x.budgetSeconds + 1) else x.budgetSeconds }
    let closing := if first then m else accrued m
    let seconds := fun n : PumpNo => if first then s.st.pumps[n].runToday else ran n s.st.pumps[n].runToday
    let begun := Summary.begun (now / 86400) s.st.rpq.clockNotSet false
    ∃ t, exec (.stationTimeAdvance first) s = .next t ∧ t.pending = s.pending ∧ t.st.clock = u.clock ∧
      t.st.rpq.stationTime = now ∧ t.st.rpq.nextSecond = s.st.rpq.nextSecond + 10 ∧ t.st.stc = s.st.stc ∧
      t.st.dty = s.st.dty ∧ t.st.ofm = s.st.ofm ∧ t.st.trb = s.st.trb ∧ t.st.crv = s.st.crv ∧ t.st.consts = s.st.consts ∧
      t.st.portA = s.st.portA ∧ t.st.portB = s.st.portB ∧ (∀ i, t.st.ctu.input i = s.st.ctu.input i) ∧
      t.st.ctu.pumpRun = s.st.ctu.pumpRun ∧ t.st.ctu.drive = s.st.ctu.drive ∧
      (∀ n : PumpNo, t.st.pumps[n].state = s.st.pumps[n].state ∧ t.st.pumps[n].startsTotal = s.st.pumps[n].startsTotal ∧
        t.st.pumps[n].runTotal = (if s.st.pumps[n].settings.installed = true ∧ s.st.settled (.runFb n) = true
          then min 4294967295 (s.st.pumps[n].runTotal + 1) else s.st.pumps[n].runTotal)) ∧
      (now % 86400 ≠ 0 →
        t.st.rpq.queue = s.st.rpq.queue ∧ t.st.alt = s.st.alt ∧ t.st.sst = s.st.sst ∧ t.st.lve = s.st.lve ∧
        t.st.rkc = s.st.rkc ∧
        t.st.rpq.summary = accrued m ∧
        ∀ n : PumpNo, t.st.pumps[n].startsToday = s.st.pumps[n].startsToday ∧
          t.st.pumps[n].runToday = ran n s.st.pumps[n].runToday) ∧
      (now % 86400 = 0 →
        t.st.rpq.summary = (if first then accrued begun else begun) ∧
        begun.day = now / 86400 ∧ begun.partialDay = false ∧ begun.clockNotSet = s.st.rpq.clockNotSet ∧
        begun.clockChanged = false ∧ begun.overflowVolume = 0 ∧ begun.maxW = none ∧
        t.st.rkc = { s.st.rkc with cyclesToday := 0, jamsToday := 0 } ∧
        (∀ n : PumpNo, t.st.pumps[n].startsToday = 0 ∧ t.st.pumps[n].runToday = if first then ran n 0 else 0) ∧
        (s.st.sst.inFlight = none → t.st.sst.inFlight.isSome = true) ∧
        (s.st.sst.inFlight ≠ none → t.st.sst.followUp = true) ∧
        (s.st.overfullDay seconds → t.st.lve.arith.flags.saturated = true) ∧
        (s.st.rpq.queue.length < 60 →
          ∃ r ∈ t.st.rpq.queue, r.body = .daily (s.st.closedDay closing seconds) ∧ r.created = now))) ∧
  ∀ (s : State) (p : PortId) (rest ps : List Byte), s.st.admits p .report (.fixed 4) rest ps →
    let new := ofBe ps
    let old := s.st.rpq.stationTime
    ∃ t, exec (.setClock p rest) s = .next t ∧ t.pending = s.pending ∧
      (t.st.port p).slot = ⟨.done, 0x81, be 4 old ++ be 4 new⟩ ∧ t.st.rpq.stationTime = new ∧
      t.st.rpq.clockNotSet = false ∧ t.st.rpq.nextSecond = s.st.rpq.nextSecond ∧ t.st.clock = s.st.clock ∧
      t.st.sst = s.st.sst ∧ t.st.stc = s.st.stc ∧ t.st.dty = s.st.dty ∧ t.st.trb = s.st.trb ∧
      (∀ n : PumpNo, t.st.pumps[n].history = s.st.pumps[n].history ∧ t.st.pumps[n].state = s.st.pumps[n].state) ∧
      (s.st.rpq.queue.length < 60 →
        ∃ r, t.st.rpq.queue.getLast? = some r ∧ r.body = .station (.clockSet old new) ∧ r.created = new) ∧
      (new / 86400 = old / 86400 → t.st.rpq.summary = { s.st.rpq.summary with clockChanged := true } ∧
        t.st.pumps = s.st.pumps ∧ t.st.rkc = s.st.rkc ∧ t.st.rpq.nextSeq = (s.st.rpq.nextSeq + 1) % 65536) ∧
      (new / 86400 ≠ old / 86400 → t.st.rpq.summary = .begun (new / 86400) false true ∧ t.st.rkc.cyclesToday = 0 ∧
        (∀ n : PumpNo, t.st.pumps[n].startsToday = 0 ∧ t.st.pumps[n].runToday = 0) ∧
        (let seconds := fun n : PumpNo => s.st.pumps[n].runToday
         (s.st.overfullDay seconds → t.st.lve.arith.flags.saturated = true) ∧
         (s.st.rpq.queue.length < 60 → ∃ r ∈ t.st.rpq.queue, r.created = old ∧
          r.body = .daily (s.st.closedDay { s.st.rpq.summary with clockChanged := true } seconds)))) ∧
      (∀ e, s.st.ofm.event = some e → s.st.ofm.state = .spilling ∨ s.st.ofm.state = .easing →
        t.st.ofm.event = some { e with flags := { e.flags with clockChanged := true } })

/-- TAKE REPORT carries a sequence number. With the queue empty it is answered REFUSED_STATE; when the oldest record has that number the
record is removed and the reply is DONE with the number and the new count; otherwise it is answered REFUSED_STALE with the oldest
number and the count, and the queue is unchanged. Only the oldest record is removed; at a full queue of 64, taken first it leaves room
for an addition (R173). -/
def Obligations.TakeReportRemovesTheOldest : Prop :=
  (∀ (s : State) (p : PortId) (rest ps : List Byte), s.st.admits p .report (.fixed 2) rest ps →
    let n := ofBe ps
    (s.st.rpq.queue = [] → exec (.takeReport p rest) s = .next (s.answered p rest 0x80 .state)) ∧
    ∀ r rs, s.st.rpq.queue = r :: rs →
      (r.seq = n → exec (.takeReport p rest) s = .next (s.replied p rest 0x80 (.done (be 2 n ++ byte rs.length)) fun u =>
        { u with rpq := { u.rpq with queue := rs } })) ∧
      (r.seq ≠ n → exec (.takeReport p rest) s =
        .next (s.answered p rest 0x80 (.final .refusedStale (be 2 r.seq ++ byte (r :: rs).length))))) ∧
  ∀ (r : Report) (rs : List Report), (rs.length < 64 → addRecord rs r = rs ++ [r]) ∧
    (rs.length = 64 → ∀ c, lowestClass rs = some c →
      (r.body.cls < c → addRecord rs r = rs) ∧
      (c ≤ r.body.cls → ∃ before x after, rs = before ++ x :: after ∧ x.body.cls = c ∧ (∀ y ∈ before, y.body.cls ≠ c) ∧
        (∀ y ∈ rs, c ≤ y.body.cls) ∧ addRecord rs r = before ++ after ++ [r]))

/-! ### Settings Store (section 11.5) -/

/-- SAVE SETTINGS is answered PENDING: it begins a write of every item, or marks a follow-up behind the write in flight, and sets the
port's coverage. STORE_WRITE_END judges the image read back, finalises the saves that the write covered, and begins the follow-up
write or ends the flight (R184, R185). The damage found as a difference of the check word is assumption 15 (DESIGN CHOICE), the count of
writes that rises at a failed one assumption 16 (DEDUCED), the failed indication as the byte 1 assumption 17 (DESIGN CHOICE), and that
the port holds which request its PENDING reply belongs to, assumption 28 (DEDUCED). -/
def Obligations.SavesAreWrittenAndAnswered : Prop :=
  (∀ (s : State) (p : PortId) (rest ps : List Byte), s.st.admits p .configure (.fixed 0) rest ps →
    (s.st.sst.inFlight = none →
      exec (.saveSettings p rest) s = .next (s.replied p rest 0x69 ⟨.pending, [], some .save⟩ fun u =>
        { u with sst := ({ u.sst with
          image := { u.sst.image with writeMark := true }
          inFlight := some ⟨s.st.storedItems, s.st.uptime + 12⟩ } : Store).setCover .current p })) ∧
    (s.st.sst.inFlight ≠ none →
      exec (.saveSettings p rest) s = .next (s.replied p rest 0x69 ⟨.pending, [], some .save⟩ fun u =>
        { u with sst := ({ u.sst with followUp := true } : Store).setCover .followUp p }))) ∧
  ∀ (s : State) (w : StoreWrite) (defect : BitVec 16), s.st.held = false → s.st.sst.inFlight = some w →
    let writes := min 65535 (s.st.sst.writes + 1)
    let next := fun c : Coverage => match c with
      | .current => Coverage.none
      | .followUp => if s.st.sst.followUp then .current else .followUp
      | .none => .none
    ∃ t, exec (.storeWriteEnd defect) s = .next t ∧ t.pending = s.pending ∧ t.st.clock = s.st.clock ∧
      t.st.sst.writes = writes ∧ t.st.sst.outcome = (if defect = 0 then .done else .failed) ∧
      t.st.sst.image.items = w.items ∧ t.st.sst.followUp = false ∧ t.st.storedItems = s.st.storedItems ∧
      (s.st.sst.followUp = false → t.st.sst.inFlight = none ∧ t.st.sst.image.sound = decide (defect = 0)) ∧
      (s.st.sst.followUp = true →
        t.st.sst.inFlight = some ⟨s.st.storedItems, s.st.uptime + 12⟩ ∧ t.st.sst.image.writeMark = true) ∧
      (defect = 0 → t.st.alt.points[Alarm.settingsDefault].condition = false) ∧
      (defect ≠ 0 → t.st.alt = s.st.alt ∧ t.st.rpq = s.st.rpq) ∧
      t.st.pumps = s.st.pumps ∧ t.st.stc = s.st.stc ∧ t.st.rkc = s.st.rkc ∧ t.st.lve = s.st.lve ∧
      (∀ i, t.st.ctu.input i = s.st.ctu.input i) ∧
      ∀ p : PortId, t.st.sst.cover p = next (s.st.sst.cover p) ∧
        (s.st.sst.cover p ≠ .current → t.st.port p = s.st.port p) ∧
        (s.st.sst.cover p = .current → (s.st.port p).slot.status = .pending → (s.st.port p).awaits = some .save →
          (t.st.port p).slot = (if defect = 0 then ⟨.done, (s.st.port p).slot.code, be 2 writes⟩
            else ⟨.refusedState, (s.st.port p).slot.code, flagByte true⟩) ∧ (t.st.port p).readInd = false)

/-- WRITE STATION CONSTANTS is judged whole by the 58 tests in the order of R182: the first that fails is named and no constant changes;
accepted, every constant is replaced, the beacon demand is judged with the new priorities, and the active limit and the committed load
follow (R80, R82, R86, R158, R182). The owners' order is assumption 25: DEDUCED. Of the two premises, loadSafe has no event waiting at the
STC (heard: assumption 10, DEDUCED), and tableSafe speaks once all seven STC contacts have settled (assumption 26: DEDUCED). -/
def Obligations.ConstantsAreJudgedThenTaken : Prop :=
  (∀ c : Constants, c.checks.length = 58 ∧
    (firstFailing c.checks = none ↔ c.checks.all id = true) ∧
    ∀ k, firstFailing c.checks = some k → 1 ≤ k ∧ k ≤ 58 ∧ c.checks[k - 1]? = some false ∧
      ∀ j, j + 1 < k → c.checks[j]? = some true) ∧
  ∀ (s : State) (p : PortId) (rest ps : List Byte), s.st.admits p .configure (.fixed 74) rest ps →
    let c := Constants.ofValues (readFields Constants.widths ps)
    (∀ k, firstFailing c.checks = some k →
      exec (.writeStationConstants p rest) s = .next (s.answered p rest 0x63 (.final .refusedRange (byte k)))) ∧
    (firstFailing c.checks = none →
      ∃ t, exec (.writeStationConstants p rest) s = .next t ∧ t.pending = s.pending ∧ t.st.consts = c ∧
        (t.st.port p).slot = ⟨.done, 0x63, []⟩ ∧ t.st.clock = s.st.clock ∧ t.st.lve = s.st.lve ∧ t.st.crv = s.st.crv ∧
        t.st.ofm = s.st.ofm ∧ t.st.trb = s.st.trb ∧ t.st.sst = s.st.sst ∧ (∀ i, t.st.ctu.input i = s.st.ctu.input i) ∧
        t.st.ctu.selectors = s.st.ctu.selectors ∧
        (t.st.alt.beaconDemand = true ↔ ∃ j : PointNo, t.st.alt.points[j].state = .activeUnack ∧ c.priorities[j] = 1) ∧
        (s.st.tableSafe → t.st.tableSafe) ∧ (s.st.loadSafe → t.st.committedLoad ≤ t.st.activeLimit) ∧
        ∀ n : PumpNo, t.st.pumps[n].settings = s.st.pumps[n].settings)

/-! ### What every step keeps -/

/-- A PUMP_RUN output is on only while its pump is in STARTING or RUNNING, and the pump records keep Table 6-1 (R92 to R96, R110). -/
def Obligations.OutputsFollowPumpStates : Prop := KeptByEveryStep Station.pumpsSafe

/-- After every event the committed load does not exceed the active limit, over a rotation list that holds each installed pump once, and
no motor stands twice in the start queue, and no entry behind the head has a hold reason (R60, R75, R79, R80, R82). Once all seven STC
contacts have settled, and not before (assumption 26: DEDUCED), the active limit is that of the settled GEN_RUN and the motor table
shows every RUN_FB as settled, which it takes at the change's taking (assumption 12: DEDUCED). The first invariant also says that no
event waits at the STC: its field heard is the model's own (assumption 10: DEDUCED), and the shed passes of one event go on until the
loads fit (assumption 11: DEDUCED). -/
def Obligations.CommittedLoadStaysWithinTheLimit : Prop :=
  KeptByEveryStep Station.loadSafe ∧ KeptByEveryStep Station.tableSafe ∧ KeptByEveryStep Station.queueSafe

/-- Between two grants lies at least START_SPACING as it stands at the later one, but for a power-up (R81). A direction output turns on
only from CLEAR or at the end of a dead interval, and a turn-off begins one of 0.5 s, fifty steps of the clock (R53). -/
def Obligations.GrantsAndDirectionsAreSpaced : Prop :=
  (∀ (c : Instr) (s t : State) (a b : Nat), c ≠ .powerUp → exec c s = .next t → s.st.stc.lastGrant = some a →
    t.st.stc.lastGrant = some b → a = b ∨ (a + 10 * t.st.consts.startSpacing ≤ b ∧ b = t.st.uptime)) ∧
  ∀ (c : Instr) (s t : State) (d : Dir), exec c s = .next t →
    (t.st.ctu.drive = .driven d →
      s.st.ctu.drive = .driven d ∨ s.st.ctu.drive = .clear ∨ ∃ e w, s.st.ctu.drive = .dead e w ∧ e ≤ t.st.clock) ∧
    (s.st.ctu.drive = .driven d → c ≠ .powerUp → c ≠ .resetHold →
      t.st.ctu.drive = .driven d ∨ ∃ w, t.st.ctu.drive = .dead (t.st.clock + 50) w)

/-- Every alarm point stands as Table 9-2 allows, and the beacon demand and the BEACON output follow the points of priority 1
(R55, R153, R154, R158). -/
def Obligations.AlarmTableStaysSound : Prop := KeptByEveryStep Station.alarmsSafe

/-- The active copy of each curve is valid at all times, the shadow of a pending curve is valid, and a shadow's count is at most 16 (R28,
R29, R39, R40, R43). -/
def Obligations.ActiveCurvesStayValid : Prop := KeptByEveryStep Station.curvesSafe

/-- The report queue never holds more than 64 records (R170), and sequence numbers stay in 16 bits (R169). The trace holds no more than 256
entries, and its state agrees with its post-trigger count and trigger uptime (R147, R148). A slot is PENDING exactly while the port
holds in its field awaits which request that reply belongs to: the field is the model's own, assumption 28 (DEDUCED). A PENDING slot
carries no unread final reply, and a slot at NONE has code 0 and no data (R178); a trace window keeps s ≤ next ≤ e ≤ 255 (R150). Every
channel's settings, filter state, level and run counts, the disagreement run and the inflow ring stay in their ranges (R4, R5). -/
def Obligations.BuffersStayWithinTheirBounds : Prop :=
  KeptByEveryStep Station.reportsSafe ∧ KeptByEveryStep Station.portsSafe ∧ KeptByEveryStep Station.levelSafe
end

