-- ==== Sys2Proof/Laws/State.lean ====
section
/-! SUPPORT. One lemma per field of the station and named update: the field the update writes has its new value, every other
field stays. -/

namespace Sys2Proof.Machine

variable (st : Station)

/-! `Station.setPump` -/

@[simp] theorem Station.setPump_held (n : PumpNo) (p : PumpRec) : (st.setPump n p).held = st.held := rfl
@[simp] theorem Station.setPump_clock (n : PumpNo) (p : PumpRec) : (st.setPump n p).clock = st.clock := rfl
@[simp] theorem Station.setPump_lve (n : PumpNo) (p : PumpRec) : (st.setPump n p).lve = st.lve := rfl
@[simp] theorem Station.setPump_crv (n : PumpNo) (p : PumpRec) : (st.setPump n p).crv = st.crv := rfl
@[simp] theorem Station.setPump_ctu (n : PumpNo) (p : PumpRec) : (st.setPump n p).ctu = st.ctu := rfl
@[simp] theorem Station.setPump_dty (n : PumpNo) (p : PumpRec) : (st.setPump n p).dty = st.dty := rfl
@[simp] theorem Station.setPump_stc (n : PumpNo) (p : PumpRec) : (st.setPump n p).stc = st.stc := rfl
@[simp] theorem Station.setPump_pumps (n : PumpNo) (p : PumpRec) : (st.setPump n p).pumps = st.pumps.set n p := rfl
@[simp] theorem Station.setPump_rkc (n : PumpNo) (p : PumpRec) : (st.setPump n p).rkc = st.rkc := rfl
@[simp] theorem Station.setPump_ofm (n : PumpNo) (p : PumpRec) : (st.setPump n p).ofm = st.ofm := rfl
@[simp] theorem Station.setPump_trb (n : PumpNo) (p : PumpRec) : (st.setPump n p).trb = st.trb := rfl
@[simp] theorem Station.setPump_alt (n : PumpNo) (p : PumpRec) : (st.setPump n p).alt = st.alt := rfl
@[simp] theorem Station.setPump_rpq (n : PumpNo) (p : PumpRec) : (st.setPump n p).rpq = st.rpq := rfl
@[simp] theorem Station.setPump_portA (n : PumpNo) (p : PumpRec) : (st.setPump n p).portA = st.portA := rfl
@[simp] theorem Station.setPump_portB (n : PumpNo) (p : PumpRec) : (st.setPump n p).portB = st.portB := rfl
@[simp] theorem Station.setPump_consts (n : PumpNo) (p : PumpRec) : (st.setPump n p).consts = st.consts := rfl
@[simp] theorem Station.setPump_sst (n : PumpNo) (p : PumpRec) : (st.setPump n p).sst = st.sst := rfl
@[simp] theorem Station.setPump_draws (n : PumpNo) (p : PumpRec) : (st.setPump n p).draws = st.draws := rfl

/-! `Station.setInput` -/

@[simp] theorem Station.setInput_held (i : Input) (r : InputRec) : (st.setInput i r).held = st.held := rfl
@[simp] theorem Station.setInput_clock (i : Input) (r : InputRec) : (st.setInput i r).clock = st.clock := rfl
@[simp] theorem Station.setInput_lve (i : Input) (r : InputRec) : (st.setInput i r).lve = st.lve := rfl
@[simp] theorem Station.setInput_crv (i : Input) (r : InputRec) : (st.setInput i r).crv = st.crv := rfl
@[simp] theorem Station.setInput_ctu (i : Input) (r : InputRec) : (st.setInput i r).ctu = st.ctu.setInput r i := rfl
@[simp] theorem Station.setInput_dty (i : Input) (r : InputRec) : (st.setInput i r).dty = st.dty := rfl
@[simp] theorem Station.setInput_stc (i : Input) (r : InputRec) : (st.setInput i r).stc = st.stc := rfl
@[simp] theorem Station.setInput_pumps (i : Input) (r : InputRec) : (st.setInput i r).pumps = st.pumps := rfl
@[simp] theorem Station.setInput_rkc (i : Input) (r : InputRec) : (st.setInput i r).rkc = st.rkc := rfl
@[simp] theorem Station.setInput_ofm (i : Input) (r : InputRec) : (st.setInput i r).ofm = st.ofm := rfl
@[simp] theorem Station.setInput_trb (i : Input) (r : InputRec) : (st.setInput i r).trb = st.trb := rfl
@[simp] theorem Station.setInput_alt (i : Input) (r : InputRec) : (st.setInput i r).alt = st.alt := rfl
@[simp] theorem Station.setInput_rpq (i : Input) (r : InputRec) : (st.setInput i r).rpq = st.rpq := rfl
@[simp] theorem Station.setInput_portA (i : Input) (r : InputRec) : (st.setInput i r).portA = st.portA := rfl
@[simp] theorem Station.setInput_portB (i : Input) (r : InputRec) : (st.setInput i r).portB = st.portB := rfl
@[simp] theorem Station.setInput_consts (i : Input) (r : InputRec) : (st.setInput i r).consts = st.consts := rfl
@[simp] theorem Station.setInput_sst (i : Input) (r : InputRec) : (st.setInput i r).sst = st.sst := rfl
@[simp] theorem Station.setInput_draws (i : Input) (r : InputRec) : (st.setInput i r).draws = st.draws := rfl

/-! `Station.setSelector` -/

@[simp] theorem Station.setSelector_held (n : PumpNo) (s : Selector) : (st.setSelector n s).held = st.held := rfl
@[simp] theorem Station.setSelector_clock (n : PumpNo) (s : Selector) : (st.setSelector n s).clock = st.clock := rfl
@[simp] theorem Station.setSelector_lve (n : PumpNo) (s : Selector) : (st.setSelector n s).lve = st.lve := rfl
@[simp] theorem Station.setSelector_crv (n : PumpNo) (s : Selector) : (st.setSelector n s).crv = st.crv := rfl
@[simp] theorem Station.setSelector_ctu (n : PumpNo) (s : Selector) : (st.setSelector n s).ctu = { st.ctu with selectors := st.ctu.selectors.set n s } := rfl
@[simp] theorem Station.setSelector_dty (n : PumpNo) (s : Selector) : (st.setSelector n s).dty = st.dty := rfl
@[simp] theorem Station.setSelector_stc (n : PumpNo) (s : Selector) : (st.setSelector n s).stc = st.stc := rfl
@[simp] theorem Station.setSelector_pumps (n : PumpNo) (s : Selector) : (st.setSelector n s).pumps = st.pumps := rfl
@[simp] theorem Station.setSelector_rkc (n : PumpNo) (s : Selector) : (st.setSelector n s).rkc = st.rkc := rfl
@[simp] theorem Station.setSelector_ofm (n : PumpNo) (s : Selector) : (st.setSelector n s).ofm = st.ofm := rfl
@[simp] theorem Station.setSelector_trb (n : PumpNo) (s : Selector) : (st.setSelector n s).trb = st.trb := rfl
@[simp] theorem Station.setSelector_alt (n : PumpNo) (s : Selector) : (st.setSelector n s).alt = st.alt := rfl
@[simp] theorem Station.setSelector_rpq (n : PumpNo) (s : Selector) : (st.setSelector n s).rpq = st.rpq := rfl
@[simp] theorem Station.setSelector_portA (n : PumpNo) (s : Selector) : (st.setSelector n s).portA = st.portA := rfl
@[simp] theorem Station.setSelector_portB (n : PumpNo) (s : Selector) : (st.setSelector n s).portB = st.portB := rfl
@[simp] theorem Station.setSelector_consts (n : PumpNo) (s : Selector) : (st.setSelector n s).consts = st.consts := rfl
@[simp] theorem Station.setSelector_sst (n : PumpNo) (s : Selector) : (st.setSelector n s).sst = st.sst := rfl
@[simp] theorem Station.setSelector_draws (n : PumpNo) (s : Selector) : (st.setSelector n s).draws = st.draws := rfl

/-! `Station.setCurve` -/

@[simp] theorem Station.setCurve_held (id : CurveId) (c : Curve) : (st.setCurve id c).held = st.held := rfl
@[simp] theorem Station.setCurve_clock (id : CurveId) (c : Curve) : (st.setCurve id c).clock = st.clock := rfl
@[simp] theorem Station.setCurve_lve (id : CurveId) (c : Curve) : (st.setCurve id c).lve = st.lve := rfl
@[simp] theorem Station.setCurve_crv (id : CurveId) (c : Curve) : (st.setCurve id c).crv = st.crv.setCurve c id := rfl
@[simp] theorem Station.setCurve_ctu (id : CurveId) (c : Curve) : (st.setCurve id c).ctu = st.ctu := rfl
@[simp] theorem Station.setCurve_dty (id : CurveId) (c : Curve) : (st.setCurve id c).dty = st.dty := rfl
@[simp] theorem Station.setCurve_stc (id : CurveId) (c : Curve) : (st.setCurve id c).stc = st.stc := rfl
@[simp] theorem Station.setCurve_pumps (id : CurveId) (c : Curve) : (st.setCurve id c).pumps = st.pumps := rfl
@[simp] theorem Station.setCurve_rkc (id : CurveId) (c : Curve) : (st.setCurve id c).rkc = st.rkc := rfl
@[simp] theorem Station.setCurve_ofm (id : CurveId) (c : Curve) : (st.setCurve id c).ofm = st.ofm := rfl
@[simp] theorem Station.setCurve_trb (id : CurveId) (c : Curve) : (st.setCurve id c).trb = st.trb := rfl
@[simp] theorem Station.setCurve_alt (id : CurveId) (c : Curve) : (st.setCurve id c).alt = st.alt := rfl
@[simp] theorem Station.setCurve_rpq (id : CurveId) (c : Curve) : (st.setCurve id c).rpq = st.rpq := rfl
@[simp] theorem Station.setCurve_portA (id : CurveId) (c : Curve) : (st.setCurve id c).portA = st.portA := rfl
@[simp] theorem Station.setCurve_portB (id : CurveId) (c : Curve) : (st.setCurve id c).portB = st.portB := rfl
@[simp] theorem Station.setCurve_consts (id : CurveId) (c : Curve) : (st.setCurve id c).consts = st.consts := rfl
@[simp] theorem Station.setCurve_sst (id : CurveId) (c : Curve) : (st.setCurve id c).sst = st.sst := rfl
@[simp] theorem Station.setCurve_draws (id : CurveId) (c : Curve) : (st.setCurve id c).draws = st.draws := rfl

/-! `Station.record` -/

@[simp] theorem Station.record_held (b : RecordBody) : (st.record b).held = st.held := rfl
@[simp] theorem Station.record_clock (b : RecordBody) : (st.record b).clock = st.clock := rfl
@[simp] theorem Station.record_lve (b : RecordBody) : (st.record b).lve = st.lve := rfl
@[simp] theorem Station.record_crv (b : RecordBody) : (st.record b).crv = st.crv := rfl
@[simp] theorem Station.record_ctu (b : RecordBody) : (st.record b).ctu = st.ctu := rfl
@[simp] theorem Station.record_dty (b : RecordBody) : (st.record b).dty = st.dty := rfl
@[simp] theorem Station.record_stc (b : RecordBody) : (st.record b).stc = st.stc := rfl
@[simp] theorem Station.record_pumps (b : RecordBody) : (st.record b).pumps = st.pumps := rfl
@[simp] theorem Station.record_rkc (b : RecordBody) : (st.record b).rkc = st.rkc := rfl
@[simp] theorem Station.record_ofm (b : RecordBody) : (st.record b).ofm = st.ofm := rfl
@[simp] theorem Station.record_trb (b : RecordBody) : (st.record b).trb = st.trb := rfl
@[simp] theorem Station.record_alt (b : RecordBody) : (st.record b).alt = st.alt := rfl
@[simp] theorem Station.record_rpq (b : RecordBody) : (st.record b).rpq = st.rpq.create b := rfl
@[simp] theorem Station.record_portA (b : RecordBody) : (st.record b).portA = st.portA := rfl
@[simp] theorem Station.record_portB (b : RecordBody) : (st.record b).portB = st.portB := rfl
@[simp] theorem Station.record_consts (b : RecordBody) : (st.record b).consts = st.consts := rfl
@[simp] theorem Station.record_sst (b : RecordBody) : (st.record b).sst = st.sst := rfl
@[simp] theorem Station.record_draws (b : RecordBody) : (st.record b).draws = st.draws := rfl

/-! `Station.setSummary` -/

@[simp] theorem Station.setSummary_held (s : Summary) : (st.setSummary s).held = st.held := rfl
@[simp] theorem Station.setSummary_clock (s : Summary) : (st.setSummary s).clock = st.clock := rfl
@[simp] theorem Station.setSummary_lve (s : Summary) : (st.setSummary s).lve = st.lve := rfl
@[simp] theorem Station.setSummary_crv (s : Summary) : (st.setSummary s).crv = st.crv := rfl
@[simp] theorem Station.setSummary_ctu (s : Summary) : (st.setSummary s).ctu = st.ctu := rfl
@[simp] theorem Station.setSummary_dty (s : Summary) : (st.setSummary s).dty = st.dty := rfl
@[simp] theorem Station.setSummary_stc (s : Summary) : (st.setSummary s).stc = st.stc := rfl
@[simp] theorem Station.setSummary_pumps (s : Summary) : (st.setSummary s).pumps = st.pumps := rfl
@[simp] theorem Station.setSummary_rkc (s : Summary) : (st.setSummary s).rkc = st.rkc := rfl
@[simp] theorem Station.setSummary_ofm (s : Summary) : (st.setSummary s).ofm = st.ofm := rfl
@[simp] theorem Station.setSummary_trb (s : Summary) : (st.setSummary s).trb = st.trb := rfl
@[simp] theorem Station.setSummary_alt (s : Summary) : (st.setSummary s).alt = st.alt := rfl
@[simp] theorem Station.setSummary_rpq (s : Summary) : (st.setSummary s).rpq = { st.rpq with summary := s } := rfl
@[simp] theorem Station.setSummary_portA (s : Summary) : (st.setSummary s).portA = st.portA := rfl
@[simp] theorem Station.setSummary_portB (s : Summary) : (st.setSummary s).portB = st.portB := rfl
@[simp] theorem Station.setSummary_consts (s : Summary) : (st.setSummary s).consts = st.consts := rfl
@[simp] theorem Station.setSummary_sst (s : Summary) : (st.setSummary s).sst = st.sst := rfl
@[simp] theorem Station.setSummary_draws (s : Summary) : (st.setSummary s).draws = st.draws := rfl

/-! `Station.ring` -/

@[simp] theorem Station.ring_held : (st.ring).held = st.held := rfl
@[simp] theorem Station.ring_clock : (st.ring).clock = st.clock := rfl
@[simp] theorem Station.ring_lve : (st.ring).lve = st.lve := rfl
@[simp] theorem Station.ring_crv : (st.ring).crv = st.crv := rfl
@[simp] theorem Station.ring_ctu : (st.ring).ctu = st.ctu := rfl
@[simp] theorem Station.ring_dty : (st.ring).dty = st.dty := rfl
@[simp] theorem Station.ring_stc : (st.ring).stc = { st.stc with heard := true } := rfl
@[simp] theorem Station.ring_pumps : (st.ring).pumps = st.pumps := rfl
@[simp] theorem Station.ring_rkc : (st.ring).rkc = st.rkc := rfl
@[simp] theorem Station.ring_ofm : (st.ring).ofm = st.ofm := rfl
@[simp] theorem Station.ring_trb : (st.ring).trb = st.trb := rfl
@[simp] theorem Station.ring_alt : (st.ring).alt = st.alt := rfl
@[simp] theorem Station.ring_rpq : (st.ring).rpq = st.rpq := rfl
@[simp] theorem Station.ring_portA : (st.ring).portA = st.portA := rfl
@[simp] theorem Station.ring_portB : (st.ring).portB = st.portB := rfl
@[simp] theorem Station.ring_consts : (st.ring).consts = st.consts := rfl
@[simp] theorem Station.ring_sst : (st.ring).sst = st.sst := rfl
@[simp] theorem Station.ring_draws : (st.ring).draws = st.draws := rfl

/-! `Station.resort` -/

@[simp] theorem Station.resort_held : (st.resort).held = st.held := rfl
@[simp] theorem Station.resort_clock : (st.resort).clock = st.clock := rfl
@[simp] theorem Station.resort_lve : (st.resort).lve = st.lve := rfl
@[simp] theorem Station.resort_crv : (st.resort).crv = st.crv := rfl
@[simp] theorem Station.resort_ctu : (st.resort).ctu = st.ctu := rfl
@[simp] theorem Station.resort_dty : (st.resort).dty = st.dty := rfl
@[simp] theorem Station.resort_stc : (st.resort).stc = { st.stc with
      queue := clearTail (sortQueue (queueKey st.dty.rotation st.rkc.blinded) st.stc.queue) } := rfl
@[simp] theorem Station.resort_pumps : (st.resort).pumps = st.pumps := rfl
@[simp] theorem Station.resort_rkc : (st.resort).rkc = st.rkc := rfl
@[simp] theorem Station.resort_ofm : (st.resort).ofm = st.ofm := rfl
@[simp] theorem Station.resort_trb : (st.resort).trb = st.trb := rfl
@[simp] theorem Station.resort_alt : (st.resort).alt = st.alt := rfl
@[simp] theorem Station.resort_rpq : (st.resort).rpq = st.rpq := rfl
@[simp] theorem Station.resort_portA : (st.resort).portA = st.portA := rfl
@[simp] theorem Station.resort_portB : (st.resort).portB = st.portB := rfl
@[simp] theorem Station.resort_consts : (st.resort).consts = st.consts := rfl
@[simp] theorem Station.resort_sst : (st.resort).sst = st.sst := rfl
@[simp] theorem Station.resort_draws : (st.resort).draws = st.draws := rfl

/-! `Station.dequeue` -/

@[simp] theorem Station.dequeue_held (m : Motor) : (st.dequeue m).held = st.held := rfl
@[simp] theorem Station.dequeue_clock (m : Motor) : (st.dequeue m).clock = st.clock := rfl
@[simp] theorem Station.dequeue_lve (m : Motor) : (st.dequeue m).lve = st.lve := rfl
@[simp] theorem Station.dequeue_crv (m : Motor) : (st.dequeue m).crv = st.crv := rfl
@[simp] theorem Station.dequeue_ctu (m : Motor) : (st.dequeue m).ctu = st.ctu := rfl
@[simp] theorem Station.dequeue_dty (m : Motor) : (st.dequeue m).dty = st.dty := rfl
@[simp] theorem Station.dequeue_stc (m : Motor) : (st.dequeue m).stc = { st.stc with queue := st.stc.queue.filter fun e => e.motor != m } := rfl
@[simp] theorem Station.dequeue_pumps (m : Motor) : (st.dequeue m).pumps = st.pumps := rfl
@[simp] theorem Station.dequeue_rkc (m : Motor) : (st.dequeue m).rkc = st.rkc := rfl
@[simp] theorem Station.dequeue_ofm (m : Motor) : (st.dequeue m).ofm = st.ofm := rfl
@[simp] theorem Station.dequeue_trb (m : Motor) : (st.dequeue m).trb = st.trb := rfl
@[simp] theorem Station.dequeue_alt (m : Motor) : (st.dequeue m).alt = st.alt := rfl
@[simp] theorem Station.dequeue_rpq (m : Motor) : (st.dequeue m).rpq = st.rpq := rfl
@[simp] theorem Station.dequeue_portA (m : Motor) : (st.dequeue m).portA = st.portA := rfl
@[simp] theorem Station.dequeue_portB (m : Motor) : (st.dequeue m).portB = st.portB := rfl
@[simp] theorem Station.dequeue_consts (m : Motor) : (st.dequeue m).consts = st.consts := rfl
@[simp] theorem Station.dequeue_sst (m : Motor) : (st.dequeue m).sst = st.sst := rfl
@[simp] theorem Station.dequeue_draws (m : Motor) : (st.dequeue m).draws = st.draws := rfl

/-! `Station.hold` -/

@[simp] theorem Station.hold_held (h : Hold) : (st.hold h).held = st.held := rfl
@[simp] theorem Station.hold_clock (h : Hold) : (st.hold h).clock = st.clock := rfl
@[simp] theorem Station.hold_lve (h : Hold) : (st.hold h).lve = st.lve := rfl
@[simp] theorem Station.hold_crv (h : Hold) : (st.hold h).crv = st.crv := rfl
@[simp] theorem Station.hold_ctu (h : Hold) : (st.hold h).ctu = st.ctu := rfl
@[simp] theorem Station.hold_dty (h : Hold) : (st.hold h).dty = st.dty := rfl
@[simp] theorem Station.hold_stc (h : Hold) : (st.hold h).stc = { st.stc with queue := holdHead h st.stc.queue } := rfl
@[simp] theorem Station.hold_pumps (h : Hold) : (st.hold h).pumps = st.pumps := rfl
@[simp] theorem Station.hold_rkc (h : Hold) : (st.hold h).rkc = st.rkc := rfl
@[simp] theorem Station.hold_ofm (h : Hold) : (st.hold h).ofm = st.ofm := rfl
@[simp] theorem Station.hold_trb (h : Hold) : (st.hold h).trb = st.trb := rfl
@[simp] theorem Station.hold_alt (h : Hold) : (st.hold h).alt = st.alt := rfl
@[simp] theorem Station.hold_rpq (h : Hold) : (st.hold h).rpq = st.rpq := rfl
@[simp] theorem Station.hold_portA (h : Hold) : (st.hold h).portA = st.portA := rfl
@[simp] theorem Station.hold_portB (h : Hold) : (st.hold h).portB = st.portB := rfl
@[simp] theorem Station.hold_consts (h : Hold) : (st.hold h).consts = st.consts := rfl
@[simp] theorem Station.hold_sst (h : Hold) : (st.hold h).sst = st.sst := rfl
@[simp] theorem Station.hold_draws (h : Hold) : (st.hold h).draws = st.draws := rfl

/-! `Station.setPumpRun` -/

@[simp] theorem Station.setPumpRun_held (n : PumpNo) (on : Bool) : (st.setPumpRun n on).held = st.held := rfl
@[simp] theorem Station.setPumpRun_clock (n : PumpNo) (on : Bool) : (st.setPumpRun n on).clock = st.clock := rfl
@[simp] theorem Station.setPumpRun_lve (n : PumpNo) (on : Bool) : (st.setPumpRun n on).lve = st.lve := rfl
@[simp] theorem Station.setPumpRun_crv (n : PumpNo) (on : Bool) : (st.setPumpRun n on).crv = st.crv := rfl
@[simp] theorem Station.setPumpRun_ctu (n : PumpNo) (on : Bool) : (st.setPumpRun n on).ctu = { st.ctu with pumpRun := st.ctu.pumpRun.set n on } := rfl
@[simp] theorem Station.setPumpRun_dty (n : PumpNo) (on : Bool) : (st.setPumpRun n on).dty = st.dty := rfl
@[simp] theorem Station.setPumpRun_stc (n : PumpNo) (on : Bool) : (st.setPumpRun n on).stc = st.stc := rfl
@[simp] theorem Station.setPumpRun_pumps (n : PumpNo) (on : Bool) : (st.setPumpRun n on).pumps = st.pumps := rfl
@[simp] theorem Station.setPumpRun_rkc (n : PumpNo) (on : Bool) : (st.setPumpRun n on).rkc = st.rkc := rfl
@[simp] theorem Station.setPumpRun_ofm (n : PumpNo) (on : Bool) : (st.setPumpRun n on).ofm = st.ofm := rfl
@[simp] theorem Station.setPumpRun_trb (n : PumpNo) (on : Bool) : (st.setPumpRun n on).trb = st.trb := rfl
@[simp] theorem Station.setPumpRun_alt (n : PumpNo) (on : Bool) : (st.setPumpRun n on).alt = st.alt := rfl
@[simp] theorem Station.setPumpRun_rpq (n : PumpNo) (on : Bool) : (st.setPumpRun n on).rpq = st.rpq := rfl
@[simp] theorem Station.setPumpRun_portA (n : PumpNo) (on : Bool) : (st.setPumpRun n on).portA = st.portA := rfl
@[simp] theorem Station.setPumpRun_portB (n : PumpNo) (on : Bool) : (st.setPumpRun n on).portB = st.portB := rfl
@[simp] theorem Station.setPumpRun_consts (n : PumpNo) (on : Bool) : (st.setPumpRun n on).consts = st.consts := rfl
@[simp] theorem Station.setPumpRun_sst (n : PumpNo) (on : Bool) : (st.setPumpRun n on).sst = st.sst := rfl
@[simp] theorem Station.setPumpRun_draws (n : PumpNo) (on : Bool) : (st.setPumpRun n on).draws = st.draws := rfl

/-! `Station.askDrive` -/

@[simp] theorem Station.askDrive_held (d : Option Dir) : (st.askDrive d).held = st.held := rfl
@[simp] theorem Station.askDrive_clock (d : Option Dir) : (st.askDrive d).clock = st.clock := rfl
@[simp] theorem Station.askDrive_lve (d : Option Dir) : (st.askDrive d).lve = st.lve := rfl
@[simp] theorem Station.askDrive_crv (d : Option Dir) : (st.askDrive d).crv = st.crv := rfl
@[simp] theorem Station.askDrive_ctu (d : Option Dir) : (st.askDrive d).ctu = { st.ctu with drive := st.ctu.drive.request st.clock d } := rfl
@[simp] theorem Station.askDrive_dty (d : Option Dir) : (st.askDrive d).dty = st.dty := rfl
@[simp] theorem Station.askDrive_stc (d : Option Dir) : (st.askDrive d).stc = st.stc := rfl
@[simp] theorem Station.askDrive_pumps (d : Option Dir) : (st.askDrive d).pumps = st.pumps := rfl
@[simp] theorem Station.askDrive_rkc (d : Option Dir) : (st.askDrive d).rkc = st.rkc := rfl
@[simp] theorem Station.askDrive_ofm (d : Option Dir) : (st.askDrive d).ofm = st.ofm := rfl
@[simp] theorem Station.askDrive_trb (d : Option Dir) : (st.askDrive d).trb = st.trb := rfl
@[simp] theorem Station.askDrive_alt (d : Option Dir) : (st.askDrive d).alt = st.alt := rfl
@[simp] theorem Station.askDrive_rpq (d : Option Dir) : (st.askDrive d).rpq = st.rpq := rfl
@[simp] theorem Station.askDrive_portA (d : Option Dir) : (st.askDrive d).portA = st.portA := rfl
@[simp] theorem Station.askDrive_portB (d : Option Dir) : (st.askDrive d).portB = st.portB := rfl
@[simp] theorem Station.askDrive_consts (d : Option Dir) : (st.askDrive d).consts = st.consts := rfl
@[simp] theorem Station.askDrive_sst (d : Option Dir) : (st.askDrive d).sst = st.sst := rfl
@[simp] theorem Station.askDrive_draws (d : Option Dir) : (st.askDrive d).draws = st.draws := rfl

/-! `Station.setPumpDemand` -/

@[simp] theorem Station.setPumpDemand_held (n : PumpNo) : (st.setPumpDemand n).held = st.held := rfl
@[simp] theorem Station.setPumpDemand_clock (n : PumpNo) : (st.setPumpDemand n).clock = st.clock := rfl
@[simp] theorem Station.setPumpDemand_lve (n : PumpNo) : (st.setPumpDemand n).lve = st.lve := rfl
@[simp] theorem Station.setPumpDemand_crv (n : PumpNo) : (st.setPumpDemand n).crv = st.crv := rfl
@[simp] theorem Station.setPumpDemand_ctu (n : PumpNo) : (st.setPumpDemand n).ctu = st.ctu := rfl
@[simp] theorem Station.setPumpDemand_dty (n : PumpNo) : (st.setPumpDemand n).dty = st.dty := rfl
@[simp] theorem Station.setPumpDemand_stc (n : PumpNo) : (st.setPumpDemand n).stc = st.stc := rfl
@[simp] theorem Station.setPumpDemand_pumps (n : PumpNo) : (st.setPumpDemand n).pumps = st.pumps.set n { st.pumps[n] with demand := true } := rfl
@[simp] theorem Station.setPumpDemand_rkc (n : PumpNo) : (st.setPumpDemand n).rkc = st.rkc := rfl
@[simp] theorem Station.setPumpDemand_ofm (n : PumpNo) : (st.setPumpDemand n).ofm = st.ofm := rfl
@[simp] theorem Station.setPumpDemand_trb (n : PumpNo) : (st.setPumpDemand n).trb = st.trb := rfl
@[simp] theorem Station.setPumpDemand_alt (n : PumpNo) : (st.setPumpDemand n).alt = st.alt := rfl
@[simp] theorem Station.setPumpDemand_rpq (n : PumpNo) : (st.setPumpDemand n).rpq = st.rpq := rfl
@[simp] theorem Station.setPumpDemand_portA (n : PumpNo) : (st.setPumpDemand n).portA = st.portA := rfl
@[simp] theorem Station.setPumpDemand_portB (n : PumpNo) : (st.setPumpDemand n).portB = st.portB := rfl
@[simp] theorem Station.setPumpDemand_consts (n : PumpNo) : (st.setPumpDemand n).consts = st.consts := rfl
@[simp] theorem Station.setPumpDemand_sst (n : PumpNo) : (st.setPumpDemand n).sst = st.sst := rfl
@[simp] theorem Station.setPumpDemand_draws (n : PumpNo) : (st.setPumpDemand n).draws = st.draws := rfl

/-! `Station.setDeferred` -/

@[simp] theorem Station.setDeferred_held (n : PumpNo) (d : Deferred) : (st.setDeferred n d).held = st.held := rfl
@[simp] theorem Station.setDeferred_clock (n : PumpNo) (d : Deferred) : (st.setDeferred n d).clock = st.clock := rfl
@[simp] theorem Station.setDeferred_lve (n : PumpNo) (d : Deferred) : (st.setDeferred n d).lve = st.lve := rfl
@[simp] theorem Station.setDeferred_crv (n : PumpNo) (d : Deferred) : (st.setDeferred n d).crv = st.crv := rfl
@[simp] theorem Station.setDeferred_ctu (n : PumpNo) (d : Deferred) : (st.setDeferred n d).ctu = st.ctu := rfl
@[simp] theorem Station.setDeferred_dty (n : PumpNo) (d : Deferred) : (st.setDeferred n d).dty = st.dty := rfl
@[simp] theorem Station.setDeferred_stc (n : PumpNo) (d : Deferred) : (st.setDeferred n d).stc = st.stc := rfl
@[simp] theorem Station.setDeferred_pumps (n : PumpNo) (d : Deferred) : (st.setDeferred n d).pumps = st.pumps.set n { st.pumps[n] with deferred := d } := rfl
@[simp] theorem Station.setDeferred_rkc (n : PumpNo) (d : Deferred) : (st.setDeferred n d).rkc = st.rkc := rfl
@[simp] theorem Station.setDeferred_ofm (n : PumpNo) (d : Deferred) : (st.setDeferred n d).ofm = st.ofm := rfl
@[simp] theorem Station.setDeferred_trb (n : PumpNo) (d : Deferred) : (st.setDeferred n d).trb = st.trb := rfl
@[simp] theorem Station.setDeferred_alt (n : PumpNo) (d : Deferred) : (st.setDeferred n d).alt = st.alt := rfl
@[simp] theorem Station.setDeferred_rpq (n : PumpNo) (d : Deferred) : (st.setDeferred n d).rpq = st.rpq := rfl
@[simp] theorem Station.setDeferred_portA (n : PumpNo) (d : Deferred) : (st.setDeferred n d).portA = st.portA := rfl
@[simp] theorem Station.setDeferred_portB (n : PumpNo) (d : Deferred) : (st.setDeferred n d).portB = st.portB := rfl
@[simp] theorem Station.setDeferred_consts (n : PumpNo) (d : Deferred) : (st.setDeferred n d).consts = st.consts := rfl
@[simp] theorem Station.setDeferred_sst (n : PumpNo) (d : Deferred) : (st.setDeferred n d).sst = st.sst := rfl
@[simp] theorem Station.setDeferred_draws (n : PumpNo) (d : Deferred) : (st.setDeferred n d).draws = st.draws := rfl

/-! `Station.setInhibit` -/

@[simp] theorem Station.setInhibit_held (n : PumpNo) (b : Bool) : (st.setInhibit n b).held = st.held := rfl
@[simp] theorem Station.setInhibit_clock (n : PumpNo) (b : Bool) : (st.setInhibit n b).clock = st.clock := rfl
@[simp] theorem Station.setInhibit_lve (n : PumpNo) (b : Bool) : (st.setInhibit n b).lve = st.lve := rfl
@[simp] theorem Station.setInhibit_crv (n : PumpNo) (b : Bool) : (st.setInhibit n b).crv = st.crv := rfl
@[simp] theorem Station.setInhibit_ctu (n : PumpNo) (b : Bool) : (st.setInhibit n b).ctu = st.ctu := rfl
@[simp] theorem Station.setInhibit_dty (n : PumpNo) (b : Bool) : (st.setInhibit n b).dty = st.dty := rfl
@[simp] theorem Station.setInhibit_stc (n : PumpNo) (b : Bool) : (st.setInhibit n b).stc = st.stc := rfl
@[simp] theorem Station.setInhibit_pumps (n : PumpNo) (b : Bool) : (st.setInhibit n b).pumps = st.pumps.set n { st.pumps[n] with inhibit := b } := rfl
@[simp] theorem Station.setInhibit_rkc (n : PumpNo) (b : Bool) : (st.setInhibit n b).rkc = st.rkc := rfl
@[simp] theorem Station.setInhibit_ofm (n : PumpNo) (b : Bool) : (st.setInhibit n b).ofm = st.ofm := rfl
@[simp] theorem Station.setInhibit_trb (n : PumpNo) (b : Bool) : (st.setInhibit n b).trb = st.trb := rfl
@[simp] theorem Station.setInhibit_alt (n : PumpNo) (b : Bool) : (st.setInhibit n b).alt = st.alt := rfl
@[simp] theorem Station.setInhibit_rpq (n : PumpNo) (b : Bool) : (st.setInhibit n b).rpq = st.rpq := rfl
@[simp] theorem Station.setInhibit_portA (n : PumpNo) (b : Bool) : (st.setInhibit n b).portA = st.portA := rfl
@[simp] theorem Station.setInhibit_portB (n : PumpNo) (b : Bool) : (st.setInhibit n b).portB = st.portB := rfl
@[simp] theorem Station.setInhibit_consts (n : PumpNo) (b : Bool) : (st.setInhibit n b).consts = st.consts := rfl
@[simp] theorem Station.setInhibit_sst (n : PumpNo) (b : Bool) : (st.setInhibit n b).sst = st.sst := rfl
@[simp] theorem Station.setInhibit_draws (n : PumpNo) (b : Bool) : (st.setInhibit n b).draws = st.draws := rfl

/-! `Station.prune` -/

@[simp] theorem Station.prune_held (n : PumpNo) : (st.prune n).held = st.held := rfl
@[simp] theorem Station.prune_clock (n : PumpNo) : (st.prune n).clock = st.clock := rfl
@[simp] theorem Station.prune_lve (n : PumpNo) : (st.prune n).lve = st.lve := rfl
@[simp] theorem Station.prune_crv (n : PumpNo) : (st.prune n).crv = st.crv := rfl
@[simp] theorem Station.prune_ctu (n : PumpNo) : (st.prune n).ctu = st.ctu := rfl
@[simp] theorem Station.prune_dty (n : PumpNo) : (st.prune n).dty = st.dty := rfl
@[simp] theorem Station.prune_stc (n : PumpNo) : (st.prune n).stc = st.stc := rfl
@[simp] theorem Station.prune_pumps (n : PumpNo) : (st.prune n).pumps = st.pumps.set n { st.pumps[n] with history := pruned st.uptime st.pumps[n].history } := rfl
@[simp] theorem Station.prune_rkc (n : PumpNo) : (st.prune n).rkc = st.rkc := rfl
@[simp] theorem Station.prune_ofm (n : PumpNo) : (st.prune n).ofm = st.ofm := rfl
@[simp] theorem Station.prune_trb (n : PumpNo) : (st.prune n).trb = st.trb := rfl
@[simp] theorem Station.prune_alt (n : PumpNo) : (st.prune n).alt = st.alt := rfl
@[simp] theorem Station.prune_rpq (n : PumpNo) : (st.prune n).rpq = st.rpq := rfl
@[simp] theorem Station.prune_portA (n : PumpNo) : (st.prune n).portA = st.portA := rfl
@[simp] theorem Station.prune_portB (n : PumpNo) : (st.prune n).portB = st.portB := rfl
@[simp] theorem Station.prune_consts (n : PumpNo) : (st.prune n).consts = st.consts := rfl
@[simp] theorem Station.prune_sst (n : PumpNo) : (st.prune n).sst = st.sst := rfl
@[simp] theorem Station.prune_draws (n : PumpNo) : (st.prune n).draws = st.draws := rfl

/-! `Station.rakeBegin` -/

@[simp] theorem Station.rakeBegin_held (limit : Nat) : (st.rakeBegin limit).held = st.held := rfl
@[simp] theorem Station.rakeBegin_clock (limit : Nat) : (st.rakeBegin limit).clock = st.clock := rfl
@[simp] theorem Station.rakeBegin_lve (limit : Nat) : (st.rakeBegin limit).lve = st.lve := rfl
@[simp] theorem Station.rakeBegin_crv (limit : Nat) : (st.rakeBegin limit).crv = st.crv := rfl
@[simp] theorem Station.rakeBegin_ctu (limit : Nat) : (st.rakeBegin limit).ctu = st.ctu := rfl
@[simp] theorem Station.rakeBegin_dty (limit : Nat) : (st.rakeBegin limit).dty = st.dty := rfl
@[simp] theorem Station.rakeBegin_stc (limit : Nat) : (st.rakeBegin limit).stc = st.stc := rfl
@[simp] theorem Station.rakeBegin_pumps (limit : Nat) : (st.rakeBegin limit).pumps = st.pumps := rfl
@[simp] theorem Station.rakeBegin_rkc (limit : Nat) : (st.rakeBegin limit).rkc = { st.rkc with drivePending := false, timer := some (st.uptime + secs limit) } := rfl
@[simp] theorem Station.rakeBegin_ofm (limit : Nat) : (st.rakeBegin limit).ofm = st.ofm := rfl
@[simp] theorem Station.rakeBegin_trb (limit : Nat) : (st.rakeBegin limit).trb = st.trb := rfl
@[simp] theorem Station.rakeBegin_alt (limit : Nat) : (st.rakeBegin limit).alt = st.alt := rfl
@[simp] theorem Station.rakeBegin_rpq (limit : Nat) : (st.rakeBegin limit).rpq = st.rpq := rfl
@[simp] theorem Station.rakeBegin_portA (limit : Nat) : (st.rakeBegin limit).portA = st.portA := rfl
@[simp] theorem Station.rakeBegin_portB (limit : Nat) : (st.rakeBegin limit).portB = st.portB := rfl
@[simp] theorem Station.rakeBegin_consts (limit : Nat) : (st.rakeBegin limit).consts = st.consts := rfl
@[simp] theorem Station.rakeBegin_sst (limit : Nat) : (st.rakeBegin limit).sst = st.sst := rfl
@[simp] theorem Station.rakeBegin_draws (limit : Nat) : (st.rakeBegin limit).draws = st.draws := rfl

/-! `Station.emptyRing` -/

@[simp] theorem Station.emptyRing_held : (st.emptyRing).held = st.held := rfl
@[simp] theorem Station.emptyRing_clock : (st.emptyRing).clock = st.clock := rfl
@[simp] theorem Station.emptyRing_lve : (st.emptyRing).lve = { st.lve with ring := [] } := rfl
@[simp] theorem Station.emptyRing_crv : (st.emptyRing).crv = st.crv := rfl
@[simp] theorem Station.emptyRing_ctu : (st.emptyRing).ctu = st.ctu := rfl
@[simp] theorem Station.emptyRing_dty : (st.emptyRing).dty = st.dty := rfl
@[simp] theorem Station.emptyRing_stc : (st.emptyRing).stc = st.stc := rfl
@[simp] theorem Station.emptyRing_pumps : (st.emptyRing).pumps = st.pumps := rfl
@[simp] theorem Station.emptyRing_rkc : (st.emptyRing).rkc = st.rkc := rfl
@[simp] theorem Station.emptyRing_ofm : (st.emptyRing).ofm = st.ofm := rfl
@[simp] theorem Station.emptyRing_trb : (st.emptyRing).trb = st.trb := rfl
@[simp] theorem Station.emptyRing_alt : (st.emptyRing).alt = st.alt := rfl
@[simp] theorem Station.emptyRing_rpq : (st.emptyRing).rpq = st.rpq := rfl
@[simp] theorem Station.emptyRing_portA : (st.emptyRing).portA = st.portA := rfl
@[simp] theorem Station.emptyRing_portB : (st.emptyRing).portB = st.portB := rfl
@[simp] theorem Station.emptyRing_consts : (st.emptyRing).consts = st.consts := rfl
@[simp] theorem Station.emptyRing_sst : (st.emptyRing).sst = st.sst := rfl
@[simp] theorem Station.emptyRing_draws : (st.emptyRing).draws = st.draws := rfl

/-! `Station.publish` -/

@[simp] theorem Station.publish_held (u : LevelUpdate) : (st.publish u).held = st.held := rfl
@[simp] theorem Station.publish_clock (u : LevelUpdate) : (st.publish u).clock = st.clock := rfl
@[simp] theorem Station.publish_lve (u : LevelUpdate) : (st.publish u).lve = { st.lve with published := some u, nextCycle := st.uptime + 10, fresh := false } := rfl
@[simp] theorem Station.publish_crv (u : LevelUpdate) : (st.publish u).crv = st.crv := rfl
@[simp] theorem Station.publish_ctu (u : LevelUpdate) : (st.publish u).ctu = st.ctu := rfl
@[simp] theorem Station.publish_dty (u : LevelUpdate) : (st.publish u).dty = st.dty := rfl
@[simp] theorem Station.publish_stc (u : LevelUpdate) : (st.publish u).stc = st.stc := rfl
@[simp] theorem Station.publish_pumps (u : LevelUpdate) : (st.publish u).pumps = st.pumps := rfl
@[simp] theorem Station.publish_rkc (u : LevelUpdate) : (st.publish u).rkc = st.rkc := rfl
@[simp] theorem Station.publish_ofm (u : LevelUpdate) : (st.publish u).ofm = st.ofm := rfl
@[simp] theorem Station.publish_trb (u : LevelUpdate) : (st.publish u).trb = st.trb := rfl
@[simp] theorem Station.publish_alt (u : LevelUpdate) : (st.publish u).alt = st.alt := rfl
@[simp] theorem Station.publish_rpq (u : LevelUpdate) : (st.publish u).rpq = st.rpq := rfl
@[simp] theorem Station.publish_portA (u : LevelUpdate) : (st.publish u).portA = st.portA := rfl
@[simp] theorem Station.publish_portB (u : LevelUpdate) : (st.publish u).portB = st.portB := rfl
@[simp] theorem Station.publish_consts (u : LevelUpdate) : (st.publish u).consts = st.consts := rfl
@[simp] theorem Station.publish_sst (u : LevelUpdate) : (st.publish u).sst = st.sst := rfl
@[simp] theorem Station.publish_draws (u : LevelUpdate) : (st.publish u).draws = st.draws := rfl

/-! `Station.redriveBeacon` -/

@[simp] theorem Station.redriveBeacon_held : (st.redriveBeacon).held = st.held := rfl
@[simp] theorem Station.redriveBeacon_clock : (st.redriveBeacon).clock = st.clock := rfl
@[simp] theorem Station.redriveBeacon_lve : (st.redriveBeacon).lve = st.lve := rfl
@[simp] theorem Station.redriveBeacon_crv : (st.redriveBeacon).crv = st.crv := rfl
@[simp] theorem Station.redriveBeacon_ctu : (st.redriveBeacon).ctu = { st.ctu with beacon := st.alt.beaconDemand } := rfl
@[simp] theorem Station.redriveBeacon_dty : (st.redriveBeacon).dty = st.dty := rfl
@[simp] theorem Station.redriveBeacon_stc : (st.redriveBeacon).stc = st.stc := rfl
@[simp] theorem Station.redriveBeacon_pumps : (st.redriveBeacon).pumps = st.pumps := rfl
@[simp] theorem Station.redriveBeacon_rkc : (st.redriveBeacon).rkc = st.rkc := rfl
@[simp] theorem Station.redriveBeacon_ofm : (st.redriveBeacon).ofm = st.ofm := rfl
@[simp] theorem Station.redriveBeacon_trb : (st.redriveBeacon).trb = st.trb := rfl
@[simp] theorem Station.redriveBeacon_alt : (st.redriveBeacon).alt = st.alt := rfl
@[simp] theorem Station.redriveBeacon_rpq : (st.redriveBeacon).rpq = st.rpq := rfl
@[simp] theorem Station.redriveBeacon_portA : (st.redriveBeacon).portA = st.portA := rfl
@[simp] theorem Station.redriveBeacon_portB : (st.redriveBeacon).portB = st.portB := rfl
@[simp] theorem Station.redriveBeacon_consts : (st.redriveBeacon).consts = st.consts := rfl
@[simp] theorem Station.redriveBeacon_sst : (st.redriveBeacon).sst = st.sst := rfl
@[simp] theorem Station.redriveBeacon_draws : (st.redriveBeacon).draws = st.draws := rfl

/-! `Station.drawn` -/

@[simp] theorem Station.drawn_held : (st.drawn).held = st.held := rfl
@[simp] theorem Station.drawn_clock : (st.drawn).clock = st.clock := rfl
@[simp] theorem Station.drawn_lve : (st.drawn).lve = st.lve := rfl
@[simp] theorem Station.drawn_crv : (st.drawn).crv = st.crv := rfl
@[simp] theorem Station.drawn_ctu : (st.drawn).ctu = st.ctu := rfl
@[simp] theorem Station.drawn_dty : (st.drawn).dty = st.dty := rfl
@[simp] theorem Station.drawn_stc : (st.drawn).stc = st.stc := rfl
@[simp] theorem Station.drawn_pumps : (st.drawn).pumps = st.pumps := rfl
@[simp] theorem Station.drawn_rkc : (st.drawn).rkc = st.rkc := rfl
@[simp] theorem Station.drawn_ofm : (st.drawn).ofm = st.ofm := rfl
@[simp] theorem Station.drawn_trb : (st.drawn).trb = st.trb := rfl
@[simp] theorem Station.drawn_alt : (st.drawn).alt = st.alt := rfl
@[simp] theorem Station.drawn_rpq : (st.drawn).rpq = st.rpq := rfl
@[simp] theorem Station.drawn_portA : (st.drawn).portA = st.portA := rfl
@[simp] theorem Station.drawn_portB : (st.drawn).portB = st.portB := rfl
@[simp] theorem Station.drawn_consts : (st.drawn).consts = st.consts := rfl
@[simp] theorem Station.drawn_sst : (st.drawn).sst = st.sst := rfl
@[simp] theorem Station.drawn_draws : (st.drawn).draws = st.draws + 1 := rfl

/-! `Station.setPort` -/

@[simp] theorem Station.setPort_held (q : Port) (p : PortId) : (st.setPort q p).held = st.held := by cases p <;> rfl
@[simp] theorem Station.setPort_clock (q : Port) (p : PortId) : (st.setPort q p).clock = st.clock := by cases p <;> rfl
@[simp] theorem Station.setPort_lve (q : Port) (p : PortId) : (st.setPort q p).lve = st.lve := by cases p <;> rfl
@[simp] theorem Station.setPort_crv (q : Port) (p : PortId) : (st.setPort q p).crv = st.crv := by cases p <;> rfl
@[simp] theorem Station.setPort_ctu (q : Port) (p : PortId) : (st.setPort q p).ctu = st.ctu := by cases p <;> rfl
@[simp] theorem Station.setPort_dty (q : Port) (p : PortId) : (st.setPort q p).dty = st.dty := by cases p <;> rfl
@[simp] theorem Station.setPort_stc (q : Port) (p : PortId) : (st.setPort q p).stc = st.stc := by cases p <;> rfl
@[simp] theorem Station.setPort_pumps (q : Port) (p : PortId) : (st.setPort q p).pumps = st.pumps := by cases p <;> rfl
@[simp] theorem Station.setPort_rkc (q : Port) (p : PortId) : (st.setPort q p).rkc = st.rkc := by cases p <;> rfl
@[simp] theorem Station.setPort_ofm (q : Port) (p : PortId) : (st.setPort q p).ofm = st.ofm := by cases p <;> rfl
@[simp] theorem Station.setPort_trb (q : Port) (p : PortId) : (st.setPort q p).trb = st.trb := by cases p <;> rfl
@[simp] theorem Station.setPort_alt (q : Port) (p : PortId) : (st.setPort q p).alt = st.alt := by cases p <;> rfl
@[simp] theorem Station.setPort_rpq (q : Port) (p : PortId) : (st.setPort q p).rpq = st.rpq := by cases p <;> rfl
@[simp] theorem Station.setPort_consts (q : Port) (p : PortId) : (st.setPort q p).consts = st.consts := by cases p <;> rfl
@[simp] theorem Station.setPort_sst (q : Port) (p : PortId) : (st.setPort q p).sst = st.sst := by cases p <;> rfl
@[simp] theorem Station.setPort_draws (q : Port) (p : PortId) : (st.setPort q p).draws = st.draws := by cases p <;> rfl

/-! `Station.rise` -/

@[simp] theorem Station.rise_held (p : PortId) (k : Nat) : (st.rise p k).held = st.held := by cases p <;> rfl
@[simp] theorem Station.rise_clock (p : PortId) (k : Nat) : (st.rise p k).clock = st.clock := by cases p <;> rfl
@[simp] theorem Station.rise_lve (p : PortId) (k : Nat) : (st.rise p k).lve = st.lve := by cases p <;> rfl
@[simp] theorem Station.rise_crv (p : PortId) (k : Nat) : (st.rise p k).crv = st.crv := by cases p <;> rfl
@[simp] theorem Station.rise_ctu (p : PortId) (k : Nat) : (st.rise p k).ctu = st.ctu := by cases p <;> rfl
@[simp] theorem Station.rise_dty (p : PortId) (k : Nat) : (st.rise p k).dty = st.dty := by cases p <;> rfl
@[simp] theorem Station.rise_stc (p : PortId) (k : Nat) : (st.rise p k).stc = st.stc := by cases p <;> rfl
@[simp] theorem Station.rise_pumps (p : PortId) (k : Nat) : (st.rise p k).pumps = st.pumps := by cases p <;> rfl
@[simp] theorem Station.rise_rkc (p : PortId) (k : Nat) : (st.rise p k).rkc = st.rkc := by cases p <;> rfl
@[simp] theorem Station.rise_ofm (p : PortId) (k : Nat) : (st.rise p k).ofm = st.ofm := by cases p <;> rfl
@[simp] theorem Station.rise_trb (p : PortId) (k : Nat) : (st.rise p k).trb = st.trb := by cases p <;> rfl
@[simp] theorem Station.rise_alt (p : PortId) (k : Nat) : (st.rise p k).alt = st.alt := by cases p <;> rfl
@[simp] theorem Station.rise_rpq (p : PortId) (k : Nat) : (st.rise p k).rpq = st.rpq := by cases p <;> rfl
@[simp] theorem Station.rise_consts (p : PortId) (k : Nat) : (st.rise p k).consts = st.consts := by cases p <;> rfl
@[simp] theorem Station.rise_sst (p : PortId) (k : Nat) : (st.rise p k).sst = st.sst := by cases p <;> rfl
@[simp] theorem Station.rise_draws (p : PortId) (k : Nat) : (st.rise p k).draws = st.draws := by cases p <;> rfl

/-! `Station.latch` -/

@[simp] theorem Station.latch_held (p : PortId) : (st.latch p).held = st.held := by cases p <;> rfl
@[simp] theorem Station.latch_clock (p : PortId) : (st.latch p).clock = st.clock := by cases p <;> rfl
@[simp] theorem Station.latch_lve (p : PortId) : (st.latch p).lve = st.lve := by cases p <;> rfl
@[simp] theorem Station.latch_crv (p : PortId) : (st.latch p).crv = st.crv := by cases p <;> rfl
@[simp] theorem Station.latch_ctu (p : PortId) : (st.latch p).ctu = st.ctu := by cases p <;> rfl
@[simp] theorem Station.latch_dty (p : PortId) : (st.latch p).dty = st.dty := by cases p <;> rfl
@[simp] theorem Station.latch_stc (p : PortId) : (st.latch p).stc = st.stc := by cases p <;> rfl
@[simp] theorem Station.latch_pumps (p : PortId) : (st.latch p).pumps = st.pumps := by cases p <;> rfl
@[simp] theorem Station.latch_rkc (p : PortId) : (st.latch p).rkc = st.rkc := by cases p <;> rfl
@[simp] theorem Station.latch_ofm (p : PortId) : (st.latch p).ofm = st.ofm := by cases p <;> rfl
@[simp] theorem Station.latch_trb (p : PortId) : (st.latch p).trb = st.trb := by cases p <;> rfl
@[simp] theorem Station.latch_alt (p : PortId) : (st.latch p).alt = st.alt := by cases p <;> rfl
@[simp] theorem Station.latch_rpq (p : PortId) : (st.latch p).rpq = st.rpq := by cases p <;> rfl
@[simp] theorem Station.latch_consts (p : PortId) : (st.latch p).consts = st.consts := by cases p <;> rfl
@[simp] theorem Station.latch_sst (p : PortId) : (st.latch p).sst = st.sst := by cases p <;> rfl
@[simp] theorem Station.latch_draws (p : PortId) : (st.latch p).draws = st.draws := by cases p <;> rfl

/-! `Station.setNotTaken` -/

@[simp] theorem Station.setNotTaken_held (p : PortId) (b : Bool) : (st.setNotTaken p b).held = st.held := by cases p <;> rfl
@[simp] theorem Station.setNotTaken_clock (p : PortId) (b : Bool) : (st.setNotTaken p b).clock = st.clock := by cases p <;> rfl
@[simp] theorem Station.setNotTaken_lve (p : PortId) (b : Bool) : (st.setNotTaken p b).lve = st.lve := by cases p <;> rfl
@[simp] theorem Station.setNotTaken_crv (p : PortId) (b : Bool) : (st.setNotTaken p b).crv = st.crv := by cases p <;> rfl
@[simp] theorem Station.setNotTaken_ctu (p : PortId) (b : Bool) : (st.setNotTaken p b).ctu = st.ctu := by cases p <;> rfl
@[simp] theorem Station.setNotTaken_dty (p : PortId) (b : Bool) : (st.setNotTaken p b).dty = st.dty := by cases p <;> rfl
@[simp] theorem Station.setNotTaken_stc (p : PortId) (b : Bool) : (st.setNotTaken p b).stc = st.stc := by cases p <;> rfl
@[simp] theorem Station.setNotTaken_pumps (p : PortId) (b : Bool) : (st.setNotTaken p b).pumps = st.pumps := by cases p <;> rfl
@[simp] theorem Station.setNotTaken_rkc (p : PortId) (b : Bool) : (st.setNotTaken p b).rkc = st.rkc := by cases p <;> rfl
@[simp] theorem Station.setNotTaken_ofm (p : PortId) (b : Bool) : (st.setNotTaken p b).ofm = st.ofm := by cases p <;> rfl
@[simp] theorem Station.setNotTaken_trb (p : PortId) (b : Bool) : (st.setNotTaken p b).trb = st.trb := by cases p <;> rfl
@[simp] theorem Station.setNotTaken_alt (p : PortId) (b : Bool) : (st.setNotTaken p b).alt = st.alt := by cases p <;> rfl
@[simp] theorem Station.setNotTaken_rpq (p : PortId) (b : Bool) : (st.setNotTaken p b).rpq = st.rpq := by cases p <;> rfl
@[simp] theorem Station.setNotTaken_consts (p : PortId) (b : Bool) : (st.setNotTaken p b).consts = st.consts := by cases p <;> rfl
@[simp] theorem Station.setNotTaken_sst (p : PortId) (b : Bool) : (st.setNotTaken p b).sst = st.sst := by cases p <;> rfl
@[simp] theorem Station.setNotTaken_draws (p : PortId) (b : Bool) : (st.setNotTaken p b).draws = st.draws := by cases p <;> rfl

/-! `Station.putReply` -/

@[simp] theorem Station.putReply_held (p : PortId) (c : Byte) (r : Reply) : (st.putReply p c r).held = st.held := by cases p <;> rfl
@[simp] theorem Station.putReply_clock (p : PortId) (c : Byte) (r : Reply) : (st.putReply p c r).clock = st.clock := by cases p <;> rfl
@[simp] theorem Station.putReply_lve (p : PortId) (c : Byte) (r : Reply) : (st.putReply p c r).lve = st.lve := by cases p <;> rfl
@[simp] theorem Station.putReply_crv (p : PortId) (c : Byte) (r : Reply) : (st.putReply p c r).crv = st.crv := by cases p <;> rfl
@[simp] theorem Station.putReply_ctu (p : PortId) (c : Byte) (r : Reply) : (st.putReply p c r).ctu = st.ctu := by cases p <;> rfl
@[simp] theorem Station.putReply_dty (p : PortId) (c : Byte) (r : Reply) : (st.putReply p c r).dty = st.dty := by cases p <;> rfl
@[simp] theorem Station.putReply_stc (p : PortId) (c : Byte) (r : Reply) : (st.putReply p c r).stc = st.stc := by cases p <;> rfl
@[simp] theorem Station.putReply_pumps (p : PortId) (c : Byte) (r : Reply) : (st.putReply p c r).pumps = st.pumps := by cases p <;> rfl
@[simp] theorem Station.putReply_rkc (p : PortId) (c : Byte) (r : Reply) : (st.putReply p c r).rkc = st.rkc := by cases p <;> rfl
@[simp] theorem Station.putReply_ofm (p : PortId) (c : Byte) (r : Reply) : (st.putReply p c r).ofm = st.ofm := by cases p <;> rfl
@[simp] theorem Station.putReply_trb (p : PortId) (c : Byte) (r : Reply) : (st.putReply p c r).trb = st.trb := by cases p <;> rfl
@[simp] theorem Station.putReply_alt (p : PortId) (c : Byte) (r : Reply) : (st.putReply p c r).alt = st.alt := by cases p <;> rfl
@[simp] theorem Station.putReply_rpq (p : PortId) (c : Byte) (r : Reply) : (st.putReply p c r).rpq = st.rpq := by cases p <;> rfl
@[simp] theorem Station.putReply_consts (p : PortId) (c : Byte) (r : Reply) : (st.putReply p c r).consts = st.consts := by cases p <;> rfl
@[simp] theorem Station.putReply_sst (p : PortId) (c : Byte) (r : Reply) : (st.putReply p c r).sst = st.sst := by cases p <;> rfl
@[simp] theorem Station.putReply_draws (p : PortId) (c : Byte) (r : Reply) : (st.putReply p c r).draws = st.draws := by cases p <;> rfl

/-! Reading back what was written. -/

@[simp] theorem Station.setPump_self (n : PumpNo) (p : PumpRec) : (st.setPump n p).pumps[n] = p := by
  simp

@[simp] theorem Station.setPump_other (n m : PumpNo) (p : PumpRec) (h : n ≠ m) :
    (st.setPump n p).pumps[m] = st.pumps[m] := by
  have h' : n.val ≠ m.val := fun e => h (Fin.ext e)
  simp [h']

@[simp] theorem Station.setPort_self (q : Port) (p : PortId) : (st.setPort q p).port p = q := by cases p <;> rfl

@[simp] theorem Station.setPort_other (q : Port) (p r : PortId) (h : p ≠ r) : (st.setPort q p).port r = st.port r := by
  cases p <;> cases r <;> first | rfl | exact absurd rfl h

@[simp] theorem ContactUnit.input_setInput_self (c : ContactUnit) (r : InputRec) (i : Input) :
    (c.setInput r i).input i = r := by
  cases i <;> simp [ContactUnit.input, ContactUnit.setInput]

@[simp] theorem CurveStore.curve_setCurve_self (c : CurveStore) (q : Curve) (id : CurveId) :
    (c.setCurve q id).curve id = q := by
  cases id <;> rfl

@[simp] theorem AlarmTable.attn_setAttn_self (t : AlarmTable) (q : Attention) (p : PortId) :
    (t.setAttn q p).attn p = q := by
  cases p <;> rfl

@[simp] theorem State.on_eq (s : State) (f : Station → Station) : s.on f = .next { s with st := f s.st } := rfl

end Sys2Proof.Machine
end

