-- ==== Sys2Proof/Laws/Frames.lean ====
section
/-! SUPPORT. What the pump, rake and start-control operations leave alone: the level engine, the curves, the overflow monitor,
the trace, the ports, the constants, the store, time, the input records and the selectors. -/

namespace Sys2Proof.Machine

namespace KeepsOuter

theorem refl (a : Station) : KeepsOuter a a := by constructor <;> simp

theorem trans {a b c : Station} (h : KeepsOuter a b) (k : KeepsOuter b c) : KeepsOuter a c where
  held := k.held.trans h.held
  clock := k.clock.trans h.clock
  lve := k.lve.trans h.lve
  crv := k.crv.trans h.crv
  ofm := k.ofm.trans h.ofm
  trb := k.trb.trans h.trb
  portA := k.portA.trans h.portA
  portB := k.portB.trans h.portB
  consts := k.consts.trans h.consts
  sst := k.sst.trans h.sst
  draws := k.draws.trans h.draws
  inputs := fun i => (k.inputs i).trans (h.inputs i)
  selectors := k.selectors.trans h.selectors

/-- An update of the free fields and of the outputs alone. -/
theorem of_fields {a b : Station} (h : b.held = a.held) (c : b.clock = a.clock) (l : b.lve = a.lve) (v : b.crv = a.crv)
    (o : b.ofm = a.ofm) (t : b.trb = a.trb) (pa : b.portA = a.portA) (pb : b.portB = a.portB) (k : b.consts = a.consts)
    (s : b.sst = a.sst) (d : b.draws = a.draws) (u : b.ctu = a.ctu) : KeepsOuter a b :=
  ⟨h, c, l, v, o, t, pa, pb, k, s, d, fun i => by rw [u], by rw [u]⟩

theorem uptime {a b : Station} (h : KeepsOuter a b) : b.uptime = a.uptime := by simp [Station.uptime, h.clock]

theorem settled {a b : Station} (h : KeepsOuter a b) (i : Input) : b.settled i = a.settled i := by
  simp [Station.settled, h.inputs]

end KeepsOuter

/-! ### Alarms and records -/

theorem keeps_record (st : Station) (b : RecordBody) : KeepsOuter st (st.record b) := by constructor <;> simp

theorem keeps_judgeBeacon (st : Station) : KeepsOuter st st.judgeBeacon := by
  constructor <;> first | rfl | (intro i; cases i <;> rfl)

theorem keeps_movePoint (st : Station) (k : PointNo) (p : PointRec) : KeepsOuter st (st.movePoint k p) := by
  unfold Station.movePoint
  refine KeepsOuter.trans ?_ (keeps_judgeBeacon _)
  constructor <;> simp

theorem keeps_report (st : Station) (k : PointNo) (on : Bool) : KeepsOuter st (st.report k on) := by
  unfold Station.report
  split
  · exact .refl _
  · refine (keeps_movePoint st k (st.alt.points[k].reported on st.rpq.stationTime)).trans ?_
    exact .of_fields rfl rfl rfl rfl rfl rfl rfl rfl rfl rfl rfl rfl

/-! ### Queue and loads -/

theorem keeps_ring (st : Station) : KeepsOuter st st.ring := by constructor <;> simp

theorem keeps_resort (st : Station) : KeepsOuter st st.resort := by constructor <;> simp

theorem keeps_dequeue (st : Station) (m : Motor) : KeepsOuter st (st.dequeue m) := by constructor <;> simp

theorem keeps_hold (st : Station) (h : Hold) : KeepsOuter st (st.hold h) := by constructor <;> simp

theorem keeps_stc (st : Station) (c : StartControl) : KeepsOuter st { st with stc := c } := by constructor <;> simp

theorem keeps_rkc (st : Station) (r : Rake) : KeepsOuter st { st with rkc := r } := by constructor <;> simp

theorem keeps_dty (st : Station) (d : Duty) : KeepsOuter st { st with dty := d } := by constructor <;> simp

theorem keeps_enqueue (st : Station) (m : Motor) : KeepsOuter st (st.enqueue m) := by
  unfold Station.enqueue
  refine KeepsOuter.trans ?_ (keeps_ring _)
  split
  · exact .refl _
  · exact (keeps_stc st _).trans (keeps_resort _)

theorem keeps_withdraw (st : Station) (m : Motor) : KeepsOuter st (st.withdraw m) :=
  (keeps_dequeue st m).trans (keeps_ring _)

theorem keeps_withdrawRake (st : Station) : KeepsOuter st st.withdrawRake :=
  (keeps_withdraw st .rake).trans (keeps_stc _ _)

theorem keeps_reportUnshed (st : Station) (n : PumpNo) : KeepsOuter st (st.reportUnshed n) :=
  (keeps_stc st _).trans (keeps_ring _)

theorem keeps_armSpacing (st : Station) : KeepsOuter st st.armSpacing := by constructor <;> simp [Station.armSpacing]

theorem keeps_setRotation (st : Station) (l : List PumpNo) : KeepsOuter st (st.setRotation l) :=
  ((keeps_dty st _).trans (keeps_resort _)).trans (keeps_ring _)

theorem keeps_testPumpDown (st : Station) : KeepsOuter st st.testPumpDown := by
  unfold Station.testPumpDown
  split
  · unfold Station.alternate
    split
    · exact (keeps_setRotation st _).trans (keeps_dty _ _)
    · exact (keeps_setRotation st _).trans (keeps_dty _ _)
    · exact keeps_dty st _
  · exact .refl _

/-! ### Pumps -/

theorem keeps_setPump (st : Station) (n : PumpNo) (p : PumpRec) : KeepsOuter st (st.setPump n p) := by
  constructor <;> simp

theorem keeps_setPumpRun (st : Station) (n : PumpNo) (on : Bool) : KeepsOuter st (st.setPumpRun n on) := by
  constructor <;> first | rfl | (intro i; cases i <;> rfl)

theorem keeps_enter (st : Station) (n : PumpNo) (s : PumpState) : KeepsOuter st (st.enter n s) := by
  unfold Station.enter
  refine KeepsOuter.trans ?_ (keeps_testPumpDown _)
  refine KeepsOuter.trans ?_ (keeps_setPump _ _ _)
  split
  · exact keeps_ring _
  · exact .refl _

theorem keeps_clearDemand (st : Station) (n : PumpNo) : KeepsOuter st (st.clearDemand n) := by
  unfold Station.clearDemand
  dsimp only
  split
  · exact (keeps_setPump st n _).trans (keeps_reportUnshed _ _)
  · exact keeps_setPump st n _

theorem keeps_judgeStartLimited (st : Station) : KeepsOuter st st.judgeStartLimited := keeps_report st _ _

theorem keeps_reportPump (st : Station) (n : PumpNo) : KeepsOuter st (st.reportPump n) :=
  ((keeps_report st _ _).trans (keeps_report _ _ _)).trans (keeps_judgeStartLimited _)

theorem keeps_withdrawPump (st : Station) (n : PumpNo) : KeepsOuter st (st.withdrawPump n) := by
  unfold Station.withdrawPump
  split
  · exact keeps_withdraw st _
  · exact .refl _

theorem keeps_enterFaulted (st : Station) (n : PumpNo) (c : PumpCause) : KeepsOuter st (st.enterFaulted n c) :=
  (keeps_enter st n _).trans (keeps_setPump _ _ _)

theorem keeps_enterWaiting (st : Station) (n : PumpNo) : KeepsOuter st (st.enterWaiting n) :=
  (keeps_enter st n _).trans (keeps_enqueue _ _)

theorem keeps_stopNow (st : Station) (n : PumpNo) : KeepsOuter st (st.stopNow n) :=
  ((keeps_setPumpRun st n _).trans (keeps_setPump _ _ _)).trans (keeps_enter _ _ _)

theorem keeps_shedPump (st : Station) (n : PumpNo) : KeepsOuter st (st.shedPump n) := by
  unfold Station.shedPump
  split
  · dsimp only
    split
    · exact (keeps_stopNow st n).trans (keeps_setPump _ _ _)
    · exact (keeps_stopNow st n).trans (keeps_reportUnshed _ _)
  · exact keeps_reportUnshed st n

theorem keeps_grantPump (st : Station) (n : PumpNo) : KeepsOuter st (st.grantPump n) := by
  unfold Station.grantPump
  split
  · refine KeepsOuter.trans ?_ (keeps_reportPump _ _)
    refine KeepsOuter.trans ?_ (keeps_enter _ _ _)
    refine KeepsOuter.trans ?_ (keeps_setPumpRun _ _ _)
    exact (keeps_setPump st n _).trans (keeps_setPump _ _ _)
  · exact .refl _

/-! ### Rake -/

theorem keeps_askDrive (st : Station) (d : Option Dir) : KeepsOuter st (st.askDrive d) := by
  constructor <;> first | rfl | (intro i; cases i <;> rfl)

theorem keeps_rakeEnter (st : Station) (s : RakeState) : KeepsOuter st (st.rakeEnter s) := by
  unfold Station.rakeEnter
  dsimp only
  split
  · exact (keeps_rkc st _).trans (keeps_askDrive _ _)
  · exact ((keeps_rkc st _).trans (keeps_askDrive _ _)).trans (keeps_ring _)

theorem keeps_rakeTestWait (st : Station) : KeepsOuter st st.rakeTestWait := by
  unfold Station.rakeTestWait
  split
  · exact (keeps_rakeEnter st _).trans (keeps_enqueue _ _)
  · exact .refl _

theorem keeps_rakeIdle (st : Station) : KeepsOuter st st.rakeIdle := (keeps_rakeEnter st _).trans (keeps_rakeTestWait _)

theorem keeps_rakeSetDemand (st : Station) : KeepsOuter st st.rakeSetDemand := (keeps_rkc st _).trans (keeps_rakeTestWait _)

theorem keeps_rakeJam (st : Station) (c : JamCause) : KeepsOuter st (st.rakeJam c) :=
  ((keeps_rakeEnter st _).trans (keeps_rkc _ _)).trans (keeps_report _ _ _)

theorem keeps_rakeAtTop (st : Station) : KeepsOuter st st.rakeAtTop := by
  unfold Station.rakeAtTop
  split
  · exact (keeps_rkc st _).trans (keeps_rakeIdle _)
  · exact keeps_rakeEnter st _

theorem keeps_rakeTrip (st : Station) : KeepsOuter st st.rakeTrip := by
  unfold Station.rakeTrip
  split
  · exact keeps_rakeJam st _
  · exact (keeps_rkc st _).trans (keeps_rakeEnter _ _)

theorem keeps_rakeDriven (st : Station) : KeepsOuter st st.rakeDriven := by
  have hb : ∀ k, KeepsOuter st (st.rakeBegin k) := fun k => by constructor <;> simp
  unfold Station.rakeDriven
  split
  · dsimp only
    split
    · exact (hb _).trans (keeps_rakeJam _ _)
    · split
      · exact (hb _).trans (keeps_rakeEnter _ _)
      · exact hb _
  · dsimp only
    split
    · exact (hb _).trans (keeps_rakeAtTop _)
    · split
      · exact (hb _).trans (keeps_rakeTrip _)
      · exact hb _
  · dsimp only
    split
    · exact (hb _).trans (keeps_rakeEnter _ _)
    · exact hb _
  all_goals exact .refl _

theorem keeps_driveReport (st : Station) : KeepsOuter st st.driveReport := by
  unfold Station.driveReport
  split
  · exact keeps_rakeDriven st
  · exact .refl _

theorem keeps_grantRake (st : Station) : KeepsOuter st st.grantRake := by
  unfold Station.grantRake
  split
  · refine KeepsOuter.trans ?_ (keeps_driveReport _)
    dsimp only
    split
    · exact (keeps_rkc st _).trans (keeps_rakeEnter _ _)
    · exact ((keeps_rkc st _).trans (keeps_rkc _ _)).trans (keeps_rakeEnter _ _)
  · exact .refl _

theorem keeps_shedRake (st : Station) : KeepsOuter st st.shedRake := by
  unfold Station.shedRake
  split
  · exact ((keeps_rkc st _).trans (keeps_rakeEnter _ _)).trans (keeps_enqueue _ _)
  · exact keeps_withdrawRake st

/-! ### Start Controller -/

theorem keeps_shedMotor (st : Station) (m : Motor) : KeepsOuter st (st.shedMotor m) := by
  unfold Station.shedMotor
  cases m with
  | pump n => exact ((keeps_stc st _).trans (keeps_shedPump _ _)).trans (keeps_reportPump _ _)
  | rake => exact (keeps_stc st _).trans (keeps_shedRake _)

theorem keeps_shedMotors (l : List Motor) (st : Station) : KeepsOuter st (l.foldl Station.shedMotor st) := by
  induction l generalizing st with
  | nil => exact .refl _
  | cons m ms ih => exact (keeps_shedMotor st m).trans (ih _)

theorem keeps_shedPass (st : Station) : KeepsOuter st st.shedPass := by
  unfold Station.shedPass
  split
  · exact .refl _
  · exact ((keeps_stc st _).trans (keeps_report _ _ _)).trans (keeps_shedMotors _ _)

theorem keeps_shedPasses (k : Nat) (st : Station) : KeepsOuter st (Station.shedPasses k st) := by
  induction k generalizing st with
  | zero => exact .refl _
  | succ k ih =>
    unfold Station.shedPasses
    split
    · exact (keeps_shedPass st).trans (ih _)
    · exact .refl _

theorem keeps_grant (st : Station) (m : Motor) : KeepsOuter st (st.grant m) := by
  have hd : ∀ t : Station, KeepsOuter t (t.deliverGrant m) := fun t => by
    cases m with
    | pump n => exact keeps_grantPump t n
    | rake => exact keeps_grantRake t
  have hn : ∀ t : Station, KeepsOuter t t.holdNewHead := fun t => by
    unfold Station.holdNewHead
    split
    · exact .refl _
    · exact keeps_hold t _
  unfold Station.grant
  exact ((((keeps_dequeue st m).trans (keeps_stc _ _)).trans (keeps_armSpacing _)).trans (hd _)).trans (hn _)

theorem keeps_grantTest (st : Station) : KeepsOuter st st.grantTest := by
  unfold Station.grantTest
  split
  · exact .refl _
  · split
    · split
      · exact keeps_grant st _
      · exact keeps_hold st _
    · exact keeps_hold st _

theorem keeps_testLoadShed (st : Station) : KeepsOuter st st.testLoadShed := by
  unfold Station.testLoadShed
  split
  · exact (keeps_stc st _).trans (keeps_report _ _ _)
  · exact .refl _

theorem keeps_judgeBudget (st : Station) : KeepsOuter st st.judgeBudget := by
  unfold Station.judgeBudget
  split
  · split
    · exact .refl _
    · exact keeps_stc st _
  · exact (keeps_stc st _).trans (keeps_report _ _ _)

theorem keeps_stcEvent (st : Station) : KeepsOuter st st.stcEvent := by
  unfold Station.stcEvent
  exact ((((keeps_shedPasses 8 st).trans (keeps_grantTest _)).trans (keeps_testLoadShed _)).trans
    (keeps_judgeBudget _)).trans (keeps_stc _ _)

theorem keeps_settleStc (st : Station) : KeepsOuter st st.settleStc := by
  unfold Station.settleStc
  split
  · exact keeps_stcEvent st
  · exact .refl _

/-- A PRU's handling with its reports and the STC's event keeps what the handling keeps. -/
theorem keeps_pumpEvent (st : Station) (n : PumpNo) (f : Station → Station) (h : KeepsOuter st (f st)) :
    KeepsOuter st (st.pumpEvent n f) :=
  (h.trans (keeps_reportPump _ _)).trans (keeps_settleStc _)

end Sys2Proof.Machine
end

