-- ==== Sys2Proof/Laws/Ops.lean ====
section
/-! SUPPORT. One lemma per shared operation that says what it can do: guards, timed events, the intake of a request, the alarm
report, the report queue, the finalisation of a reply. -/

namespace Sys2Proof.Machine

/-! ### The guard and the moment -/

@[simp] theorem Station.live_held (st : Station) (f : Station → Station) (h : st.held = true) : st.live f = st := by
  simp [Station.live, h]

@[simp] theorem Station.live_running (st : Station) (f : Station → Station) (h : st.held = false) : st.live f = f st := by
  simp [Station.live, h]

/-- Time comes to a step that it stands at, or that lies ahead with no armed event before it. -/
theorem Station.reach_cases {st u : Station} {due : Nat} (h : st.reach due = some u) :
    (due ≤ st.clock ∧ u = st) ∨ (st.clock < due ∧ (∀ d ∈ st.dues, due ≤ d) ∧ u = { st with clock := due }) := by
  unfold Station.reach at h
  split at h
  · next hc => exact .inl ⟨hc, (Option.some.inj h).symm⟩
  · next hc =>
    split at h
    · next ha => exact .inr ⟨by omega, by simpa using ha, (Option.some.inj h).symm⟩
    · cases h

/-- Reaching a moment moves nothing but the clock. -/
theorem Station.reach_clock {st u : Station} {due : Nat} (h : st.reach due = some u) : ∃ c, u = { st with clock := c } := by
  obtain ⟨-, rfl⟩ | ⟨-, -, rfl⟩ := st.reach_cases h
  · exact ⟨u.clock, rfl⟩
  · exact ⟨due, rfl⟩

/-- A timed event that comes due has its effect. -/
theorem Station.comesDue_live {st u : Station} {expiry : Option Nat} (f : Station → Station) (h : st.comesDue expiry u) :
    st.live (fun t => t.atTick expiry f) = f u := by
  obtain ⟨hh, e, rfl, hr⟩ := h
  simp [Station.live, hh, Station.atTick, Station.atStep, hr]

/-- An event of the 10 ms clock whose step comes has its effect. -/
theorem Station.atStep_reach {st u : Station} {due : Nat} (f : Station → Station) (h : st.reach due = some u) :
    st.atStep (some due) f = f u := by
  simp [Station.atStep, h]

/-- The end of a dead interval has its effect. -/
theorem Station.deadComesDue_live {st u : Station} (f : Station → Station) (h : st.deadComesDue u) :
    st.live (fun t => t.atStep t.ctu.drive.deadExpiry f) = f u := by
  obtain ⟨hh, e, he, hr⟩ := h
  simp [Station.live, hh, he, st.atStep_reach f hr]

/-- A taken change of an input has its effect. -/
theorem Station.changeComesDue_live {st u : Station} {i : Input} (f : Station → Station) (h : st.changeComesDue i u) :
    st.live (fun t => t.atStep ((t.ctu.input i).dueWhen true) f) = f u := by
  obtain ⟨hh, e, he, hr⟩ := h
  simp [Station.live, hh, he, st.atStep_reach f hr]

/-- A first settling of an input has its effect. -/
theorem Station.settlingComesDue_live {st u : Station} {i : Input} (f : Station → Station) (h : st.settlingComesDue i u) :
    st.live (fun t => t.atStep ((t.ctu.input i).dueWhen false) f) = f u := by
  obtain ⟨hh, e, he, hr⟩ := h
  simp [Station.live, hh, he, st.atStep_reach f hr]

/-- A timed event does nothing, or has its effect at a station that differs in the clock alone. -/
theorem Station.atTick_cases (st : Station) (expiry : Option Nat) (f : Station → Station) :
    st.atTick expiry f = st ∨ ∃ c, st.atTick expiry f = f { st with clock := c } := by
  unfold Station.atTick Station.atStep
  split
  · exact .inl rfl
  · split
    · exact .inl rfl
    · next h => obtain ⟨c, rfl⟩ := st.reach_clock h; exact .inr ⟨c, rfl⟩

/-! ### Ports -/

theorem Station.port_setPort (st : Station) (q : Port) (p : PortId) : (st.setPort q p).port p = q := by
  cases p <;> rfl

/-- The rise of select leaves every block but the port as it was. -/
theorem Station.settled_setPort (st : Station) (q : Port) (p : PortId) (i : Input) :
    (st.setPort q p).settled i = st.settled i := by cases p <;> rfl

theorem Station.permits_rise (st : Station) (p : PortId) (k : Nat) (c : ReqClass) :
    (st.rise p k).permits p c = st.permits p c := by
  simp [Station.permits, Station.rise, Station.settled_setPort]

theorem Port.rise_slot (q : Port) (k : Nat) : (q.rise k).slot = q.slot := by
  unfold Port.rise; split <;> rfl

theorem Station.slotPending_rise (st : Station) (p : PortId) (k : Nat) : (st.rise p k).slotPending p = st.slotPending p := by
  simp [Station.slotPending, Station.rise, Port.rise_slot]

theorem Station.permits_port (st : Station) (q : PortId) (c : ReqClass) (p : Port) (k : PortId) :
    (st.setPort p k).permits q c = st.permits q c := by
  simp [Station.permits, Station.settled_setPort]

/-! ### Intake -/

/-- A request that reaches its owner leaves the owner's effect and the owner's reply. -/
theorem Station.intake_admits {st : Station} {p : PortId} {k : Kind} {rest ps : List Byte}
    (owner : List Byte → Station → Reply × Station) (h : st.admits p k.cls k.form rest ps) :
    st.intake p k owner rest =
      (owner ps (st.rise p (1 + rest.length))).2.putReply p k.code (owner ps (st.rise p (1 + rest.length))).1 := by
  obtain ⟨⟨hh, hs⟩, hf, hm, hp⟩ := h
  simp [Station.intake, Station.live, hh, Station.slotPending_rise, hs, Station.judge, hf, hm, Station.permits_rise, hp,
    Station.answer]

/-- Behind a PENDING reply a request is discarded. -/
theorem Station.intake_pending {st : Station} {p : PortId} {k : Kind} {rest : List Byte}
    (owner : List Byte → Station → Reply × Station) (hh : st.held = false) (hs : st.slotPending p = true) :
    st.intake p k owner rest = (st.rise p (1 + rest.length)).setNotTaken p true := by
  simp [Station.intake, Station.live, hh, Station.slotPending_rise, hs]

/-- A request whose form is wrong is answered REFUSED_FORMAT. -/
theorem Station.intake_malformed {st : Station} {p : PortId} {k : Kind} {rest : List Byte}
    (owner : List Byte → Station → Reply × Station) (ht : st.takes p)
    (hf : ∀ ps, frameParams rest = some ps → k.form.fits ps = false) :
    st.intake p k owner rest = (st.rise p (1 + rest.length)).putReply p k.code (.final .refusedFormat []) := by
  obtain ⟨hh, hs⟩ := ht
  simp only [Station.intake, Station.live, hh, Station.slotPending_rise, hs, Station.judge]
  cases hp : frameParams rest with
  | none => simp
  | some ps => simp [hf ps hp]

/-- A request whose class is not permitted is answered REFUSED_AUTHORITY. -/
theorem Station.intake_unauthorised {st : Station} {p : PortId} {k : Kind} {rest ps : List Byte}
    (owner : List Byte → Station → Reply × Station) (ht : st.takes p) (hf : frameParams rest = some ps)
    (hm : k.form.fits ps = true) (hp : st.permits p k.cls = false) :
    st.intake p k owner rest = (st.rise p (1 + rest.length)).putReply p k.code (.final .refusedAuthority []) := by
  obtain ⟨hh, hs⟩ := ht
  simp [Station.intake, Station.live, hh, Station.slotPending_rise, hs, Station.judge, hf, hm, Station.permits_rise, hp]

/-- Everything an intake can do. -/
theorem Station.intake_cases (st : Station) (p : PortId) (k : Kind) (owner : List Byte → Station → Reply × Station)
    (rest : List Byte) :
    st.intake p k owner rest = st ∨ st.intake p k owner rest = (st.rise p (1 + rest.length)).setNotTaken p true ∨
    (∃ r : Reply, r.awaits = none ∧ r.status ≠ .pending ∧
      st.intake p k owner rest = (st.rise p (1 + rest.length)).putReply p k.code r) ∨
    ∃ ps, st.admits p k.cls k.form rest ps ∧ st.intake p k owner rest =
      (owner ps (st.rise p (1 + rest.length))).2.putReply p k.code (owner ps (st.rise p (1 + rest.length))).1 := by
  cases hh : st.held with
  | true => left; simp [Station.intake, hh]
  | false =>
    right
    cases hs : st.slotPending p with
    | true => left; exact Station.intake_pending owner hh hs
    | false =>
      right
      cases hf : frameParams rest with
      | none =>
        left
        exact ⟨_, rfl, by decide, Station.intake_malformed owner ⟨hh, hs⟩ (by simp [hf])⟩
      | some ps =>
        cases hm : k.form.fits ps with
        | false =>
          left
          exact ⟨_, rfl, by decide, Station.intake_malformed owner ⟨hh, hs⟩ (by simp [hf, hm])⟩
        | true =>
          cases hp : st.permits p k.cls with
          | false => left; exact ⟨_, rfl, by decide, Station.intake_unauthorised owner ⟨hh, hs⟩ hf hm hp⟩
          | true => right; exact ⟨ps, ⟨⟨hh, hs⟩, hf, hm, hp⟩, Station.intake_admits owner ⟨⟨hh, hs⟩, hf, hm, hp⟩⟩

/-! ### Alarm reports -/

/-- A report equal to the condition held changes nothing. -/
theorem Station.report_same {st : Station} {k : PointNo} {on : Bool} (h : st.alt.points[k].condition = on) :
    st.report k on = st := by
  unfold Station.report
  rw [if_pos h]

/-- The point that a report names carries the condition reported. -/
theorem Station.report_condition (st : Station) (k : PointNo) (on : Bool) :
    (st.report k on).alt.points[k].condition = on := by
  unfold Station.report
  split
  · assumption
  · cases on <;>
      simp [Station.movePoint, Station.record, Station.judgeBeacon, PointRec.reported]

/-- After the joint judgement the point holds the condition judged (R111). -/
theorem Station.judgeStartLimited_condition (st : Station) :
    st.judgeStartLimited.alt.points[Alarm.startLimited].condition = st.startLimitedCondition := st.report_condition _ _

/-- Any other point stays as it was. -/
theorem Station.report_others (st : Station) {k j : PointNo} (on : Bool) (h : j ≠ k) :
    (st.report k on).alt.points[j] = st.alt.points[j] := by
  unfold Station.report
  split
  · rfl
  · have : k.val ≠ j.val := fun e => h (Fin.ext e.symm)
    simp [Station.movePoint, Station.record, Station.judgeBeacon, Vector.getElem_set_ne, this]

/-! ### The report queue -/

theorem dropOldestOf_length_le (c : Nat) (q : List Report) : (dropOldestOf c q).length ≤ q.length := by
  induction q with
  | nil => simp [dropOldestOf]
  | cons r rs ih =>
    unfold dropOldestOf
    split <;> simp only [List.length_cons] <;> omega

/-- A queue that holds a record of class `c` loses exactly one. -/
theorem dropOldestOf_length {c : Nat} {q : List Report} (h : lowestClass q = some c) :
    (dropOldestOf c q).length + 1 = q.length := by
  have key : ∀ q : List Report, (∃ r ∈ q, r.body.cls = c) → (dropOldestOf c q).length + 1 = q.length := by
    intro q
    induction q with
    | nil => rintro ⟨r, hr, -⟩; cases hr
    | cons r rs ih =>
      rintro ⟨x, hx, hc⟩
      unfold dropOldestOf
      split
      · simp
      · next hn =>
        have : x ∈ rs := by
          rcases List.mem_cons.mp hx with rfl | h
          · exact absurd hc hn
          · exact h
        simpa using ih ⟨x, this, hc⟩
  apply key
  clear key
  induction q generalizing c with
  | nil => simp [lowestClass] at h
  | cons r rs ih =>
    unfold lowestClass at h
    cases hl : lowestClass rs with
    | none =>
      rw [hl] at h
      exact ⟨r, by simp, Option.some.inj h⟩
    | some d =>
      rw [hl] at h
      have h : min r.body.cls d = c := Option.some.inj h
      obtain ⟨x, hx, hd⟩ := ih hl
      by_cases hm : r.body.cls ≤ d
      · exact ⟨r, by simp, by rw [← h, Nat.min_eq_left hm]⟩
      · exact ⟨x, by simp [hx], by rw [← h, hd, Nat.min_eq_right (by omega)]⟩

/-- A new record never makes the queue longer than its capacity. -/
theorem addRecord_length {q : List Report} (r : Report) (h : q.length ≤ Config.queueCap) :
    (addRecord q r).length ≤ Config.queueCap := by
  unfold addRecord
  split
  · simp only [List.length_append, List.length_singleton]; omega
  · split
    · next hl =>
      cases q with
      | nil => simp [Config.queueCap]
      | cons x xs => unfold lowestClass at hl; cases hl
    · next hl =>
      split
      · have := dropOldestOf_length hl
        simp only [List.length_append, List.length_singleton]; omega
      · exact h

/-! ### Finalisation -/

/-- A finalisation leaves the station as it was, or turns the PENDING slot of that request final. -/
theorem Station.finalise_cases (st : Station) (p : PortId) (req : PendingRequest) (status : ReplyStatus) (data : List Byte) :
    ((st.port p).slot.status = .pending ∧ (st.port p).awaits = some req ∧
      st.finalise p req status data = st.setPort { st.port p with
        slot := { (st.port p).slot with status := status, data := data }, awaits := none, readInd := false } p) ∨
    (¬((st.port p).slot.status = .pending ∧ (st.port p).awaits = some req) ∧ st.finalise p req status data = st) := by
  unfold Station.finalise
  dsimp only
  split
  · next h => exact .inl ⟨h.1, h.2, rfl⟩
  · next h => exact .inr ⟨h, rfl⟩

/-! ### Histories -/

theorem pruned_length_le (now : Nat) (l : List Nat) : (pruned now l).length ≤ l.length :=
  (List.dropWhile_sublist _).length_le

theorem newest_length_le (k : Nat) (l : List Nat) : (newest k l).length ≤ k := by
  simp [newest]; omega

/-- A pruned rising history holds no entry older than an hour. -/
theorem pruned_recent {now : Nat} {l : List Nat} (h : l.Pairwise (· ≤ ·)) : ∀ g ∈ pruned now l, now ≤ g + 36000 := by
  induction l with
  | nil => simp [pruned]
  | cons x xs ih =>
    intro g hg
    rw [List.pairwise_cons] at h
    unfold pruned at hg
    rw [List.dropWhile_cons] at hg
    split at hg
    · exact ih h.2 g hg
    · next hx =>
      have hx : now ≤ x + 36000 := by simpa using hx
      rcases List.mem_cons.mp hg with rfl | hm
      · exact hx
      · have := h.1 g hm; omega

end Sys2Proof.Machine
end

