-- ==== Sys2Proof/Tests/Slice0.lean ====
section
/-! SUPPORT. Small tests: ill-formed operands are refused, the bytes of a period give the command of Table 11-3, the manual's worked
examples step by step, and for each obligation a state and operands that meet its hypotheses. -/

open Sys2Proof Sys2Proof.Machine

namespace Sys2Proof.Tests

/-! ### A quiet station -/

/-- A settled contact with no candidate. -/
def contact (on : Bool) : InputRec := ⟨on, on, true, none, none⟩

/-- An installed pump in a state, with the default settings and nothing else set. -/
def pumpAt (s : PumpState) : PumpRec := { PumpRec.powerUp (.default true) 0 0 with state := s }

/-- A position with no pump. -/
def noPump : PumpRec := .powerUp (.default false) 0 0

/-- A station at uptime 100.0 s, pumps 1 and 2 installed and READY with their selectors at AUTO, the maintenance key on, no alarm, no
record, nothing due before the next cycle at 101.0 s. -/
def quiet : Station :=
  { Station.reset with
    clock := 10000
    ctu := { ContactUnit.powerUpOpen .default with
      hoaHand := Vector.replicate 6 (contact false), hoaAuto := Vector.replicate 6 (contact true)
      runFb := Vector.replicate 6 (contact false), pumpFault := Vector.replicate 6 (contact false)
      limTop := contact false, limBottom := contact false, torqueTrip := contact false, skipFull := contact false
      floatHigh := contact false, floatLow := contact true, modeRemote := contact false, maintKey := contact true
      genRun := contact false, selectors := Vector.replicate 6 ⟨.auto, false⟩, drive := .clear }
    lve := { Station.reset.lve with nextCycle := 1010 }
    rpq := { ReportQueue.powerUp with stationTime := 100, nextSecond := 1010 }
    pumps := #v[pumpAt .ready, pumpAt .ready, noPump, noPump, noPump, noPump]
    alt := .powerUp }

/-- What follows the code byte of a request with these parameters. -/
def frame (ps : List Byte) : List Byte := byte ps.length ++ ps

/-- The station that a command leaves; the station itself where it does not answer a next state. -/
def ran (c : Instr) (st : Station) : Station :=
  match exec c ⟨st, []⟩ with
  | .next t => t.st
  | .fault _ => st
  | .refused _ => st

/-- The reply in port A's slot after a command. -/
def reply (c : Instr) (st : Station) : ReplyStatus × List Byte :=
  let q := (ran c st).portA.slot
  (q.status, q.data)

/-! ### Operands that no command has -/

theorem test_one_byte_is_no_empty_period :
    (Instr.emptyPeriod .a 1).wellFormed = false ∧ exec (.emptyPeriod .a 1) ⟨quiet, []⟩ = .refused .illFormed :=
  ⟨rfl, rfl⟩

theorem test_no_bytes_carry_no_request :
    (Instr.requestNotTaken .a []).wellFormed = false ∧ (Instr.requestNotTaken .a [0]).wellFormed = false ∧
    exec (.requestNotTaken .a [0]) ⟨quiet, []⟩ = .refused .illFormed := ⟨rfl, rfl, rfl⟩

theorem test_zero_and_catalogue_codes_are_no_unknown_request :
    (Instr.unknownRequest .a 0 []).wellFormed = false ∧ (Instr.unknownRequest .a 0x6A []).wellFormed = false ∧
    exec (.unknownRequest .a 0x6A []) ⟨quiet, []⟩ = .refused .illFormed := ⟨rfl, rfl, rfl⟩

theorem test_each_reader_takes_the_update_once :
    (Instr.measurementCycle 0 0 0 0 [.duty, .duty, .rake, .overflow, .trace]).wellFormed = false ∧
    exec (.measurementCycle 0 0 0 0 [.duty, .rake]) ⟨quiet, []⟩ = .refused .illFormed := ⟨rfl, rfl⟩

/-! ### Periods (Table 11-3) -/

theorem test_period_without_request :
    decodePeriod .a [] = .emptyPeriod .a 0 ∧ decodePeriod .b [0] = .portClear .b ∧
    decodePeriod .a [0, 0] = .emptyPeriod .a 2 := by decide

theorem test_period_view : decodePeriod .a [0x08, 0x06, 0, 0, 13, 5, 0, 1] = .readCurve .a [0x06, 0, 0, 13, 5, 0, 1] := by decide

theorem test_period_ack : decodePeriod .b [0x20, 0x01, 0x00] = .ackAlarm .b [0x01, 0x00] := by decide

theorem test_period_operate : decodePeriod .a [0x43, 0x01, 0x04] = .resetPumpFault .a [0x01, 0x04] := by decide

theorem test_period_configure : decodePeriod .a [0x67, 0x01, 0x01] = .commitCurve .a [0x01, 0x01] := by decide

theorem test_period_report : decodePeriod .b [0x80, 0x02, 0x01, 0xF5] = .takeReport .b [0x02, 0x01, 0xF5] := by decide

theorem test_period_unknown : decodePeriod .a [0x0E, 0x00] = .unknownRequest .a 0x0E [0x00] := by decide

/-- No row has bits, so no word puts a command in front of the queue. -/
theorem test_words_spell_no_command : decodeTableWord 8 0x67 = none ∧ 
    (⟨quiet, []⟩ : State).withFetchWord 8 0x67 = ⟨quiet, []⟩ := ⟨rfl, rfl⟩

/-! ### Levels: Tables 1-5, 1-9, 1-10 and 1-11, sections 2.10 and 2.11 -/

theorem test_rounding_of_table_1_5 :
    roundDiv .nearestAway 601 2 = 301 ∧ roundDiv .nearestEven 601 2 = 300 ∧ roundDiv .towardZero 601 2 = 300 ∧
    roundDiv .nearestAway (-601) 2 = -301 ∧ roundDiv .nearestEven (-601) 2 = -300 ∧ roundDiv .towardZero (-601) 2 = -300 ∧
    roundDiv .nearestEven 50300 16 = 3144 ∧ roundDiv .towardZero 50300 16 = 3143 ∧
    roundDiv .nearestAway (-11) 4 = -3 ∧ roundDiv .towardZero (-11) 4 = -2 := by decide

/-- Table 1-9: v = 51,200, F = 50,300, L = 3,144. -/
theorem test_channel_of_table_1_9 :
    let c : Channel := { Channel.powerUp ⟨6000, 200, 2⟩ with state := .ok, filter := 50000 }
    c.settings.scale .nearestAway 2400 = 51200 ∧ (c.cycle .nearestAway 2400).filter = 50300 ∧
    (c.cycle .nearestAway 2400).level = 3144 ∧ (c.cycle .towardZero 2400).level = 3143 := by decide

/-- Table 1-10: W, Q_in and Q_weir; the five-point curve of section 2.10. -/
theorem test_update_of_table_1_10 :
    wellVote .nearestAway 150 (some 3144) (some 3150) = ⟨some 3147, .dual, false⟩ ∧
    segmentValue .nearestAway ⟨3000, 84000⟩ ⟨3500, 102500⟩ 3147 = 89439 ∧
    inflowSum .nearestAway 8 (some 89439) 150 (⟨some 88000, 0⟩ :: List.replicate 7 ⟨some 89000, 150⟩) = some 330 ∧
    segmentValue .nearestAway ⟨50, 40⟩ ⟨100, 130⟩ 85 = 103 := by decide

/-- Table 1-11: WELL_B through cycles 101 to 103 and 110 to 112. -/
theorem test_channel_of_table_1_11 :
    let step := fun (c : Channel) (r : BitVec 12) => c.cycle .nearestAway r
    let ok : Channel := { Channel.powerUp .default with state := .ok, filter := 16000 }
    let c103 := step (step (step ok 0) 0) 0
    let c111 := step (step c103 2400) 2400
    (step ok 0).state = .suspect ∧ (step ok 0).badRun = 1 ∧ c103.state = .failed ∧ c103.badRun = 0 ∧
    (step c103 2400).filter = 40000 ∧ c111.state = .recovering ∧ c111.goodRun = 2 ∧
    (step c111 2400).state = .ok ∧ (step c111 2400).goodRun = 0 := by decide

/-- The intended points of section 2.10 in a copy. -/
def rating (n : Nat) : CurveCopy :=
  ⟨n, ((((Vector.replicate 16 ⟨0, 0⟩).set 1 ⟨50, 40⟩).set 2 ⟨100, 130⟩).set 3 ⟨200, 420⟩).set 4 ⟨400, 1350⟩⟩

/-- A station whose WEIR curve has this shadow and mark. -/
def withShadow (c : CurveCopy) (mark : Option PortId) : Station :=
  { quiet with crv := { quiet.crv with weir := { quiet.crv.weir with shadow := c, mark := mark } } }

/-- Table 2-7 at 250 mm and 520 mm. -/
theorem test_rating_of_table_2_7 :
    (rating 5).interp .nearestAway 250 = ⟨653, false, false⟩ ∧ (rating 5).interp .nearestEven 250 = ⟨652, false, false⟩ ∧
    (rating 5).interp .nearestAway 50 = ⟨40, false, false⟩ ∧ (rating 5).interp .towardZero 520 = ⟨1350, false, true⟩ := by decide

/-- Table 2-4. -/
theorem test_slots_of_table_2_4 :
    readSlots true 3 4 = ([3, 2, 1, 0], true) ∧ readSlots false 13 5 = ([13, 14, 15], false) ∧
    readSlots true 1 6 = ([1, 0], false) ∧ readSlots false 15 1 = ([15], true) := by decide

/-- Section 2.11: the default VOLUME curve from slot 1, in both forms. -/
theorem test_read_curve :
    reply (.readCurve .a (frame [0, 0, 1, 1, 0, 0])) quiet =
      (.done, [0, 0, 2, 0, 0, 1, 0x75, 0x30, 0xFF, 0xFF, 1, 0, 1]) ∧
    reply (.readCurve .a (frame [0, 0, 1, 1, 0, 1])) quiet =
      (.done, [0, 0, 2, 0, 1, 1, 0x75, 0x30, 0x2D, 0xC6, 0xC0, 1, 0]) := by decide

theorem test_copy_curve :
    reply (.copyCurve .a (frame [1])) (withShadow (rating 5) none) = (.done, [1, 2]) ∧
    (ran (.copyCurve .a (frame [1])) (withShadow (rating 5) none)).crv.weir.shadow = .defaultWeir := by decide

/-- Table 2-6, step 6. -/
theorem test_write_curve_points :
    let st := withShadow { (rating 5) with slots := (rating 5).slots.set 3 ⟨100, 420⟩ } none
    reply (.writeCurvePoints .a (frame [1, 3, 1, 0, 200, 0, 0x01, 0xA4])) st = (.done, [1, 4]) ∧
    (ran (.writeCurvePoints .a (frame [1, 3, 1, 0, 200, 0, 0x01, 0xA4])) st).crv.weir.shadow = rating 5 := by decide

theorem test_set_curve_count :
    (ran (.setCurveCount .a (frame [1, 5])) (withShadow (rating 2) none)).crv.weir.shadow = rating 5 := by decide

/-- Table 2-6, steps 5 and 7. -/
theorem test_commit_curve :
    reply (.commitCurve .a (frame [1])) (withShadow { (rating 5) with slots := (rating 5).slots.set 3 ⟨100, 420⟩ } none) =
      (.refusedRange, [1, 3, 3]) ∧
    reply (.commitCurve .a (frame [1])) (withShadow (rating 5) none) = (.pending, [1]) := by decide

/-- Table 2-6, step 8: behind the mark of port A, the telemetry master's write is refused. -/
theorem test_write_to_a_pending_curve :
    (ran (.writeCurvePoints .b (frame [1, 4, 1, 0, 200, 0, 1, 0])) (withShadow (rating 5) (some .a))).portB.slot =
      ⟨.refusedBusy, 0x65, []⟩ := by decide

/-- A first cycle with good samples, Table 9-3 at 1.0 s: points 17 to 21 turn on, point 19 lights the beacon. -/
theorem test_first_cycle :
    let t := ran (.measurementCycle 2400 2400 2400 2400 [.duty, .rake, .overflow, .trace, .reports])
      { quiet with lve := { quiet.lve with nextCycle := 1000 } }
    t.lve.wellA.state = .recovering ∧ t.lve.nextCycle = 1010 ∧ t.alt.points[20].state = .activeUnack ∧
    t.alt.attnA.pending = 0x1F0000 ∧ t.alt.beaconDemand = true ∧ t.rpq.queue.length = 5 := by decide

theorem test_write_channel :
    (ran (.writeChannel .a (frame [1, 0x17, 0x70, 0, 200, 3])) quiet).lve.wellB.settings = ⟨6000, 200, 3⟩ ∧
    reply (.writeChannel .a (frame [1, 0, 99, 0, 200, 3])) quiet = (.refusedRange, []) := by decide

theorem test_set_arith_control :
    let st : Station := { quiet with lve := { quiet.lve with arith := ⟨.nearestAway, ⟨true, true, false, true, false⟩, .clear⟩ } }
    (ran (.setArithControl .a (frame [2, 0, 0, 0, 0, 1, 1, 0, 0, 0, 0])) st).lve.arith =
      ⟨.towardZero, ⟨false, true, false, true, false⟩, ⟨false, false, false, false, true⟩⟩ := by decide

theorem test_read_arith :
    reply (.readArith .a (frame [])) { quiet with lve := { quiet.lve with arith :=
      ⟨.nearestEven, ⟨false, false, true, true, false⟩, ⟨false, false, false, false, true⟩⟩ } } =
      (.done, [1, 0, 0, 1, 1, 0, 0, 0, 0, 0, 1, 1]) := by decide

/-! ### Contacts, pumps and start control: Tables 3-3, 5-4, 6-6, 6-7 and 6-8 -/

/-- The quiet station with pump 1 in this record, its RUN_FB and its output as said, at an uptime in ticks. -/
def withPump (p : PumpRec) (feedback output : Bool) (uptime : Nat) : Station :=
  { quiet with
    clock := 10 * uptime
    pumps := quiet.pumps.set 0 p
    ctu := { quiet.ctu with
      runFb := quiet.ctu.runFb.set 0 (contact feedback)
      pumpRun := (Vector.replicate 6 false).set 0 output }
    stc := { quiet.stc with runFbSeen := quiet.stc.runFbSeen.set 0 feedback } }

/-- A station with a change of an input due: the raw level differs, its candidate has run its time. -/
def changing (st : Station) (i : Input) (on : Bool) : Station := st.setInput i ⟨on, !on, true, some ⟨0, 50⟩, none⟩

/-- A station with an input that has not settled yet, its candidate having run its time. -/
def settling (st : Station) (i : Input) (on : Bool) : Station := st.setInput i ⟨on, false, false, some ⟨0, 50⟩, none⟩

theorem test_raw_level_change :
    ((ran (.rawLevelChange .limTop true) quiet).ctu.limTop = ⟨true, false, true, some ⟨10000, 20⟩, none⟩) ∧
    (ran (.rawLevelChange .limTop false) (changing quiet .limTop true)).ctu.limTop = contact false := by decide

/-- Both contacts of a selector on are a conflict, read as OFF (Table 3-3). -/
theorem test_selector_conflict :
    let t := ran (.debounceExpiry (.hoaHand 0) false) (changing quiet (.hoaHand 0) true)
    t.ctu.selectors[0] = ⟨.off, true⟩ ∧ t.pumps[0].state = .off := by decide

/-- Table 6-6 at 1,002.3: RUN_FB on confirms the start. -/
theorem test_start_confirmed :
    let p := { pumpAt .starting with demand := true, history := [10000], timer := some 10050 }
    let t := ran (.debounceExpiry (.runFb 0) false) (changing (withPump p false true 10023) (.runFb 0) true)
    t.pumps[0].state = .running ∧ t.pumps[0].timer = some 10623 ∧ t.ctu.pumpRun[0] = true := by decide

/-- A selector pair that settles at AUTO with the pump's other contacts settled takes the pump into duty (R48, R107). -/
theorem test_first_settling :
    let t := ran (.firstSettling (.pumpFault 0) false) (settling (withPump (pumpAt .off) false false 1000) (.pumpFault 0) false)
    t.ctu.pumpFault[0] = contact false ∧ t.pumps[0].state = .ready := by decide

/-- Table 6-6 at 1,000.0: a grant. -/
theorem test_spacing_expiry_grants :
    let p := { pumpAt .waiting with demand := true, startsToday := 3 }
    let st := { withPump p false false 10000 with stc := { quiet.stc with
      queue := [⟨.pump 0, 9990, .spacing⟩], lastGrant := some 9900, spacingExpiry := some 10000 } }
    let t := ran .spacingExpiry st
    t.pumps[0].state = .starting ∧ t.pumps[0].timer = some 10050 ∧ t.pumps[0].history = [10000] ∧
    t.pumps[0].startsToday = 4 ∧ t.ctu.pumpRun[0] = true ∧ t.stc.queue = [] := by decide

/-- Table 5-4 at 8,092.0: the head has been held for BUDGET for 60 s. -/
theorem test_budget_expiry :
    let p := { pumpAt .waiting with demand := true, settings := { PumpSettings.default true with ratedPower := 1300 } }
    let st := { withPump p false false 80920 with stc := { quiet.stc with
      queue := [⟨.pump 0, 80320, .budget⟩], budgetSince := some 80320 } }
    (ran .budgetExpiry st).stc.capacityHeld = true ∧ (ran .budgetExpiry st).alt.points[25].condition = true := by decide

/-- Table 6-7 at 2,905.0. -/
theorem test_confirm_expiry :
    let p := { pumpAt .starting with demand := true, history := [29000], timer := some 29050 }
    let t := ran (.confirmExpiry 0) (withPump p false true 29050)
    t.pumps[0].state = .faulted ∧ t.pumps[0].cause = some .failToStart ∧ t.pumps[0].history = [29000] ∧
    t.ctu.pumpRun[0] = false := by decide

/-- Table 6-6 at 1,062.3, with and without the NORMAL mark. -/
theorem test_min_run_expiry :
    let p := { pumpAt .running with demand := true, timer := some 10623 }
    let t := ran (.minRunExpiry 0) (withPump p true true 10623)
    let m := ran (.minRunExpiry 0) (withPump { p with demand := false, deferred := .normal } true true 10623)
    t.pumps[0].state = .running ∧ t.pumps[0].minRunElapsed = true ∧ t.pumps[0].timer = none ∧
    m.pumps[0].state = .stopping ∧ m.pumps[0].timer = some 10673 ∧ m.ctu.pumpRun[0] = false := by decide

theorem test_stop_confirm_expiry :
    let p := { pumpAt .stopping with timer := some 10750 }
    (ran (.stopConfirmExpiry 0) (withPump p true false 10750)).pumps[0].cause = some .failToStop ∧
    (ran (.stopConfirmExpiry 0) (withPump p false false 10750)).pumps[0].timer = some 11050 := by decide

/-- Table 6-6 at 1,101.1. -/
theorem test_min_off_expiry :
    (ran (.minOffExpiry 0) (withPump { pumpAt .resting with timer := some 11011 } false false 11011)).pumps[0] =
      { pumpAt .ready with stateChange := 11011 } := by decide

/-- Table 6-7 at 5,600.1. -/
theorem test_prune_expiry :
    let p := { pumpAt .ready with
      settings := { PumpSettings.default true with maxStarts := 3 }, history := [20000, 24000, 29000] }
    let t := ran (.pruneExpiry 0) (withPump p false false 56001)
    t.pumps[0].history = [24000, 29000] ∧ t.pumps[0].pruneExpiry = some 60001 := by decide

theorem test_read_pump_range : reply (.readPump .a (frame [7])) quiet = (.refusedRange, []) := by decide

theorem test_inhibit_pump :
    (ran (.inhibitPump .a (frame [1])) quiet).pumps[0].state = .inhibited ∧
    reply (.inhibitPump .a (frame [3])) quiet = (.refusedState, []) := by decide

theorem test_release_pump :
    let t := ran (.releasePump .a (frame [1])) (withPump { pumpAt .inhibited with inhibit := true } false false 1000)
    t.pumps[0].state = .ready ∧ t.pumps[0].inhibit = false := by decide

/-- Table 6-7 at 3,100.0: the reset goes to RESTING; refused while RUN_FB is on. -/
theorem test_reset_pump_fault :
    let p := { pumpAt .faulted with cause := some .failToStart }
    (ran (.resetPumpFault .a (frame [1])) (withPump p false false 31000)).pumps[0] =
      { pumpAt .resting with timer := some 31300, stateChange := 31000 } ∧
    reply (.resetPumpFault .a (frame [1])) (withPump p true false 31000) = (.refusedState, []) := by decide

/-- An installation of pump 3 puts it last in the rotation list and, with its selector at AUTO, into READY (R59, R60). -/
theorem test_write_pump_record :
    let t := ran (.writePumpRecord .a (frame [3, 1, 0, 200, 0, 100, 0, 30, 0, 20, 4, 3, 3])) quiet
    t.pumps[2].settings = ⟨true, 200, 100, 30, 20, 4, 3, 3⟩ ∧ t.dty.rotation = [0, 1, 2] ∧ t.pumps[2].state = .ready := by decide

/-- A refused write prunes the start that is 3,600.1 s old, and one 3,600 s old stays (R110). -/
theorem test_refused_write_prunes :
    let st := withPump { pumpAt .ready with history := [999, 1000] } false false 37000
    let t := ran (.writePumpRecord .a (frame [1, 1, 0, 150, 0, 150, 0, 60, 0, 30, 0, 5, 5])) st
    t.portA.slot = ⟨.refusedRange, 0x61, [5]⟩ ∧ t.pumps[0] = { pumpAt .ready with history := [1000] } := by decide

theorem test_write_rotation :
    (ran (.writeRotation .a (frame [2, 2, 2, 1])) quiet).dty.rotation = [1, 0] ∧
    reply (.writeRotation .a (frame [2, 2, 2, 2])) quiet = (.refusedRange, []) := by decide

/-- A table whose level 1 starts at 400 mm, at its stop level: test 2 at level 1. -/
theorem test_set_setpoints :
    let table : Setpoints := { Setpoints.default with start := Setpoints.default.start.set 0 800 }
    reply (.setSetpoints .a (frame (encode Setpoints.widths table.values))) quiet = (.refusedRange, [2, 1]) ∧
    (ran (.setSetpoints .a (frame (encode Setpoints.widths { Setpoints.default with margin := 21 }.values))) quiet).dty.setpoints.margin =
      21 := by decide

/-- Table 6-8: a pump like pump 1 and one like pump 5. -/
theorem test_station_reset :
    let st := withPump { pumpAt .running with deferred := .normal, timer := some 1300 } true true 1000
    let t := ran (.stationReset .a (frame [])) { st with pumps := st.pumps.set 1 { pumpAt .inhibited with inhibit := true } }
    t.portA.slot = ⟨.done, 0x6A, []⟩ ∧ t.pumps[0].state = .stopping ∧ t.pumps[0].timer = some 1050 ∧
    t.pumps[1].state = .ready ∧ t.pumps[1].inhibit = false ∧ t.rpq.queue = [⟨0, 100, .station .softReset⟩] := by
  decide +kernel

/-! ### Rake: Tables 7-5 and 7-6 -/

/-- The quiet station with this rake record and drive, at an uptime in ticks. -/
def withRake (r : Rake) (drive : Drive) (uptime : Nat) : Station :=
  { quiet with clock := 10 * uptime, rkc := { r with intervalOrigin := uptime }, ctu := { quiet.ctu with drive := drive } }

/-- A rake in a state, its phase timer at an uptime. -/
def rakeAt (s : RakeState) (timer : Option Nat) : Rake := { Rake.powerUp 0 with state := s, timer := timer, retries := 1 }

theorem test_request_rake_cycle :
    let t := ran (.requestRakeCycle .a (frame [])) (withRake (rakeAt .idle none) .clear 20000)
    t.portA.slot = ⟨.done, 0x44, [2]⟩ ∧ t.rkc.state = .lowering ∧ t.rkc.demand = false ∧ t.rkc.retries = 2 ∧
    t.rkc.timer = some 20400 ∧ t.ctu.drive = .driven .down := by decide

/-- Table 7-5 at 2,018.8. -/
theorem test_dead_interval_expiry :
    let t := ran .deadIntervalExpiry (withRake { rakeAt .raising none with drivePending := true } (.dead 201880 (some .up)) 20188)
    t.ctu.drive = .driven .up ∧ t.rkc.timer = some 20788 ∧ t.rkc.drivePending = false := by decide

/-- Table 7-5 at 2,033.1. -/
theorem test_reverse_timer_expiry :
    let t := ran .reverseTimerExpiry (withRake (rakeAt .reversing (some 20331)) (.driven .down) 20331)
    t.rkc.state = .raising ∧ t.rkc.drivePending = true ∧ t.ctu.drive = .dead 203360 (some .up) ∧ t.rkc.retries = 1 := by decide

/-- Table 7-5 at 2,056.0 and 2,076.0. -/
theorem test_dwell_and_rest_expiry :
    let t := ran .dwellExpiry (withRake { rakeAt .discharging (some 20560) with demand := true } .clear 20560)
    t.rkc.state = .resting ∧ t.rkc.timer = some 20760 ∧ t.rkc.cyclesToday = 1 ∧ t.rkc.lastCycleEnd = some 20560 ∧
    (ran .restTimerExpiry (withRake (rakeAt .resting (some 20760)) .clear 20760)).rkc.state = .idle := by decide

/-- Table 7-6 at 5,160.0. -/
theorem test_raise_timer_expiry :
    let t := ran .raiseTimerExpiry (withRake { rakeAt .raising (some 51600) with jamsToday := 2 } (.driven .up) 51600)
    t.rkc.state = .jammed ∧ t.rkc.jamCause = some .travelRaise ∧ t.rkc.jamsToday = 3 ∧ t.ctu.drive = .dead 516050 none := by decide

/-- A turn-off at the last 10 ms step of a tick: the dead interval is 0.5 s whole (R53). -/
theorem test_dead_interval_is_whole :
    (ran .lowerTimerExpiry { withRake (rakeAt .lowering (some 20400)) (.driven .down) 20400 with clock := 204009 }).ctu.drive =
      .dead 204059 none := by decide

theorem test_lower_timer_expiry :
    (ran .lowerTimerExpiry (withRake (rakeAt .lowering (some 20400)) (.driven .down) 20400)).rkc.jamCause =
      some .travelLower := by decide

/-- Table 7-6 at 5,300.0: the reset of a jam with LIM_TOP off begins a homing raise. -/
theorem test_reset_rake :
    let t := ran (.resetRake .a (frame [])) (withRake { rakeAt .jammed none with jamCause := some .travelRaise, demand := true } .clear 53000)
    t.rkc.state = .raising ∧ t.rkc.homing = true ∧ t.rkc.demand = true ∧ t.rkc.timer = some 53600 := by decide

/-- The interval of 7 minutes after a power-up (R119): 30 ÷ 4, integer part. -/
theorem test_interval_expiry :
    let st := { quiet with clock := 42000, rkc := { Rake.powerUp 0 with state := .jammed } }
    (ran .intervalExpiry st).rkc.demand = true ∧ (ran .intervalExpiry st).rkc.intervalOrigin = 4200 := by decide

/-! ### Overflow and trace: Tables 8-5, 8-8 and 8-9 -/

/-- The readings of section 8.10's station: its constants, its monitor record, one update. -/
def spillUpdate (monitor : Overflow) (time : Nat) (head flow : Option Nat) : Station :=
  let st := { quiet with ofm := monitor, consts := { quiet.consts with onCycles := 3, offCycles := 3 } }
  st.overflowUpdate ⟨1000, time, none, .dual, none, none, none, .ok, head, flow⟩

/-- Updates 5 to 7. -/
theorem test_overflow_opens :
    let onset : Overflow := { Overflow.powerUp 41 with
      state := .onset, onsetCount := 2, provisional := 50, onsetTime := some 802353604, onsetHead := some 31, onsetFlow := some 30 }
    let t := spillUpdate onset 802353606 (some 40) (some 42)
    t.ofm.state = .spilling ∧ t.ofm.eventCounter = 42 ∧
    t.ofm.event.map (fun e => (e.number, e.openTime, e.volume, e.spillSeconds, e.peakHead, e.peakFlow)) =
      some (42, 802353604, 92, 3, 40, 42) ∧
    t.trb.state = .triggered ∧ t.sst.inFlight.isSome = true := by decide

/-- Update 14, on the event that update 13 leaves. -/
theorem test_overflow_closes :
    let e : EventRec := ⟨42, true, 802353604, none, 8, 1, 40, 42, 151, EventFlags.none, none⟩
    let t := spillUpdate { Overflow.powerUp 42 with state := .easing, easingCount := 2, event := some e } 802353613 (some 4) (some 0)
    t.ofm.state = .quiet ∧ t.ofm.event = some { e with
      isOpen := false, closeTime := some 802353613, spillSeconds := 9, closeReason := some .normal } := by decide

/-- Once the volume is saturated, an addition of 0 L sets the sticky flag again (R142). -/
theorem test_overflow_saturated_again :
    let e : EventRec := ⟨42, true, 802353604, none, 8, 1, 40, 42, 16777215, { EventFlags.none with saturated := true }, none⟩
    (spillUpdate { Overflow.powerUp 42 with state := .spilling, event := some e } 802353613 (some 20) (some 0)).lve.arith.flags.saturated =
      true := by decide

theorem test_read_overflow_status : (reply (.readOverflow .a (frame [])) quiet).1 = .done := by decide

/-- A trace in FROZEN with port A's window as Table 8-9 sets it for port B. -/
def windowed (next : Nat) : Station :=
  { quiet with portA := { quiet.portA with window := ⟨190, 194, next⟩ }, trb := { quiet.trb with state := .frozen } }

theorem test_set_trace_window :
    (ran (.setTraceWindow .a (frame [190, 194])) quiet).portA.window = ⟨190, 194, 190⟩ ∧
    reply (.setTraceWindow .a (frame [194, 190])) quiet = (.refusedRange, []) := by decide

/-- Table 8-9: eight indices with the wrap, then two that end on e. -/
theorem test_walks_of_table_8_9 :
    traceWalk 190 194 8 190 = ([190, 191, 192, 193, 194, 190, 191, 192], 193, true) ∧
    traceWalk 190 194 2 193 = ([193, 194], 190, false) := by decide

/-- Table 8-9, last row: an empty entry at index 190. -/
theorem test_read_trace :
    (ran (.readTrace .a (frame [0, 1])) (windowed 190)).portA.window = ⟨190, 194, 191⟩ ∧
    (reply (.readTrace .a (frame [0, 13])) (windowed 190)).1 = .refusedRange := by decide

theorem test_release_trace :
    (ran (.releaseTrace .a (frame [])) (windowed 190)).trb = Trace.powerUp ∧
    (reply (.releaseTrace .a (frame [])) quiet).1 = .refusedState := by decide

/-! ### Alarms, clock and reports: Tables 9-3, 9-4, 10-3 and 10-4 -/

/-- The quiet station with point 22 in a state. -/
def overflowPoint (s : PointState) (on : Bool) : Station :=
  { quiet with alt := { quiet.alt with points := quiet.alt.points.set 21 ⟨s, on, 50, 50, 1⟩ } }

/-- Table 9-4, ACK first: ACTIVE_ACK, one point moved. -/
theorem test_ack_alarm :
    let t := ran (.ackAlarm .a (frame [1, 22])) (overflowPoint .activeUnack true)
    t.portA.slot = ⟨.done, 0x20, [1]⟩ ∧ t.alt.points[21].state = .activeAck ∧
    reply (.ackAlarm .a (frame [1, 33])) quiet = (.refusedRange, []) := by decide

theorem test_clear_attention :
    let st := { quiet with alt := { quiet.alt with attnA := ⟨0, 0, 0x1F0000⟩, attnB := ⟨0, 0, 0x1F0000⟩ } }
    let t := ran (.clearAttention .a (frame [1, 17])) st
    t.alt.attnA.pending = 0x1E0000 ∧ t.alt.attnB.pending = 0x1F0000 ∧ t.portA.slot.data = [0, 0x1E, 0, 0] := by decide

theorem test_set_attention_masks :
    (ran (.setAttentionMasks .a (frame [0, 0, 0, 1, 0x80, 0, 0, 0])) quiet).alt.attnA = ⟨1, 0x80000000, 0⟩ := by decide

theorem test_read_alarms_range : reply (.readAlarms .a (frame [18, 16])) quiet = (.refusedRange, []) := by decide

theorem test_peek_report :
    let st := { quiet with rpq := { quiet.rpq with queue := [⟨501, 7, .alarmChange 21 .activeAck⟩] } }
    reply (.peekReport .a (frame [1])) st = (.refusedRange, [1]) ∧ (reply (.peekReport .a (frame [0])) st).1 = .done := by decide

/-- Table 10-3, step 3: the oldest record is no longer the one peeked. -/
theorem test_take_report :
    let st := { quiet with rpq := { quiet.rpq with queue := [⟨502, 7, .station .powerUp⟩] } }
    reply (.takeReport .a (frame [1, 0xF5])) st = (.refusedStale, [1, 0xF6, 1]) ∧
    (ran (.takeReport .a (frame [1, 0xF6])) st).rpq.queue = [] := by decide

/-- Table 10-4. -/
theorem test_set_clock :
    let st := withPump { pumpAt .ready with runToday := 1081 } false false 50000
    let t := ran (.setClock .a (frame [0x2F, 0xD2, 0xEF, 0x68])) { st with rpq := { st.rpq with stationTime := 5000 } }
    t.rpq.stationTime = 802353000 ∧ t.rpq.summary.day = 9286 ∧ t.rpq.clockNotSet = false ∧
    t.pumps[0].runToday = 0 ∧ t.rpq.queue.length = 2 := by decide

/-- Table 6-6: a second with RUN_FB on is a run second. -/
theorem test_station_time_advance :
    let t := ran (.stationTimeAdvance false) { withPump (pumpAt .running) true true 1010 with
      lve := { quiet.lve with nextCycle := 1020 } }
    t.rpq.stationTime = 101 ∧ t.pumps[0].runToday = 1 ∧ t.pumps[0].runTotal = 1 ∧ t.rpq.nextSecond = 1020 := by decide

/-! ### Ports and store: Tables 11-2, 11-4 and 11-5 -/

theorem test_select_fall : (ran (.selectFall .a) quiet).portA.latched = some ⟨0x08, ⟨.none, 0, []⟩⟩ := by decide

/-- The not-taken flag is cleared and a whole reply has been read (R177, R178). -/
theorem test_empty_period :
    let st := { quiet with portA := { quiet.portA with
      slot := ⟨.done, 0x44, [2]⟩, notTaken := true, latched := some ⟨0, ⟨.done, 0x44, [2]⟩⟩ } }
    (ran (.emptyPeriod .a 5) st).portA.readInd = true ∧ (ran (.emptyPeriod .a 4) st).portA.readInd = false ∧
    (ran (.emptyPeriod .a 4) st).portA.notTaken = false := by decide

/-- A slot that is PENDING behind a save. -/
def saving : Station :=
  { quiet with portA := { quiet.portA with slot := ⟨.pending, 0x69, []⟩, awaits := some .save, readInd := true } }

/-- Table 11-5 at 300.9. -/
theorem test_request_not_taken :
    (ran (.requestNotTaken .a [0x61, 0]) saving).portA.notTaken = true ∧
    (ran (.requestNotTaken .a [0x61, 0]) saving).portA.slot = saving.portA.slot := by decide

theorem test_port_clear : (ran (.portClear .a) saving).portA = Port.powerUp := by decide

theorem test_unknown_request : (ran (.unknownRequest .b 0x0E []) quiet).portB.slot = ⟨.refusedFormat, 0x0E, []⟩ := by decide

/-- With both keys off, port B may not operate and port A may not configure (Table 11-2). -/
theorem test_authority :
    let st := quiet.setInput .maintKey (contact false)
    (ran (.requestRakeCycle .b (frame [])) st).portB.slot = ⟨.refusedAuthority, 0x44, []⟩ ∧
    (ran (.saveSettings .a (frame [])) st).portA.slot = ⟨.refusedAuthority, 0x69, []⟩ := by decide

/-- Table 11-5 at 300.0. -/
theorem test_save_settings :
    let t := ran (.saveSettings .a (frame [])) { quiet with clock := 30000 }
    t.portA.slot = ⟨.pending, 0x69, []⟩ ∧ t.sst.coverA = .current ∧ t.sst.inFlight.map (·.deadline) = some 3012 := by decide

/-- Table 11-5 at 301.1: the first write ends sound, the follow-up begins, port B's save is covered by it. -/
theorem test_store_write_end :
    let st := { saving with sst := { saving.sst with
      inFlight := some ⟨.defaults, 1012⟩, followUp := true, coverA := .current, coverB := .followUp } }
    let t := ran (.storeWriteEnd 0) st
    t.portA.slot = ⟨.done, 0x69, [0, 1]⟩ ∧ t.sst.coverA = .none ∧ t.sst.coverB = .current ∧ t.sst.followUp = false ∧
    t.sst.inFlight.map (·.deadline) = some 1012 := by decide +kernel

theorem test_write_station_constants :
    let bad : Constants := { Constants.default with startSpacing := 0 }
    reply (.writeStationConstants .a (frame (encode Constants.widths bad.values))) quiet = (.refusedRange, [3]) := by
  decide +kernel

theorem test_read_status_and_settings_codes :
    reply (.readStatus .a (frame [4])) quiet = (.refusedRange, []) ∧
    reply (.readSettings .a (frame [2])) quiet = (.done, [2, 1, 2, 0]) ∧
    reply (.readSettings .a (frame [3])) quiet = (.done, [0, 0, 0, 0, 0, 1]) := by decide

theorem test_reads_answer_done :
    (reply (.readChannels .a (frame [])) quiet).2.length = 4 * 17 ∧ (reply (.readWell .a (frame [])) quiet).1 = .done ∧
    (reply (.readRake .a (frame [])) quiet).1 = .done := by decide

theorem test_reset_hold :
    let t := ran .resetHold (withPump (pumpAt .running) true true 1000)
    t.held = true ∧ t.ctu.pumpRun[0] = false ∧ (ran (.selectFall .a) t) = t := by decide +kernel

/-- A power-up from the reset image falls back to the defaults and raises point 32 (R186). -/
theorem test_power_up : ran .powerUp State.reset.st = State.reset.st := by decide +kernel

/-! ### Witnesses: the machine, resets and ports

One theorem for each obligation with hypotheses: a state and operands that meet them. Clauses with bounds stand at their bounds. -/

theorem witness_CommandsCompleteOrAreRefused :
    (Instr.portClear .a).wellFormed = true ∧ (Instr.emptyPeriod .a 0).wellFormed = true ∧
    (Instr.unknownRequest .a 0xFF []).wellFormed = true ∧ (Instr.emptyPeriod .a 1).wellFormed = false := by decide

theorem witness_IdleStepTakesADueEvent :
    quiet.held = false ∧ quiet.dueEvents = [] ∧ { quiet with held := true }.held = true ∧
    { quiet with clock := 10100 }.held = false ∧ { quiet with clock := 10100 }.dueEvents ≠ [] := by decide

theorem witness_PowerUpFallsBackToDefaults : State.reset.st.sst.image.sound = false := by decide

/-- An image as a sound write of the defaults leaves it. -/
def soundImage : Image := ⟨.defaults, false, StoredItems.defaults.checkWord⟩

/-- A sound image with START_SPACING out of its range and a rotation list that names no pump. -/
def unfitImage : Image :=
  let items : StoredItems := { StoredItems.defaults with rotation := [7], constants := { Constants.default with startSpacing := 0 } }
  ⟨items, false, items.checkWord⟩

theorem witness_PowerUpRestoresFitItems :
    (unfitImage.sound = true ∧ unfitImage.items.constants.checks.getD 2 true = false ∧
      unfitImage.items.constants.checks.getD 57 false = true ∧ pumpList unfitImage.items.rotation = none) ∧
    soundImage.sound = true ∧ pumpList soundImage.items.rotation = some [0, 1] ∧ soundImage.items.fit :=
  ⟨⟨by decide +kernel, by decide, by decide, by decide⟩, by decide +kernel, by decide, by decide, by decide,
    by decide +kernel, ⟨[0, 1], by decide, by decide, by decide⟩, by decide, by decide,
    by decide, by decide, by decide⟩

theorem witness_HeldPartDrivesAndTakesNothing :
    { quiet with held := true }.held = true ∧ (Instr.selectFall .a).wellFormed = true ∧ Instr.selectFall .a ≠ .powerUp ∧
    Instr.selectFall .a ≠ .resetHold ∧ ∀ i level, Instr.selectFall .a ≠ .rawLevelChange i level :=
  ⟨rfl, rfl, by decide, by decide, fun _ _ h => by cases h⟩

/-- A station with a jammed rake, a WEIR commit of port B pending, a spill open. -/
def stormy : Station :=
  { quiet with
    rkc := { quiet.rkc with state := .jammed, jamCause := some .torque }
    crv := { quiet.crv with weir := { quiet.crv.weir with mark := some .b } }
    portB := { quiet.portB with slot := ⟨.pending, 0x67, [1]⟩, awaits := some (.commit .weir), readInd := true }
    ofm := { Overflow.powerUp 1 with
      state := .spilling, event := some ⟨1, true, 40, none, 5, 0, 40, 42, 92, EventFlags.none, none⟩ } }

/-- A jammed rake over a pending commit and a spill; a rake in its discharge; one with a demand in IDLE; one driven. -/
theorem witness_StationResetHandlesEveryBlock :
    (let st := withRake (rakeAt .discharging (some 1005)) (.driven .up) 1000;
      st.admits .a .configure (.fixed 0) (frame []) [] ∧ st.rkc.state = .discharging ∧ st.rkc.homing = false ∧
      st.rkc.demand = false ∧ st.rpq.queue.length < 30) ∧
    (let st := withRake { rakeAt .idle none with demand := true } .clear 1000;
      st.admits .a .configure (.fixed 0) (frame []) [] ∧ st.rkc.demand = true ∧ st.settled .skipFull = false) ∧
    stormy.admits .a .configure (.fixed 0) (frame []) [] ∧ (stormy.crv.curve .weir).mark = some .b ∧
    (stormy.port .b).slot.status = .pending ∧ (stormy.port .b).awaits = some (.commit .weir) ∧ stormy.rkc.state = .jammed ∧
    (∃ e, stormy.ofm.event = some e) ∧ stormy.ofm.state = .spilling :=
  ⟨⟨⟨⟨rfl, rfl⟩, rfl, rfl, rfl⟩, rfl, rfl, rfl, by decide⟩, ⟨⟨⟨rfl, rfl⟩, rfl, rfl, rfl⟩, rfl, rfl⟩,
    ⟨⟨rfl, rfl⟩, rfl, rfl, rfl⟩, rfl, rfl, rfl, rfl, ⟨_, rfl⟩, rfl⟩

theorem witness_SelectPeriodsLatchAndClear : quiet.held = false ∧ (0 : Nat) ≠ 1 ∧ (2 : Nat) ≠ 1 := by decide

theorem witness_PendingAndMalformedRequests :
    (saving.held = false ∧ saving.slotPending .a = true ∧
      requestOfInstr (.readStatus .a []) = some (.a, ⟨0x01, .view, .fixed 1⟩, []) ∧
      (Instr.unknownRequest .a 0x0E []).wellFormed = true ∧ (Instr.requestNotTaken .a [0x61]).wellFormed = true) ∧
    quiet.takes .a ∧ (∀ ps, frameParams [] = some ps → (Form.fixed 1).fits ps = false) ∧
    ∀ ps, frameParams (frame [1, 2]) = some ps → (Form.fixed 1).fits ps = false :=
  ⟨⟨rfl, rfl, rfl, rfl, rfl⟩, ⟨rfl, rfl⟩, (fun _ h => by cases h), (fun _ h => by cases h; rfl)⟩

/-- The quiet station with both keys off. -/
def locked : Station := quiet.setInput .maintKey (contact false)

theorem witness_AuthorityFollowsTheKeys :
    locked.takes .a ∧ requestOfInstr (.saveSettings .a (frame [])) = some (.a, ⟨0x69, .configure, .fixed 0⟩, frame []) ∧
    frameParams (frame []) = some [] ∧ (Form.fixed 0).fits [] = true ∧ locked.permits .a .configure = false ∧
    locked.permits .b .operate = false ∧ locked.permits .a .report = false :=
  ⟨⟨rfl, rfl⟩, rfl, rfl, rfl, rfl, rfl, rfl⟩

theorem witness_PeriodsDecodeToTheirCommands :
    (Instr.emptyPeriod .a 0).wellFormed = true ∧ encodePeriod (.emptyPeriod .a 0) = some (.a, []) ∧
    (Instr.unknownRequest .b 0xFF [1]).wellFormed = true ∧ encodePeriod (.unknownRequest .b 0xFF [1]) = some (.b, [0xFF, 1]) ∧
    ([0x81, 4, 0, 0, 0, 1] : List Byte).headD 0 ≠ 0 := by decide

/-! ### Witnesses: views -/

theorem witness_StatusAndSettingsReads :
    quiet.admits .a .view (.fixed 1) (frame [3]) [3] ∧ quiet.admits .b .view (.fixed 1) (frame [4]) [4] :=
  ⟨⟨⟨rfl, rfl⟩, rfl, rfl, rfl⟩, ⟨⟨rfl, rfl⟩, rfl, rfl, rfl⟩⟩

theorem witness_BlockReadsChangeNothing :
    quiet.admits .a .view (.fixed 0) (frame []) [] ∧ quiet.admits .a .view (.fixed 2) (frame [0, 1]) [0, 1] ∧
    quiet.admits .a .view (.fixed 2) (frame [17, 16]) [17, 16] ∧ quiet.admits .a .view (.fixed 2) (frame [18, 16]) [18, 16] ∧
    quiet.admits .a .view (.fixed 2) (frame [32, 1]) [32, 1] :=
  ⟨⟨⟨rfl, rfl⟩, rfl, rfl, rfl⟩, ⟨⟨rfl, rfl⟩, rfl, rfl, rfl⟩, ⟨⟨rfl, rfl⟩, rfl, rfl, rfl⟩, ⟨⟨rfl, rfl⟩, rfl, rfl, rfl⟩,
    ⟨⟨rfl, rfl⟩, rfl, rfl, rfl⟩⟩

theorem witness_ReadPumpPrunesAndReplies :
    quiet.admits .a .view (.fixed 1) (frame [0]) [0] ∧ quiet.admits .a .view (.fixed 1) (frame [7]) [7] ∧
    quiet.admits .a .view (.fixed 1) (frame [1]) [1] ∧ (1 : Byte).toNat = (0 : PumpNo).val + 1 ∧
    quiet.admits .a .view (.fixed 1) (frame [6]) [6] ∧ (6 : Byte).toNat = (5 : PumpNo).val + 1 :=
  ⟨⟨⟨rfl, rfl⟩, rfl, rfl, rfl⟩, ⟨⟨rfl, rfl⟩, rfl, rfl, rfl⟩, ⟨⟨rfl, rfl⟩, rfl, rfl, rfl⟩, rfl, ⟨⟨rfl, rfl⟩, rfl, rfl, rfl⟩, rfl⟩

theorem witness_ReadCurveWalksTheSlots :
    ((15 : Nat) ≤ 15 ∧ (1 : Nat) ≤ 1) ∧ quiet.admits .a .view (.fixed 6) (frame [1, 1, 15, 16, 1, 1]) [1, 1, 15, 16, 1, 1] ∧
    (1 : Byte).toNat = CurveId.weir.code ∧ (15 : Byte).toNat ≤ 15 ∧ (16 : Byte).toNat ≤ 16 ∧
    quiet.admits .a .view (.fixed 6) (frame [2, 1, 16, 17, 2, 2]) [2, 1, 16, 17, 2, 2] ∧ 1 < (2 : Byte).toNat :=
  ⟨by decide, ⟨⟨rfl, rfl⟩, rfl, rfl, rfl⟩, rfl, by decide, by decide, ⟨⟨rfl, rfl⟩, rfl, rfl, rfl⟩, by decide⟩

/-- A station with one report. -/
def reported : Station := { quiet with rpq := { quiet.rpq with queue := [⟨501, 7, .alarmChange 21 .activeAck⟩] } }

theorem witness_PeekReportReadsARecord :
    reported.admits .a .view (.fixed 1) (frame [1]) [1] ∧ reported.rpq.queue.length ≤ (1 : Byte).toNat ∧
    reported.admits .a .view (.fixed 1) (frame [0]) [0] ∧ (∃ r, reported.rpq.queue[(0 : Byte).toNat]? = some r) ∧
    ∃ o, reported.rpq.queue.head? = some o :=
  ⟨⟨⟨rfl, rfl⟩, rfl, rfl, rfl⟩, by decide, ⟨⟨rfl, rfl⟩, rfl, rfl, rfl⟩, ⟨_, rfl⟩, ⟨_, rfl⟩⟩

theorem witness_SetTraceWindowMovesOneWindow :
    quiet.admits .a .view (.fixed 2) (frame [255, 255]) [255, 255] ∧ (255 : Byte).toNat ≤ (255 : Byte).toNat ∧
    quiet.admits .a .view (.fixed 2) (frame [255, 254]) [255, 254] ∧ (254 : Byte).toNat < (255 : Byte).toNat :=
  ⟨⟨⟨rfl, rfl⟩, rfl, rfl, rfl⟩, by decide, ⟨⟨rfl, rfl⟩, rfl, rfl, rfl⟩, by decide⟩

theorem witness_ReadTraceWalksTheWindow :
    ((190 : Nat) ≤ 194 ∧ (194 : Nat) ≤ 194) ∧ quiet.admits .a .view (.fixed 2) (frame [0, 12]) [0, 12] ∧
    quiet.admits .a .view (.fixed 2) (frame [1, 8]) [1, 8] ∧ quiet.admits .a .view (.fixed 2) (frame [1, 9]) [1, 9] ∧
    quiet.admits .a .view (.fixed 2) (frame [2, 1]) [2, 1] ∧ quiet.admits .a .view (.fixed 2) (frame [0, 0]) [0, 0] :=
  ⟨by decide, ⟨⟨rfl, rfl⟩, rfl, rfl, rfl⟩, ⟨⟨rfl, rfl⟩, rfl, rfl, rfl⟩, ⟨⟨rfl, rfl⟩, rfl, rfl, rfl⟩,
    ⟨⟨rfl, rfl⟩, rfl, rfl, rfl⟩, ⟨⟨rfl, rfl⟩, rfl, rfl, rfl⟩⟩

/-! ### Witnesses: levels and curves -/

/-- The tie of Table 1-5. -/
theorem witness_RoundingFollowsTheMode :
    0 < 2 ∧ (2 * (roundDiv .nearestAway 601 2 * (2 : Nat) - 601)).natAbs = 2 ∧
    (2 * (roundDiv .nearestEven (-601) 2 * (2 : Nat) - (-601))).natAbs = 2 := by decide

theorem witness_SamplesAreScaledAndFiltered :
    (⟨20000, 10000, 5⟩ : ChanSettings).checks.all id = true ∧ 720 ≤ 720 ∧ 720 ≤ 4080 ∧ 4080 ≤ 4080 := by decide

theorem witness_ChannelCycleFollowsItsTables :
    (720#12).toNat = 720 ∧ (4080#12).toNat = 4080 ∧ (719#12).toNat < 720 ∧ 4080 < (4081#12).toNat ∧
    (∀ x : ChanState, { Channel.powerUp .default with state := x }.state = x) ∧
    3 ≤ ({ Channel.powerUp .default with state := .recovering, goodRun := 2 } : Channel).goodRun + 1 ∧
    3 ≤ ({ Channel.powerUp .default with state := .suspect, badRun := 2 } : Channel).badRun + 1 :=
  ⟨rfl, rfl, by decide, by decide, fun _ => rfl, by decide, by decide⟩

theorem witness_VoteAndLevelConditions :
    max 3000 3150 - min 3000 3150 ≤ 150 ∧ 150 < max 3000 3151 - min 3000 3151 ∧
    quiet.dty.setpoints.highAlarm ≤ 4000 ∧ 3949 + 50 < quiet.dty.setpoints.highAlarm ∧
    3950 < quiet.dty.setpoints.highAlarm ∧ quiet.dty.setpoints.highAlarm ≤ 3950 + 50 ∧
    600 ≤ quiet.dty.setpoints.lowAlarm ∧ quiet.dty.setpoints.lowAlarm + 50 < 651 ∧
    quiet.dty.setpoints.lowAlarm < 650 ∧ 650 ≤ quiet.dty.setpoints.lowAlarm + 50 := by decide

theorem witness_InflowIsFormedOverTheWindow :
    (2 ≤ 2 ∧ ([⟨some 7, 1⟩] : List CycleRec).length < 2) ∧
    (2 ≤ ([⟨none, 1⟩, ⟨some 7, 1⟩] : List CycleRec).length ∧
      ∃ r ∈ ([⟨none, 1⟩, ⟨some 7, 1⟩] : List CycleRec).drop 0, r.v = none) ∧
    ([(5, 1), (7, 1)] : List (Nat × Nat)).length = 2 ∧
    ([⟨none, 9⟩, ⟨some 5, 1⟩, ⟨some 7, 1⟩] : List CycleRec).drop (3 - 2) =
      [(5, 1), (7, 1)].map (fun x => ⟨some x.1, x.2⟩) :=
  ⟨by decide, ⟨by decide, ⟨⟨none, 1⟩, by decide, rfl⟩⟩, rfl, rfl⟩

theorem witness_CycleCommitsAndPublishes :
    orderOk [.reports, .trace, .overflow, .rake, .duty] = true ∧
    stormy.comesDue (some stormy.lve.nextCycle) { stormy with clock := 10100 } ∧
    (stormy.crv.curve .weir).mark = some .b ∧ (stormy.port .b).slot.status = .pending ∧
    (stormy.port .b).awaits = some (.commit .weir) ∧ (stormy.crv.curve .volume).mark = none ∧
    (∃ e, stormy.ofm.event = some e) ∧ stormy.ofm.state = .spilling :=
  ⟨rfl, ⟨rfl, _, rfl, rfl⟩, rfl, rfl, rfl, rfl, ⟨_, rfl⟩, rfl⟩

theorem witness_LevelEngineRequests :
    quiet.admits .a .configure (.fixed 6) (frame [3, 0x4E, 0x20, 0x27, 0x10, 5]) [3, 0x4E, 0x20, 0x27, 0x10, 5] ∧
    ofBe ([0x4E, 0x20] : List Byte) = 20000 ∧ ofBe ([0x27, 0x10] : List Byte) = 10000 ∧ ChanName.ofCode 3 = some .weir ∧
    quiet.admits .a .configure (.fixed 6) (frame [4, 0, 100, 0, 0, 0]) [4, 0, 100, 0, 0, 0] ∧
    quiet.admits .a .configure (.fixed 11) (frame [2, 0, 0, 0, 0, 1, 1, 0, 0, 0, 0]) [2, 0, 0, 0, 0, 1, 1, 0, 0, 0, 0] ∧
    RoundMode.ofCode 2 = some .towardZero ∧
    quiet.admits .a .configure (.fixed 11) (frame [3, 0, 0, 0, 0, 1, 1, 0, 0, 0, 0]) [3, 0, 0, 0, 0, 1, 1, 0, 0, 0, 0] :=
  ⟨⟨⟨rfl, rfl⟩, rfl, rfl, rfl⟩, rfl, rfl, rfl, ⟨⟨rfl, rfl⟩, rfl, rfl, rfl⟩, ⟨⟨rfl, rfl⟩, rfl, rfl, rfl⟩, rfl,
    ⟨⟨rfl, rfl⟩, rfl, rfl, rfl⟩⟩

/-- Counts at their bounds, and a copy for each fault kind. -/
theorem witness_CurveJudgementFollowsItsTests :
    let pair := fun p q : Point => (⟨2, ((Vector.replicate 16 ⟨0, 0⟩).set 0 p).set 1 q⟩ : CurveCopy)
    (pair ⟨30001, 0⟩ ⟨1, 0⟩).fault .weir = some (.xRange, 0) ∧
    (pair ⟨30000, CurveId.weir.yTop + 1⟩ ⟨1, 0⟩).fault .weir = some (.yRange, 0) ∧
    (pair ⟨5, 5⟩ ⟨5, 4⟩).fault .weir = some (.xOrder, 1) ∧ (pair ⟨5, 5⟩ ⟨6, 4⟩).fault .weir = some (.yOrder, 1) ∧
    2 ≤ (rating 2).n ∧ (rating 16).n ≤ 16 ∧ (rating 5).valid .weir = true ∧ (rating 16).fault .weir = some (.xOrder, 5) ∧
    (rating 1).fault .weir = some (.count, 255) ∧ (rating 17).fault .weir = some (.count, 255) := by decide

theorem witness_InterpolationStaysInItsSegment :
    let shifted : CurveCopy := ⟨2, (rating 2).slots.set 0 ⟨10, 5⟩⟩
    shifted.valid .weir = true ∧ 9 < (shifted.slots.toList.getD 0 ⟨0, 0⟩).x ∧ 50 = (shifted.slots.toList.getD 1 ⟨0, 0⟩).x ∧
    (shifted.slots.toList.getD 1 ⟨0, 0⟩).x < 51 ∧ 0 + 1 < shifted.n ∧ (shifted.slots.toList.getD 0 ⟨0, 0⟩).x ≤ 10 ∧
    10 < (shifted.slots.toList.getD 1 ⟨0, 0⟩).x := by decide

theorem witness_CopyAndCountOfAShadow :
    quiet.admits .a .configure (.fixed 1) (frame [1]) [1] ∧ (1 : Byte).toNat = CurveId.weir.code ∧
    (quiet.crv.curve .weir).mark = none ∧ quiet.admits .a .configure (.fixed 2) (frame [1, 17]) [1, 17] ∧
    quiet.admits .a .configure (.fixed 2) (frame [1, 16]) [1, 16] ∧ quiet.admits .a .configure (.fixed 2) (frame [1, 1]) [1, 1] ∧
    quiet.admits .a .configure (.fixed 2) (frame [2, 1]) [2, 1] ∧ quiet.admits .a .configure (.fixed 1) (frame [2]) [2] ∧
    1 < (2 : Byte).toNat :=
  ⟨⟨⟨rfl, rfl⟩, rfl, rfl, rfl⟩, rfl, rfl, ⟨⟨rfl, rfl⟩, rfl, rfl, rfl⟩, ⟨⟨rfl, rfl⟩, rfl, rfl, rfl⟩, ⟨⟨rfl, rfl⟩, rfl, rfl, rfl⟩,
    ⟨⟨rfl, rfl⟩, rfl, rfl, rfl⟩, ⟨⟨rfl, rfl⟩, rfl, rfl, rfl⟩, by decide⟩

theorem witness_WriteCurvePointsFillsSlots :
    quiet.admits .a .configure (.counted 2 5) (frame [1, 15, 1, 0, 200, 0, 1, 0]) [1, 15, 1, 0, 200, 0, 1, 0] ∧
    (15 : Byte).toNat + (1 : Byte).toNat ≤ 16 ∧
    quiet.admits .a .configure (.counted 2 5) (frame [1, 16, 1, 0, 200, 0, 1, 0]) [1, 16, 1, 0, 200, 0, 1, 0] ∧
    quiet.admits .a .configure (.counted 2 5) (frame [1, 0, 0]) [1, 0, 0] ∧ (quiet.crv.curve .weir).mark = none ∧
    quiet.admits .a .configure (.counted 2 5) (frame [2, 0, 1, 0, 200, 0, 1, 0]) [2, 0, 1, 0, 200, 0, 1, 0] :=
  ⟨⟨⟨rfl, rfl⟩, rfl, rfl, rfl⟩, by decide, ⟨⟨rfl, rfl⟩, rfl, rfl, rfl⟩, ⟨⟨rfl, rfl⟩, rfl, rfl, rfl⟩, rfl,
    ⟨⟨rfl, rfl⟩, rfl, rfl, rfl⟩⟩

theorem witness_CommitCurveJudgesTheShadow :
    quiet.admits .a .configure (.fixed 1) (frame [2]) [2] ∧ 1 < (2 : Byte).toNat ∧
    stormy.admits .a .configure (.fixed 1) (frame [1]) [1] ∧ (stormy.crv.curve .weir).mark ≠ none ∧
    (withShadow (rating 6) none).admits .a .configure (.fixed 1) (frame [1]) [1] ∧
    (withShadow (rating 6) none).crv.weir.shadow.fault .weir = some (.xOrder, 5) ∧
    (withShadow (rating 5) none).crv.weir.shadow.valid .weir = true ∧
    stormy.admits .a .configure (.fixed 2) (frame [1, 16]) [1, 16] ∧
    stormy.admits .a .configure (.fixed 2) (frame [1, 17]) [1, 17] ∧
    stormy.admits .a .configure (.counted 2 5) (frame [1, 15, 1, 0, 200, 0, 1, 0]) [1, 15, 1, 0, 200, 0, 1, 0] ∧
    stormy.admits .a .configure (.counted 2 5) (frame [1, 16, 1, 0, 200, 0, 1, 0]) [1, 16, 1, 0, 200, 0, 1, 0] :=
  ⟨⟨⟨rfl, rfl⟩, rfl, rfl, rfl⟩, by decide, ⟨⟨rfl, rfl⟩, rfl, rfl, rfl⟩, by decide, ⟨⟨rfl, rfl⟩, rfl, rfl, rfl⟩, rfl, rfl,
    ⟨⟨rfl, rfl⟩, rfl, rfl, rfl⟩, ⟨⟨rfl, rfl⟩, rfl, rfl, rfl⟩, ⟨⟨rfl, rfl⟩, rfl, rfl, rfl⟩, ⟨⟨rfl, rfl⟩, rfl, rfl, rfl⟩⟩

/-! ### Witnesses: contacts, pumps and start control -/

/-- The quiet station with FLOAT as the published source. -/
def floating : Station :=
  { quiet with lve := { quiet.lve with published := some ⟨1000, 99, none, .float, none, none, none, .failed, none, none⟩ } }

/-- A change, a return and a first settling of a limit, the keys, a pump's contacts short of its notice, and the floats in both
sources. -/
theorem witness_ContactsAreDebounced :
    ((changing floating .floatHigh true).changeComesDue .floatHigh (changing floating .floatHigh true) ∧
      floating.lve.published = some ⟨1000, 99, none, .float, none, none, none, .failed, none, none⟩ ∧
      (changing quiet .floatLow false).changeComesDue .floatLow (changing quiet .floatLow false) ∧ quiet.lve.onFloat = false) ∧
    ((settling floating .floatLow true).settlingComesDue .floatLow (settling floating .floatLow true) ∧
      ((settling floating .floatLow true).withSettling .floatLow).floatsSettled = true ∧
      (let st := settling (quiet.setInput .floatLow ⟨false, false, false, some ⟨10000, 500⟩, none⟩) .floatHigh true;
        st.settlingComesDue .floatHigh st ∧ (st.withSettling .floatHigh).floatsSettled = false)) ∧
    (quiet.held = false ∧ (quiet.ctu.input .limTop).raw = false ∧ (quiet.ctu.input .limTop).hasSettled = true) ∧
    (true ≠ ((changing quiet .limTop false).ctu.input .limTop).raw ∧
      true = ((changing quiet .limTop false).ctu.input .limTop).settled) ∧
    (true ≠ ((settling quiet .limTop false).ctu.input .limTop).raw ∧
      ((settling quiet .limTop false).ctu.input .limTop).hasSettled = false) ∧
    (changing quiet .maintKey false).changeComesDue .maintKey (changing quiet .maintKey false) ∧
    (settling quiet .maintKey true).settlingComesDue .maintKey (settling quiet .maintKey true) ∧
    (let st := settling (quiet.setInput (.hoaHand 0) ⟨false, false, false, some ⟨10000, 500⟩, none⟩) (.pumpFault 0) true;
      st.settlingComesDue (.pumpFault 0) st ∧
      (st.setInput (.pumpFault 0) ⟨true, true, true, none, none⟩).pumpNoticed 0 = false) :=
  ⟨⟨⟨rfl, _, rfl, rfl⟩, rfl, ⟨rfl, _, rfl, rfl⟩, rfl⟩, ⟨⟨rfl, _, rfl, rfl⟩, rfl, ⟨rfl, _, rfl, rfl⟩, rfl⟩,
    ⟨rfl, rfl, rfl⟩, ⟨by decide, rfl⟩, ⟨by decide, rfl⟩, ⟨rfl, _, rfl, rfl⟩, ⟨rfl, _, rfl, rfl⟩, ⟨rfl, _, rfl, rfl⟩, rfl⟩

/-- The selector of pump 1 turned: from AUTO to a conflict, from AUTO to OFF, from OFF to AUTO, and to AUTO with the pump already in
READY. -/
theorem witness_SelectorChangesReachThePump :
    quiet.stc.heard = false ∧ (changing quiet (.hoaHand 0) true).changeComesDue (.hoaHand 0) (changing quiet (.hoaHand 0) true) ∧
    (changing quiet (.hoaAuto 0) false).changeComesDue (.hoaAuto 0) (changing quiet (.hoaAuto 0) false) ∧
    quiet.pumps[(0 : PumpNo)].state.auto = true ∧
    (let st := { withPump (pumpAt .off) false false 1000 with
        ctu := { quiet.ctu with selectors := Vector.replicate 6 ⟨.off, false⟩ } };
      (changing st (.hoaAuto 0) true).changeComesDue (.hoaAuto 0) (changing st (.hoaAuto 0) true) ∧
      (changing st (.hoaAuto 0) true).ctu.selectors[(0 : PumpNo)].position = .off ∧ st.pumps[(0 : PumpNo)].state = .off) ∧
    (let st := changing { quiet with ctu := { quiet.ctu with selectors := Vector.replicate 6 ⟨.off, false⟩ } } (.hoaAuto 0) true;
      st.changeComesDue (.hoaAuto 0) st ∧ st.ctu.selectors[(0 : PumpNo)].position = .off ∧
      st.pumps[(0 : PumpNo)].state.auto = true) ∧
    -- a position that stays: the decoded HAND is the position held
    (let st := { quiet with ctu := { quiet.ctu with
        hoaAuto := Vector.replicate 6 (contact false), selectors := Vector.replicate 6 ⟨.hand, false⟩ } };
      (changing st (.hoaHand 0) true).changeComesDue (.hoaHand 0) (changing st (.hoaHand 0) true) ∧
      (Selector.decode true false).position = st.ctu.selectors[(0 : PumpNo)].position) :=
  ⟨rfl, ⟨rfl, _, rfl, rfl⟩, ⟨rfl, _, rfl, rfl⟩, rfl, ⟨⟨rfl, _, rfl, rfl⟩, rfl, rfl⟩,
    ⟨⟨rfl, _, rfl, rfl⟩, rfl, rfl⟩, ⟨rfl, _, rfl, rfl⟩, rfl⟩

/-- A rake that waits for its drive, in each phase: the dead interval ends now, or at 100.5 s. -/
theorem witness_DriveFollowsItsTable :
    (let st := withRake { rakeAt .lowering none with drivePending := true } (.dead 10000 (some .down)) 1000;
      st.deadComesDue st ∧ st.stc.heard = false ∧ st.settled .torqueTrip = false ∧
      st.settled .limBottom = false) ∧
    (let st := withRake { rakeAt .raising none with drivePending := true, homing := true } (.dead 10050 (some .up)) 1000;
      st.deadComesDue { st with clock := 10050 } ∧ st.rkc.homing = true ∧ st.settled .limTop = false) ∧
    (let st := (withRake { rakeAt .raising none with drivePending := true, retries := 0 } (.dead 10000 (some .up)) 1000).setInput
        .torqueTrip (contact true);
      st.deadComesDue st ∧ st.settled .torqueTrip = true ∧ st.rkc.retries = 0) ∧
    (let st := (withRake { rakeAt .reversing none with drivePending := true } (.dead 10000 (some .down)) 1000).setInput
        .limBottom (contact true);
      st.deadComesDue st ∧ st.settled .limBottom = true) ∧
    (let st := withRake (rakeAt .idle none) (.dead 10000 none) 1000;
      st.deadComesDue st ∧ st.ctu.drive = .dead 10000 none) ∧
    Dir.down ≠ Dir.up :=
  ⟨⟨⟨rfl, _, rfl, rfl⟩, rfl, rfl, rfl⟩, ⟨⟨rfl, _, rfl, rfl⟩, rfl, rfl⟩, ⟨⟨rfl, _, rfl, rfl⟩, rfl, rfl⟩,
    ⟨⟨rfl, _, rfl, rfl⟩, rfl⟩, ⟨⟨rfl, _, rfl, rfl⟩, rfl⟩, by decide⟩

/-- Pump 1 in every state, its contacts off, pump numbers 0, 1, 6 and 7. -/
theorem witness_PumpRequestsActByState :
    (∀ x : PumpState, (withPump (pumpAt x) false false 1000).admits .a .operate (.fixed 1) (frame [1]) [1] ∧
      (withPump (pumpAt x) false false 1000).pumps[(0 : PumpNo)].state = x ∧
      (withPump { pumpAt x with inhibit := true } false false 1000).pumps[(0 : PumpNo)].inhibit = true) ∧
    (1 : Byte).toNat = (0 : PumpNo).val + 1 ∧ (withPump (pumpAt .faulted) false false 1000).settled (.pumpFault 0) = false ∧
    (withPump (pumpAt .faulted) false false 1000).settled (.runFb 0) = false ∧
    (withPump (pumpAt .faulted) false false 1000).ctu.selectors[(0 : PumpNo)].position = .auto ∧
    (withPump (pumpAt .faulted) false false 1000).pumps[(0 : PumpNo)].settings.minOff ≠ 0 ∧
    quiet.admits .a .operate (.fixed 1) (frame [0]) [0] ∧ quiet.admits .a .operate (.fixed 1) (frame [7]) [7] ∧
    quiet.admits .a .operate (.fixed 1) (frame [6]) [6] :=
  ⟨fun _ => ⟨⟨⟨rfl, rfl⟩, rfl, rfl, rfl⟩, rfl, rfl⟩, rfl, rfl, rfl, rfl, by decide, ⟨⟨rfl, rfl⟩, rfl, rfl, rfl⟩,
    ⟨⟨rfl, rfl⟩, rfl, rfl, rfl⟩, ⟨⟨rfl, rfl⟩, rfl, rfl, rfl⟩⟩

/-- The parameters of a WRITE PUMP RECORD: a number and the defaults with an `installed` and a maximum of starts. -/
def pumpRecord (number installed starts : Byte) : List Byte := [number, installed, 0, 150, 0, 150, 0, 60, 0, 30, starts, 5, 5]

/-- The quiet station's pumps are as Chapter 6 keeps them. -/
theorem quiet_pumpsSafe : quiet.pumpsSafe := by
  unfold Station.pumpsSafe PumpRec.safe
  decide +kernel

/-- A change of settings, one that makes a WAITING pump start-limited, a removal from READY of a shed pump, a removal refused in
RUNNING, an installation, one refused by the setpoints, a value out of range and pump number 7. -/
theorem witness_PumpRecordIsJudgedThenReplaced :
    (let st := withPump { pumpAt .waiting with demand := true, history := [900, 990] } false false 1000;
      st.admits .a .configure (.fixed 13) (frame (pumpRecord 1 1 2)) (pumpRecord 1 1 2) ∧
      2 ≤ (st.pumps[(0 : PumpNo)].history.dropWhile fun g => decide (g + 36000 < st.uptime)).length ∧
      (withPump { pumpAt .ready with demand := true, shed := true } false false 1000).pumps[(0 : PumpNo)].shed = true) ∧
    (quiet.pumpDownEnd = false ∧ quiet.pumpsSafe) ∧
    (let st := withPump { pumpAt .running with history := [999, 1000] } true true 37000;
      st.admits .a .configure (.fixed 13) (frame (pumpRecord 1 0 6)) (pumpRecord 1 0 6) ∧
      st.pumps[(0 : PumpNo)].history.dropWhile (fun g => decide (g + 36000 < st.uptime)) = [1000]) ∧
    let values := fun ps : List Byte => readFields PumpSettings.widths (ps.drop 1)
    let bare : Station := { quiet with dty := { quiet.dty with
      setpoints := { Setpoints.default with start := Setpoints.default.start.set 2 1000 } } }
    quiet.admits .a .configure (.fixed 13) (frame (pumpRecord 1 1 6)) (pumpRecord 1 1 6) ∧
    firstFailing (pumpFieldChecks (values (pumpRecord 1 1 6))) = none ∧ ofBe ((pumpRecord 1 1 6).take 1) = (0 : PumpNo).val + 1 ∧
    firstFailing (pumpFieldChecks (values (pumpRecord 1 0 6))) = none ∧ quiet.pumps[(0 : PumpNo)].state = .ready ∧
    (withPump (pumpAt .running) true true 1000).pumps[(0 : PumpNo)].state = .running ∧
    quiet.pumps[(2 : PumpNo)].settings.installed = false ∧ quiet.dty.setpoints.failing (quiet.npos + 1) = none ∧
    bare.dty.setpoints.failing (bare.npos + 1) = some (2, 3) ∧
    firstFailing (pumpFieldChecks (values (pumpRecord 1 1 0))) = some 6 ∧
    quiet.admits .a .configure (.fixed 13) (frame (pumpRecord 7 1 6)) (pumpRecord 7 1 6) ∧
    6 < ofBe ((pumpRecord 7 1 6).take 1) :=
  ⟨⟨⟨⟨rfl, rfl⟩, rfl, rfl, rfl⟩, by decide, rfl⟩, ⟨rfl, quiet_pumpsSafe⟩, ⟨⟨⟨rfl, rfl⟩, rfl, rfl, rfl⟩, rfl⟩,
    ⟨⟨rfl, rfl⟩, rfl, rfl, rfl⟩, rfl, rfl, rfl, rfl, rfl, rfl, rfl, rfl, rfl, ⟨⟨rfl, rfl⟩, rfl, rfl, rfl⟩, by decide⟩

/-- A table that fails each test of Table 4-4; lists taken and refused; a pump-down that has ended. -/
theorem witness_SetpointsAndRotationAreJudgedWhole :
    let marked : Station := { quiet with dty := { quiet.dty with altMark := true, mode := .onHours } };
    (quiet.pumpsSafe ∧ marked.dty.altMark = true ∧ marked.dty.held = 0 ∧ marked.dty.effective = 0 ∧
      (∀ n : PumpNo, marked.pumps[n].state ≠ .starting ∧ marked.pumps[n].state ≠ .running ∧ marked.pumps[n].state ≠ .stopping)) ∧
    { Setpoints.default with margin := 65536 }.failing 2 = some (1, 0) ∧
    { Setpoints.default with start := Setpoints.default.start.set 0 0 }.failing 2 = some (2, 1) ∧
    let table := fun t : Setpoints => encode Setpoints.widths t.values
    let low : Setpoints := { Setpoints.default with stop := Setpoints.default.stop.set 1 500 }
    Setpoints.default.failing 2 = none ∧ low.failing 2 = some (4, 2) ∧
    { Setpoints.default with start := Setpoints.default.start.set 1 1500 }.failing 2 = some (3, 2) ∧
    quiet.admits .a .operate (.fixed 35) (frame (table .default)) (table .default) ∧
    (Setpoints.ofValues (readFields Setpoints.widths (table .default))).failing quiet.npos = none ∧
    quiet.admits .a .operate (.fixed 35) (frame (table low)) (table low) ∧
    (Setpoints.ofValues (readFields Setpoints.widths (table low))).failing quiet.npos = some (4, 2) ∧
    quiet.admits .a .configure (.counted 1 1) (frame [2, 2, 2, 1]) [2, 2, 2, 1] ∧ (2 : Byte).toNat = AltMode.fixed.code ∧
    ([2, 1] : List Byte).map BitVec.toNat = ([1, 0] : List PumpNo).map (fun n => n.val + 1) ∧
    ([1, 0] : List PumpNo).Nodup ∧ ([1, 0] : List PumpNo).length = quiet.npos ∧
    (∀ n ∈ ([1, 0] : List PumpNo), quiet.pumps[n].settings.installed = true) ∧ quiet.dty.altMark = false ∧
    quiet.admits .a .configure (.counted 1 1) (frame [3, 2, 2, 1]) [3, 2, 2, 1] ∧
    quiet.admits .a .configure (.counted 1 1) (frame [0, 2, 1, 7]) [0, 2, 1, 7] ∧
    quiet.admits .a .configure (.counted 1 1) (frame [0, 2, 1, 1]) [0, 2, 1, 1] :=
  ⟨⟨quiet_pumpsSafe, rfl, rfl, rfl, by decide⟩, rfl, rfl, rfl, rfl, rfl,
    ⟨⟨rfl, rfl⟩, rfl, rfl, rfl⟩, rfl, ⟨⟨rfl, rfl⟩, rfl, rfl, rfl⟩, rfl, ⟨⟨rfl, rfl⟩, rfl, rfl, rfl⟩, rfl, rfl,
    by decide, rfl, by decide, rfl, ⟨⟨rfl, rfl⟩, rfl, rfl, rfl⟩, ⟨⟨rfl, rfl⟩, rfl, rfl, rfl⟩, ⟨⟨rfl, rfl⟩, rfl, rfl, rfl⟩⟩

/-- Levels at the cutoff and at the high alarm, with FLOAT_HIGH off and on; an evaluation that demands a pump; an inflow one above the
margin and at it, at START_1 less ANTICIPATE_MM and one below it. -/
theorem witness_DemandFollowsLevelsAndFloats :
    (1 ≤ ((quiet.setInput .floatHigh (contact true)).pruneAll.demand
      ⟨1000, 99, none, .float, none, none, none, .failed, none, none⟩).effective) ∧
    Setpoints.default.failing 2 = none ∧ 2 ≤ 6 ∧ 500 ≤ quiet.dty.setpoints.lowCutoff ∧
    quiet.dty.setpoints.lowCutoff < 501 ∧ quiet.dty.setpoints.highAlarm ≤ 4000 ∧ 3999 < quiet.dty.setpoints.highAlarm ∧
    quiet.settled .floatHigh = false ∧ quiet.settled .floatLow = true ∧
    (quiet.setInput .floatHigh (contact true)).settled .floatHigh = true ∧
    (quiet.setInput .floatLow (contact false)).settled .floatLow = false ∧
    (let t := quiet.dty.setpoints
     let near := t.startAt 1 - t.anticipate
     (quiet.demandAt near (some (t.margin + 1))).effective = 1 ∧ (quiet.demandAt near (some t.margin)).effective = 0 ∧
     (quiet.demandAt (near - 1) (some (t.margin + 1))).effective = 0 ∧ t.lowCutoff < near - 1) := by decide

/-- The rotation list of R60, and a pump in every state, start-limited at its sixth start; a READY pump that still carries its shed mark
is in neither set. -/
theorem witness_AssignmentFollowsTheRotation :
    quiet.rotationSafe ∧ (∀ x : PumpState, (withPump (pumpAt x) false false 1000).pumps[(0 : PumpNo)].state = x) ∧
    (pumpAt .ready).settings.maxStarts ≤ ([1, 2, 3, 4, 5, 6] : List Nat).length ∧
    (let st := withPump { pumpAt .ready with demand := true, shed := true } false false 1000
     (st.assign 2).kept = [] ∧ (st.assign 2).filled = [1] ∧ st.orderFor (st.assign 2) false 0 = none ∧
     st.orderFor (st.assign 0) true 0 = some .withdraw) := by
  unfold Station.rotationSafe
  exact ⟨by decide, fun _ => rfl, by decide, by decide⟩

/-- Each timer at its moment, with each way out of it. -/
theorem witness_PumpTimersActAtExpiry :
    let started := withPump { pumpAt .starting with timer := some 1000 } false true 1000
    let deferred := withPump { pumpAt .running with deferred := .normal, timer := some 1000 } true true 1000
    let still := withPump { pumpAt .running with timer := some 1005 } true true 1000
    let stuck := withPump { pumpAt .stopping with timer := some 1000 } true false 1000
    let brief := withPump { pumpAt .stopping with
      timer := some 1000, settings := { PumpSettings.default true with minOff := 0 } } false false 1000
    let rested := withPump { pumpAt .resting with timer := some 1000, demand := true } false false 1000
    let limited := withPump { pumpAt .resting with
      timer := some 40000, demand := true, history := [4000, 4001, 4002, 4003, 4004, 4005] } false false 40000
    let aged := withPump { pumpAt .ready with history := [4000] } false false 40001
    quiet.stc.heard = false ∧ started.comesDue (started.pumpTimer 0 .starting) started ∧
    deferred.comesDue (deferred.pumpTimer 0 .running) deferred ∧
    still.comesDue (still.pumpTimer 0 .running) { still with clock := 10050 } ∧
    (stuck.comesDue (stuck.pumpTimer 0 .stopping) stuck ∧ stuck.settled (.runFb 0) = true) ∧
    (brief.comesDue (brief.pumpTimer 0 .stopping) brief ∧ brief.settled (.runFb 0) = false) ∧
    rested.comesDue (rested.pumpTimer 0 .resting) rested ∧
    (limited.comesDue (limited.pumpTimer 0 .resting) limited ∧
      6 ≤ (limited.pumps[(0 : PumpNo)].history.dropWhile fun g => decide (g + 36000 < limited.uptime)).length) ∧
    aged.comesDue aged.pumps[(0 : PumpNo)].pruneExpiry aged :=
  ⟨rfl, ⟨rfl, _, rfl, rfl⟩, ⟨rfl, _, rfl, rfl⟩, ⟨rfl, _, rfl, rfl⟩, ⟨⟨rfl, _, rfl, rfl⟩, rfl⟩, ⟨⟨rfl, _, rfl, rfl⟩, rfl⟩,
    ⟨rfl, _, rfl, rfl⟩, ⟨⟨rfl, _, rfl, rfl⟩, by decide⟩, ⟨rfl, _, rfl, rfl⟩⟩

/-- RUN_FB of pump 1 taken on or off in each state, PUMP_FAULT taken on and off; GEN_RUN taken within its limit, and over it with a
motor to shed; the settling notices of a pump in OFF and of the STC, and a settling short of it. -/
theorem witness_ContactsMoveThePump :
    (let st := changing quiet .genRun true;
      st.changeComesDue .genRun st ∧ { st.withChange .genRun with stc := { quiet.stc with genSeen := true } }.overloaded = false) ∧
    (let heavy := { pumpAt .running with demand := true, settings := { PumpSettings.default true with ratedPower := 601 } }
      let st := changing (withPump heavy true true 1000) .genRun true
      let w : Station := { st.withChange .genRun with stc := { st.stc with genSeen := true } }
      st.changeComesDue .genRun st ∧ w.shedChoice w.shedCandidates w.loadAfterShedding w.committedLoad = [.pump 0] ∧
      st.rotationSafe) ∧
    (let st := settling (withPump (pumpAt .off) false false 1000) (.hoaAuto 0) true;
      st.settlingComesDue (.hoaAuto 0) st ∧ st.stc.heard = false ∧ (st.withSettling (.hoaAuto 0)).pumpNoticed 0 = true) ∧
    (let st := settling quiet .genRun true;
      st.settlingComesDue .genRun st ∧ (st.withSettling .genRun).stcSettled = true) ∧
    (let st := settling (quiet.setInput (.runFb 5) ⟨false, false, false, some ⟨10000, 50⟩, none⟩) .genRun true;
      st.settlingComesDue .genRun st ∧ (st.withSettling .genRun).stcSettled = false) ∧
    (∀ (x : PumpState) (on : Bool),
      let st := changing (withPump (pumpAt x) (!on) false 1000) (.runFb 0) on;
      st.changeComesDue (.runFb 0) st ∧ st.stc.heard = false ∧ st.pumps[(0 : PumpNo)].state = x ∧
      ((st.setInput (.runFb 0) ⟨on, on, true, none, some 1000⟩).seeFeedback 0).overloaded = false) ∧
    (changing quiet (.pumpFault 0) true).changeComesDue (.pumpFault 0) (changing quiet (.pumpFault 0) true) ∧
    (changing quiet (.pumpFault 0) false).changeComesDue (.pumpFault 0) (changing quiet (.pumpFault 0) false) ∧
    (withPump (pumpAt .off) false false 1000).pumpNoticed 0 = true :=
  ⟨⟨⟨rfl, _, rfl, rfl⟩, rfl⟩, ⟨⟨rfl, _, rfl, rfl⟩, rfl, by unfold Station.rotationSafe; decide⟩, ⟨⟨rfl, _, rfl, rfl⟩, rfl, rfl⟩,
    ⟨⟨rfl, _, rfl, rfl⟩, rfl⟩, ⟨⟨rfl, _, rfl, rfl⟩, rfl⟩,
    fun x on => by cases x <;> cases on <;> exact ⟨⟨rfl, _, rfl, rfl⟩, rfl, rfl, rfl⟩,
    ⟨rfl, _, rfl, rfl⟩, ⟨rfl, _, rfl, rfl⟩, rfl⟩

/-- A station whose head is pump 1 of this power, the last grant as said, spacing and budget expiries at uptime 2000. -/
def heading (m : Motor) (power lastGrant : Nat) : Station :=
  { withPump { pumpAt .waiting with demand := true, settings := { PumpSettings.default true with ratedPower := power } }
      false false 2000 with
    rkc := { quiet.rkc with state := .waiting, intervalOrigin := 2000 }
    stc := { quiet.stc with
      queue := [⟨m, 900, .budget⟩], lastGrant := some lastGrant, spacingExpiry := some 2000, budgetSince := some 1400 } }

/-- The head within the budget with the spacing elapsed to the tick, or one tick short; over the budget; the rake, short of both limits and parked at its top. An addition in front
of another; a pass that takes the trailing pump of two, and one that takes a rake in motion. -/
theorem witness_ExpiriesJudgeTheHead :
    (let st := heading (.pump 1) 150 1900;
      st.dty.rotation.length ≤ 6 ∧ st.queued (.pump 0) = false ∧ st.queued (.pump 1) = true ∧
      (st.enqueue (.pump 0)).stc.queue.map (·.motor) = [.pump 0, .pump 1]) ∧
    (let heavy := fun power : Nat => { pumpAt .running with
        demand := true, settings := { PumpSettings.default true with ratedPower := power } }
      let st : Station := { quiet with pumps := (quiet.pumps.set 0 (heavy 1200)).set 1 (heavy 1) }
      let rk := withRake (rakeAt .lowering (some 2000)) (.driven .down) 1000
      let two : Station := { rk with pumps := quiet.pumps.set 0 (heavy 1200) }
      st.dty.rotation = [0, 1] ∧ st.overloaded = true ∧ st.rotationSafe ∧
      st.shedChoice st.shedCandidates st.loadAfterShedding st.committedLoad = [.pump 1] ∧
      two.shedChoice two.shedCandidates two.loadAfterShedding two.committedLoad = [.rake]) ∧
    (let st := heading (.pump 0) 1200 1900;
      st.comesDue st.stc.spacingExpiry st ∧ st.overloaded = false ∧ st.budgetFits (.pump 0) = true ∧
      st.spacingElapsed = true ∧ st.pumps[(0 : PumpNo)].settings.installed = true ∧ st.pumps[(0 : PumpNo)].state = .waiting) ∧
    (heading (.pump 0) 1200 1901).spacingElapsed = false ∧ (heading (.pump 0) 1201 1900).budgetFits (.pump 0) = false ∧
    (let st := heading .rake 1200 1900;
      st.comesDue st.stc.spacingExpiry st ∧ st.budgetFits .rake = true ∧ st.spacingElapsed = true ∧
      st.rkc.state = .waiting ∧ st.settled .torqueTrip = false ∧ st.settled .limTop = false ∧ st.settled .limBottom = false) ∧
    (let st := (heading .rake 1200 1900).setInput .limTop (contact true);
      st.comesDue st.stc.spacingExpiry st ∧ st.overloaded = false ∧ st.budgetFits .rake = true ∧ st.spacingElapsed = true ∧
      st.rkc.state = .waiting ∧ st.rkc.homing = false ∧ st.settled .limTop = true ∧ st.settled .limBottom = false) ∧
    (heading (.pump 0) 1201 1900).comesDue (heading (.pump 0) 1201 1900).stc.budgetExpiry (heading (.pump 0) 1201 1900) ∧
    { heading .rake 0 0 with stc := { quiet.stc with spacingExpiry := some 2000 } }.stc.queue = [] :=
  ⟨⟨by decide, rfl, rfl, rfl⟩, ⟨rfl, rfl, by unfold Station.rotationSafe; decide, rfl, rfl⟩,
    ⟨⟨rfl, _, rfl, rfl⟩, rfl, rfl, rfl, rfl, rfl⟩, rfl, rfl, ⟨⟨rfl, _, rfl, rfl⟩, rfl, rfl, rfl, rfl, rfl, rfl⟩,
    ⟨⟨rfl, _, rfl, rfl⟩, rfl, rfl, rfl, rfl, rfl, rfl, rfl⟩, ⟨rfl, _, rfl, rfl⟩, rfl⟩

/-! ### Witnesses: rake, overflow and trace -/

/-- An update whose difference stands at the start limit and one that changes the interval's length to the tick of its expiry; a rake
in IDLE and one jammed, with each contact off and on. -/
theorem witness_RakeRequestsAreAnswered :
    (quiet.consts.diffStart : Int) ≤ (1150 : Int) - 1000 ∧
    (let k : Rake := { quiet.rkc with shortInterval := false, intervalOrigin := 0 };
      k.shortInterval ≠ (none : Option Int).isNone ∧
      k.intervalOrigin + 600 * max 1 (quiet.consts.intervalMin / 4) ≤ { quiet with clock := 42000 }.uptime) ∧
    quiet.admits .a .operate (.fixed 0) (frame []) [] ∧ quiet.stc.heard = false ∧ quiet.rkc.state = .idle ∧
    quiet.rkc.homing = false ∧ quiet.settled .skipFull = false ∧
    stormy.admits .a .operate (.fixed 0) (frame []) [] ∧ stormy.rkc.state = .jammed ∧ stormy.settled .torqueTrip = false ∧
    stormy.settled .limTop = false ∧ (stormy.setInput .limTop (contact true)).settled .limTop = true ∧
    (stormy.setInput .torqueTrip (contact true)).settled .torqueTrip = true ∧
    (quiet.setInput .skipFull (contact true)).settled .skipFull = true :=
  ⟨by decide, ⟨by decide, by decide⟩, ⟨⟨rfl, rfl⟩, rfl, rfl, rfl⟩, rfl, rfl, rfl, rfl, ⟨⟨rfl, rfl⟩, rfl, rfl, rfl⟩, rfl, rfl, rfl, rfl,
    rfl, rfl⟩

/-- Each phase timer at its moment; each rake contact taken on and off over a rake in every state, and settled for the first time. -/
theorem witness_RakeTimersActAtExpiry :
    (∀ (x : RakeState) (i : Input) (on : Bool), i = .torqueTrip ∨ i = .limBottom ∨ i = .limTop ∨ i = .skipFull →
      let st := changing (withRake (rakeAt x none) (.driven .up) 1000) i on;
      st.changeComesDue i st ∧ st.stc.heard = false ∧ st.rkc.state = x ∧ st.rkc.retries ≠ 0 ∧ st.ctu.drive = .driven .up) ∧
    (∀ i : Input, i = .limTop ∨ i = .limBottom ∨ i = .torqueTrip ∨ i = .skipFull →
      (settling quiet i true).settlingComesDue i (settling quiet i true)) ∧
    (∀ x : RakeState, x = .lowering ∨ x = .raising ∨ x = .discharging ∨ x = .resting →
      let st := withRake (rakeAt x (some 1000)) .clear 1000;
      st.comesDue (st.rakeTimer x) st ∧ st.stc.heard = false ∧ st.rkc.homing = false ∧ st.settled .skipFull = false) ∧
    (let st := withRake (rakeAt .reversing (some 1000)) (.driven .down) 1000;
      st.comesDue (st.rakeTimer .reversing) st ∧ st.ctu.drive = .driven .down) ∧
    (let st := { quiet with
        clock := 42000, lve := { quiet.lve with nextCycle := 4200 }, rpq := { quiet.rpq with nextSecond := 4200 } };
      st.comesDue (some st.intervalExpiry) st ∧ st.rkc.state = .idle) ∧
    1 ≤ quiet.consts.intervalMin :=
  ⟨fun x i on h => by rcases h with rfl | rfl | rfl | rfl <;> exact ⟨⟨rfl, _, by cases on <;> rfl, rfl⟩, rfl, rfl, Nat.one_ne_zero, rfl⟩,
    (fun i h => by rcases h with rfl | rfl | rfl | rfl <;> exact ⟨rfl, _, rfl, rfl⟩),
    (fun x h => by rcases h with rfl | rfl | rfl | rfl <;> exact ⟨⟨rfl, _, rfl, rfl⟩, rfl, rfl, rfl⟩),
    ⟨⟨rfl, _, rfl, rfl⟩, rfl⟩, ⟨⟨rfl, _, rfl, rfl⟩, rfl⟩, by decide⟩

/-- Heads at the two limits, counts one below theirs, an event at the top of its volume. -/
theorem witness_OverflowFollowsItsUpdates :
    (quiet.ofm.state = .quiet ∧ { quiet.consts with onCycles := 1 }.onCycles ≤ 1) ∧
    (quiet.ofm.state = .quiet ∧ 19 < quiet.consts.ovfStart ∧ quiet.consts.ovfStart ≤ 20 ∧ 1 < quiet.consts.onCycles) ∧
    (let o : Overflow := { Overflow.powerUp 65535 with state := .onset, onsetCount := 4 };
      quiet.consts.onCycles ≤ o.onsetCount + 1 ∧ 65535 ≤ o.eventCounter ∧ o.onsetCount - 1 + 1 < quiet.consts.onCycles) ∧
    (stormy.ofm.state = .spilling ∧ (∃ e, stormy.ofm.event = some e) ∧ 9 < stormy.consts.ovfEnd ∧ stormy.consts.ovfEnd ≤ 10) ∧
    ({ Overflow.powerUp 1 with state := .easing, easingCount := 119 } : Overflow).easingCount + 1 = quiet.consts.offCycles ∧
    16777215 < 16777215 + 1 ∧ quiet.rpq.queue.length < 60 ∧ quiet.sst.inFlight = none ∧ quiet.trb.state = .live :=
  ⟨by decide, by decide, by decide, ⟨rfl, ⟨_, rfl⟩, by decide, by decide⟩, rfl, by decide, by decide, rfl, rfl⟩

/-- A trace in FROZEN and one in LIVE; a triggered trace with one entry to come. -/
theorem witness_TraceRecordsFreezesAndReleases :
    (windowed 190).admits .a .ack (.fixed 0) (frame []) [] ∧ (windowed 190).trb.state = .frozen ∧
    quiet.admits .a .ack (.fixed 0) (frame []) [] ∧ quiet.trb.state ≠ .frozen ∧ quiet.trb.state = .live ∧
    (let b : Trace := ⟨[], .triggered, 1, some 1000, 4⟩;
      b.safe ∧ b.triggerUptime = some 1000 ∧ quiet.consts.traceInterval ≤ b.divider + 1 ∧ 1000 < 1010 ∧ 1000 ≤ 1000) ∧
    quiet.trb.divider + 1 < quiet.consts.traceInterval :=
  ⟨⟨⟨rfl, rfl⟩, rfl, rfl, rfl⟩, rfl, ⟨⟨rfl, rfl⟩, rfl, rfl, rfl⟩, by decide, rfl,
    ⟨⟨by decide, by decide, by decide, by decide⟩, rfl, by decide, by decide, by decide⟩, by decide⟩

/-! ### Witnesses: alarms, clock, reports and store -/

/-- A point whose condition is held on or off, in each state that goes with it. -/
theorem witness_ReportsMoveAlarmPoints :
    quiet.alt.points[(21 : PointNo)].condition ≠ true ∧ quiet.alt.points[(21 : PointNo)].condition = false ∧
    quiet.alt.points[(21 : PointNo)].state = .normal ∧
    (overflowPoint .activeAck true).alt.points[(21 : PointNo)].condition ≠ false ∧
    (overflowPoint .activeUnack true).alt.points[(21 : PointNo)].state = .activeUnack ∧
    (overflowPoint .clearedUnack false).alt.points[(21 : PointNo)].condition ≠ true ∧ (0 : PointNo) ≠ 21 := by decide

theorem witness_AlarmRequestsAct :
    let long : List Byte := List.replicate 33 1
    quiet.admits .a .ack (.counted 0 1) (frame (33 :: long)) (33 :: long) ∧ 32 < long.length ∧
    quiet.admits .a .ack (.counted 0 1) (frame [1, 33]) [1, 33] ∧ 32 < (33 : Byte).toNat ∧
    quiet.admits .a .ack (.counted 0 1) (frame [1, 0]) [1, 0] ∧ (0 : Byte).toNat < 1 ∧
    (overflowPoint .activeUnack true).admits .a .ack (.counted 0 1) (frame [0]) [0] ∧
    (overflowPoint .activeUnack true).admits .a .ack (.counted 0 1) (frame [2, 1, 32]) [2, 1, 32] ∧
    (∀ b ∈ ([1, 32] : List Byte), 1 ≤ b.toNat ∧ b.toNat ≤ 32) ∧
    quiet.admits .a .ack (.fixed 8) (frame (List.replicate 8 0xFF)) (List.replicate 8 0xFF) ∧
    (quiet.held = false ∧ quiet.alt.points[Alarm.overflow].condition ≠ true ∧
      (quiet.alt.attn .a).rise.getLsbD Alarm.overflow.val = true ∧ (quiet.alt.attn .a).pending = 0 ∧ quiet.rpq.queue = []) ∧
    (stormy.held = false ∧ (stormy.port .b).slot.status = .pending ∧ (stormy.port .b).awaits = some (.commit .weir)) ∧
    quiet.consts.thresholdA = 0 ∧ quiet.consts.thresholdB = 1 :=
  ⟨⟨⟨rfl, rfl⟩, rfl, rfl, rfl⟩, by decide, ⟨⟨rfl, rfl⟩, rfl, rfl, rfl⟩, by decide, ⟨⟨rfl, rfl⟩, rfl, rfl, rfl⟩, by decide,
    ⟨⟨rfl, rfl⟩, rfl, rfl, rfl⟩, ⟨⟨rfl, rfl⟩, rfl, rfl, rfl⟩, by decide, ⟨⟨rfl, rfl⟩, rfl, rfl, rfl⟩,
    ⟨rfl, by decide, by decide, rfl, rfl⟩, ⟨rfl, rfl, rfl⟩, rfl, rfl⟩

/-- An advance within a day, to a day's end, and the wrap to 0; a SET CLOCK within the day and to another; 65,536 starts in a
day. -/
theorem witness_StationTimeAdvancesAndIsSet :
    (let at' := fun time : Nat => { quiet with
        lve := { quiet.lve with nextCycle := 2000 }, rpq := { quiet.rpq with stationTime := time } };
      (at' 100).comesDue (some (at' 100).rpq.nextSecond) { at' 100 with clock := 10100 } ∧
      (at' 86399).comesDue (some (at' 86399).rpq.nextSecond) { at' 86399 with clock := 10100 } ∧
      (86399 + 1) % 4294967296 % 86400 = 0 ∧ (4294967295 + 1) % 4294967296 % 86400 = 0 ∧ (100 + 1) % 4294967296 % 86400 ≠ 0) ∧
    (withPump { pumpAt .ready with startsToday := 65536 } false false 1000).overfullDay (fun _ => 0) ∧
    quiet.sst.inFlight = none ∧ quiet.rpq.queue.length < 60 ∧
    quiet.admits .a .report (.fixed 4) (frame [0, 1, 0x51, 0x7F]) [0, 1, 0x51, 0x7F] ∧
    ofBe ([0, 1, 0x51, 0x7F] : List Byte) / 86400 = quiet.rpq.stationTime / 86400 ∧
    quiet.admits .a .report (.fixed 4) (frame [0, 1, 0x51, 0x80]) [0, 1, 0x51, 0x80] ∧
    ofBe ([0, 1, 0x51, 0x80] : List Byte) / 86400 ≠ quiet.rpq.stationTime / 86400 ∧
    (∃ e, stormy.ofm.event = some e) ∧ stormy.ofm.state = .spilling :=
  ⟨⟨⟨rfl, _, rfl, rfl⟩, ⟨rfl, _, rfl, rfl⟩, rfl, rfl, by decide⟩, ⟨0, .inl (by decide)⟩, rfl, by decide,
    ⟨⟨rfl, rfl⟩, rfl, rfl, rfl⟩, rfl, ⟨⟨rfl, rfl⟩, rfl, rfl, rfl⟩, by decide, ⟨_, rfl⟩, rfl⟩

/-- The oldest number, one past it, an empty queue; a full queue of one class. -/
theorem witness_TakeReportRemovesTheOldest :
    reported.admits .a .report (.fixed 2) (frame [1, 0xF5]) [1, 0xF5] ∧ ofBe ([1, 0xF5] : List Byte) = 501 ∧
    reported.admits .a .report (.fixed 2) (frame [1, 0xF6]) [1, 0xF6] ∧ (∃ r rs, reported.rpq.queue = r :: rs) ∧
    quiet.rpq.queue = [] ∧ quiet.admits .a .report (.fixed 2) (frame [0, 0]) [0, 0] ∧
    (let full : List Report := List.replicate 64 ⟨0, 0, .overflowOpen 1 0 20⟩;
      full.length = 64 ∧ lowestClass full = some 1 ∧ (RecordBody.station .softReset).cls < 1 ∧
      1 ≤ (RecordBody.overflowOpen 2 0 20).cls) :=
  ⟨⟨⟨rfl, rfl⟩, rfl, rfl, rfl⟩, rfl, ⟨⟨rfl, rfl⟩, rfl, rfl, rfl⟩, ⟨_, _, rfl⟩, rfl, ⟨⟨rfl, rfl⟩, rfl, rfl, rfl⟩,
    by decide +kernel⟩

/-- A save with no write in flight and behind one; the end of a write that covers port A's save, with and without a follow-up. -/
theorem witness_SavesAreWrittenAndAnswered :
    let writing := fun mark : Bool => { saving with sst := { saving.sst with
      inFlight := some ⟨.defaults, 1012⟩, followUp := mark, coverA := .current } }
    quiet.admits .a .configure (.fixed 0) (frame []) [] ∧ quiet.sst.inFlight = none ∧
    (writing true).admits .b .configure (.fixed 0) (frame []) [] ∧ (∀ mark, (writing mark).sst.inFlight ≠ none) ∧
    (writing true).held = false ∧ (writing true).sst.inFlight = some ⟨.defaults, 1012⟩ ∧ (writing true).sst.followUp = true ∧
    (writing false).sst.followUp = false ∧ (writing true).sst.cover .a = .current ∧ (writing true).sst.cover .b ≠ .current ∧
    ((writing true).port .a).slot.status = .pending ∧ ((writing true).port .a).awaits = some .save ∧ (1 : BitVec 16) ≠ 0 :=
  ⟨⟨⟨rfl, rfl⟩, rfl, rfl, rfl⟩, rfl, ⟨⟨rfl, rfl⟩, rfl, rfl, rfl⟩, fun _ h => (by cases h), rfl, rfl, rfl, rfl, rfl, by decide, rfl, rfl,
    by decide⟩

/-- The default constants, and START_SPACING out of its range. -/
theorem witness_ConstantsAreJudgedThenTaken :
    let bytes := fun c : Constants => encode Constants.widths c.values
    let bad : Constants := { Constants.default with startSpacing := 0 }
    quiet.admits .a .configure (.fixed 74) (frame (bytes .default)) (bytes .default) ∧
    firstFailing (Constants.ofValues (readFields Constants.widths (bytes .default))).checks = none ∧
    quiet.admits .a .configure (.fixed 74) (frame (bytes bad)) (bytes bad) ∧
    firstFailing (Constants.ofValues (readFields Constants.widths (bytes bad))).checks = some 3 := by
  refine ⟨⟨⟨rfl, rfl⟩, ?_, ?_, rfl⟩, ?_, ⟨⟨rfl, rfl⟩, ?_, ?_, rfl⟩, ?_⟩ <;> decide +kernel

/-! ### Witnesses: what every step keeps -/

/-- The quiet station keeps every invariant, and a step of it answers a next state. -/
theorem witness_KeptByEveryStep :
    quiet.pumpsSafe ∧ quiet.loadSafe ∧ quiet.tableSafe ∧ quiet.queueSafe ∧ quiet.alarmsSafe ∧ quiet.curvesSafe ∧
    quiet.reportsSafe ∧ quiet.portsSafe ∧ quiet.levelSafe ∧
    ∃ t, step ⟨quiet, [.requestRakeCycle .a (frame [])]⟩ = .next t := by
  refine ⟨?_, ⟨?_, ?_, rfl⟩, ?_, ?_, ?_, ?_, ?_, ?_, ?_, ⟨_, rfl⟩⟩
  · exact quiet_pumpsSafe
  · unfold Station.rotationSafe; decide +kernel
  · decide +kernel
  · unfold Station.tableSafe; decide +kernel
  · unfold Station.queueSafe; decide +kernel
  · unfold Station.alarmsSafe PointRec.safe; decide +kernel
  · unfold Station.curvesSafe Curve.safe; decide +kernel
  · unfold Station.reportsSafe; decide +kernel
  · unfold Station.portsSafe Trace.safe Port.safe Window.safe; decide +kernel
  · unfold Station.levelSafe Channel.safe; decide +kernel

/-- A grant to the tick after another, and a direction driven. -/
theorem witness_GrantsAndDirectionsAreSpaced :
    (heading (.pump 0) 1200 1900).stc.lastGrant = some 1900 ∧
    (ran .spacingExpiry (heading (.pump 0) 1200 1900)).stc.lastGrant = some 2000 ∧
    (∃ t, exec .spacingExpiry ⟨heading (.pump 0) 1200 1900, []⟩ = .next t) ∧ Instr.spacingExpiry ≠ .powerUp ∧
    (ran .spacingExpiry (heading .rake 1200 1900)).ctu.drive = .driven .down ∧
    (ran .reverseTimerExpiry (withRake (rakeAt .reversing (some 1000)) (.driven .down) 1000)).ctu.drive = .dead 10050 (some .up) :=
  ⟨rfl, by decide +kernel, ⟨_, rfl⟩, by decide, by decide +kernel, by decide +kernel⟩

end Sys2Proof.Tests
end

section
/-! PROOFS. What pumps, rake and Start Controller can do to the station, as runs of elementary moves. -/

namespace Sys2Proof.Machine

/-- The alarm points whose conditions the pumps, the rake and the Start Controller own (Table 9-1). -/
def controlPoint (k : PointNo) : Prop := k.val < 12 ∨ (22 ≤ k.val ∧ k.val ≤ 27) ∨ k.val = 29

/-- One elementary change that a pump, the rake or the Start Controller makes. The rotation list moves only while the
alternation mark is set (R63, R64). -/
inductive ControlMove (a : Station) : Station → Prop
  | stc (c : StartControl) : ControlMove a { a with stc := c }
  | pumps (ps : Vector PumpRec 6) : ControlMove a { a with pumps := ps }
  | rake (r : Rake) : ControlMove a { a with rkc := r }
  | outputs (v : Vector Bool 6) (d : Drive) : ControlMove a { a with ctu := { a.ctu with pumpRun := v, drive := d } }
  | rotation (l : List PumpNo) (m : Bool) (marked : a.dty.altMark = true) :
    ControlMove a { a with dty := { a.dty with rotation := l, altMark := m } }
  | report (k : PointNo) (on : Bool) (owned : controlPoint k) : ControlMove a (a.report k on)

/-- A run of such changes. -/
abbrev ControlRun : Station → Station → Prop := Relation.ReflTransGen ControlMove

namespace ControlRun

theorem refl (a : Station) : ControlRun a a := Relation.ReflTransGen.refl

variable {a st : Station} (h : ControlRun a st)

include h

/-! ### Queue, loads and records -/

theorem stc (c : StartControl) : ControlRun a { st with stc := c } := h.tail (.stc c)

theorem rkc (r : Rake) : ControlRun a { st with rkc := r } := h.tail (.rake r)

theorem setPump (n : PumpNo) (p : PumpRec) : ControlRun a (st.setPump n p) := h.tail (.pumps _)

theorem setPumpRun (n : PumpNo) (on : Bool) : ControlRun a (st.setPumpRun n on) := h.tail (.outputs _ _)

theorem report {k : PointNo} (owned : controlPoint k) (on : Bool) : ControlRun a (st.report k on) :=
  h.tail (.report k on owned)

theorem ring : ControlRun a st.ring := h.stc _

theorem resort : ControlRun a st.resort := h.stc _

theorem dequeue (m : Motor) : ControlRun a (st.dequeue m) := h.stc _

theorem hold (r : Hold) : ControlRun a (st.hold r) := h.stc _

theorem armSpacing : ControlRun a st.armSpacing := h.stc _

theorem seeFeedback (n : PumpNo) : ControlRun a (st.seeFeedback n) := h.stc _

theorem withdraw (m : Motor) : ControlRun a (st.withdraw m) := (h.dequeue m).ring

theorem withdrawRake : ControlRun a st.withdrawRake := (h.withdraw .rake).stc _

theorem reportUnshed (n : PumpNo) : ControlRun a (st.reportUnshed n) := (h.stc _).ring

theorem enqueue (m : Motor) : ControlRun a (st.enqueue m) := by
  unfold Station.enqueue
  split
  · exact h.ring
  · exact (h.stc _).resort.ring

theorem testPumpDown : ControlRun a st.testPumpDown := by
  unfold Station.testPumpDown
  split
  next hp =>
    have marked : st.dty.altMark = true := by
      simp only [Station.pumpDownEnd, Bool.and_eq_true] at hp
      exact hp.1.1.1
    have turn (l : List PumpNo) : ControlRun a { st.setRotation l with dty := { (st.setRotation l).dty with altMark := false } } :=
      Relation.ReflTransGen.tail ((h.tail (.rotation l true marked)).tail (.stc _)) (.rotation l false rfl)
    unfold Station.alternate
    split
    · exact turn _
    · exact turn _
    · exact h.tail (.rotation _ false marked)
  · exact h

/-! ### Pumps -/

theorem setDeferred (n : PumpNo) (d : Deferred) : ControlRun a (st.setDeferred n d) := h.setPump n _

theorem setInhibit (n : PumpNo) (on : Bool) : ControlRun a (st.setInhibit n on) := h.setPump n _

theorem setPumpDemand (n : PumpNo) : ControlRun a (st.setPumpDemand n) := h.setPump n _

theorem prune (n : PumpNo) : ControlRun a (st.prune n) := h.setPump n _

theorem pruneAll : ControlRun a st.pruneAll := by
  have all (l : List PumpNo) : ControlRun a (l.foldl Station.prune st) := by
    induction l generalizing st with
    | nil => exact h
    | cons n l ih => exact ih (h.prune n)
  exact all _

theorem judgeStartLimited : ControlRun a st.judgeStartLimited := h.report (.inr (.inr rfl)) _

theorem reportPump (n : PumpNo) : ControlRun a (st.reportPump n) :=
  ((h.report (.inl (by simp only [Alarm.pumpFault]; omega)) _).report
    (.inl (by simp only [Alarm.runLost]; omega)) _).judgeStartLimited

theorem enter (n : PumpNo) (s : PumpState) : ControlRun a (st.enter n s) := by
  unfold Station.enter
  dsimp only
  split
  · exact (h.ring.setPump n _).testPumpDown
  · exact (h.setPump n _).testPumpDown

theorem clearDemand (n : PumpNo) : ControlRun a (st.clearDemand n) := by
  unfold Station.clearDemand
  dsimp only
  split
  · exact (h.setPump n _).reportUnshed n
  · exact h.setPump n _

theorem enterWaiting (n : PumpNo) : ControlRun a (st.enterWaiting n) := (h.enter n _).enqueue _

theorem withdrawPump (n : PumpNo) : ControlRun a (st.withdrawPump n) := by
  unfold Station.withdrawPump
  split
  · exact h.withdraw _
  · exact h

theorem enterFaulted (n : PumpNo) (c : PumpCause) : ControlRun a (st.enterFaulted n c) := (h.enter n _).setPump n _

theorem endRest (n : PumpNo) : ControlRun a (st.endRest n) := by
  unfold Station.endRest
  dsimp only
  split
  · exact (h.clearDemand n).enter n _
  · split
    · split
      · split
        · exact (((h.prune n).setPump n _).reportUnshed n).enter n _
        · exact ((h.prune n).setPump n _).enter n _
      · exact (h.prune n).enterWaiting n
    · exact h.enter n _

theorem enterResting (n : PumpNo) : ControlRun a (st.enterResting n) := by
  unfold Station.enterResting
  dsimp only
  split
  · exact (h.enter n _).endRest n
  · exact h.enter n _

theorem stopNow (n : PumpNo) : ControlRun a (st.stopNow n) := ((h.setPumpRun n _).setDeferred n _).enter n _

theorem orderStart (n : PumpNo) : ControlRun a (st.orderStart n) := by
  have hd := h.setPumpDemand n
  unfold Station.orderStart
  split
  · dsimp only
    split
    · exact hd.prune n
    · exact (hd.prune n).enterWaiting n
  · exact hd
  · exact hd
  · exact hd
  · exact hd.setDeferred n _
  · exact hd.setDeferred n _
  all_goals exact h

theorem orderStop (n : PumpNo) : ControlRun a (st.orderStop n) := by
  have hc := h.clearDemand n
  unfold Station.orderStop
  split
  · exact hc
  · exact hc
  · exact hc
  · exact (hc.withdraw _).enter n _
  · exact hc.setDeferred n _
  · split
    · exact hc.stopNow n
    · exact hc.setDeferred n _
  all_goals exact h

theorem orderCutoff (n : PumpNo) : ControlRun a (st.orderCutoff n) := by
  have hc := h.clearDemand n
  unfold Station.orderCutoff
  split
  · exact hc
  · exact hc
  · exact hc
  · exact (hc.withdraw _).enter n _
  · exact hc.setDeferred n _
  · exact hc.stopNow n
  all_goals exact h

theorem order (n : PumpNo) (o : Order) : ControlRun a (st.order n o) := by
  cases o with
  | start => exact h.orderStart n
  | keep => exact h.orderStart n
  | stop => exact h.orderStop n
  | withdraw => exact h.orderStop n
  | cutoffStop => exact h.orderCutoff n

theorem grantPump (n : PumpNo) : ControlRun a (st.grantPump n) := by
  unfold Station.grantPump
  split
  · exact ((((h.prune n).setPump n _).setPumpRun n _).enter n _).reportPump n
  · exact h

theorem shedPump (n : PumpNo) : ControlRun a (st.shedPump n) := by
  unfold Station.shedPump
  split
  · dsimp only
    split
    · exact (h.stopNow n).setPump n _
    · exact (h.stopNow n).reportUnshed n
  · exact h.reportUnshed n

theorem uncommandedRun (n : PumpNo) : ControlRun a (st.uncommandedRun n) :=
  (((h.withdrawPump n).clearDemand n).setInhibit n _).enterFaulted n _

theorem motorFault (n : PumpNo) : ControlRun a (st.motorFault n) :=
  (((((h.withdrawPump n).setPumpRun n _).clearDemand n).setDeferred n _).setInhibit n _).enterFaulted n _

theorem runConfirmed (n : PumpNo) : ControlRun a (st.runConfirmed n) := by
  have he (p : PumpRec) := (h.setPump n p).enter n .running
  unfold Station.runConfirmed
  dsimp only
  split
  · exact (he _).stopNow n
  · split
    · exact (he _).stopNow n
    · exact he _
  · exact he _

theorem lostRun (n : PumpNo) : ControlRun a (st.lostRun n) := ((h.setPumpRun n _).setPump n _).enterResting n

theorem pumpFeedback (n : PumpNo) (on : Bool) : ControlRun a (st.pumpFeedback n on) := by
  unfold Station.pumpFeedback
  split
  · exact h.runConfirmed n
  · exact h.uncommandedRun n
  · exact h.uncommandedRun n
  · exact h.uncommandedRun n
  · exact h.uncommandedRun n
  · split
    · exact h.uncommandedRun n
    · exact h
  · exact h.lostRun n
  · exact h.enterResting n
  all_goals exact h

theorem pumpFaultChange (n : PumpNo) (on : Bool) : ControlRun a (st.pumpFaultChange n on) := by
  unfold Station.pumpFaultChange
  split
  · exact h.motorFault n
  · exact h

theorem enterAuto (n : PumpNo) : ControlRun a (st.enterAuto n) := by
  unfold Station.enterAuto
  dsimp only
  split
  · exact (h.enter n _).motorFault n
  · split
    · exact (h.enter n _).stopNow n
    · exact h.enter n _

theorem leaveAuto (n : PumpNo) (s : PumpState) : ControlRun a (st.leaveAuto n s) :=
  ((((((h.withdrawPump n).setPumpRun n _).clearDemand n).setDeferred n _).setInhibit n _).setPump n _).enter n s

/-- A position leaves the pump, turns it to AUTO, moves it between OFF and HAND, or takes it out of an auto state. -/
theorem selectorChange (n : PumpNo) (pos : Position) : ControlRun a (st.selectorChange n pos) := by
  unfold Station.selectorChange
  split
  all_goals
    first
    | with_reducible exact h
    | with_reducible exact h.enterAuto n
    | with_reducible exact h.leaveAuto n _
    | with_reducible exact h.enter n _

theorem pumpNotice (n : PumpNo) : ControlRun a (st.pumpNotice n) := by
  unfold Station.pumpNotice
  split
  · exact h.selectorChange n _
  · exact h

theorem confirmExpired (n : PumpNo) : ControlRun a (st.confirmExpired n) :=
  (((h.setPumpRun n _).clearDemand n).setDeferred n _).enterFaulted n _

theorem minRunExpired (n : PumpNo) : ControlRun a (st.minRunExpired n) := by
  unfold Station.minRunExpired
  split
  · exact h.stopNow n
  · exact h.setPump n _
  · exact h.setPump n _

theorem stopConfirmExpired (n : PumpNo) : ControlRun a (st.stopConfirmExpired n) := by
  unfold Station.stopConfirmExpired
  split
  · exact (h.clearDemand n).enterFaulted n _
  · exact h.enterResting n

theorem inhibitPump (n : PumpNo) : ControlRun a (st.inhibitPump n).2 := by
  have hm := ((h.setInhibit n true).clearDemand n)
  unfold Station.inhibitPump
  split
  · exact h
  · exact h
  · exact h
  · exact h
  · exact (hm.setDeferred n _).enter n _
  · exact ((hm.setDeferred n _).withdraw _).enter n _
  · exact hm.stopNow n
  · exact hm.stopNow n
  all_goals exact hm.setDeferred n _

theorem releasePump (n : PumpNo) : ControlRun a (st.releasePump n).2 := by
  unfold Station.releasePump
  split
  · exact (h.setInhibit n _).enter n _
  all_goals first | exact h | split
  all_goals first | exact h | exact h.setInhibit n _

theorem resetPumpFault (n : PumpNo) : ControlRun a (st.resetPumpFault n).2 := by
  unfold Station.resetPumpFault
  split
  · exact h
  · dsimp only
    split
    · exact (h.setPump n _).enterResting n
    · exact (h.setPump n _).enter n _
    · exact (h.setPump n _).enter n _

theorem applyMaxStarts (n : PumpNo) : ControlRun a (st.applyMaxStarts n) := by
  unfold Station.applyMaxStarts
  dsimp only
  split
  · exact (((h.prune n).setPump n _).withdraw _).enter n _
  · exact (h.prune n).setPump n _

theorem runSecond : ControlRun a st.runSecond := h.tail (.pumps _)

theorem softResetPump (n : PumpNo) : ControlRun a (st.softResetPump n) := (h.setPump n _).ring

theorem resetPumpUnit (n : PumpNo) : ControlRun a (st.resetPumpUnit n) := (h.softResetPump n).reportPump n

/-! ### Rake -/

theorem askDrive (d : Option Dir) : ControlRun a (st.askDrive d) := h.tail (.outputs _ _)

theorem rakeEnter (s : RakeState) : ControlRun a (st.rakeEnter s) := by
  unfold Station.rakeEnter
  dsimp only
  split
  · exact (h.rkc _).askDrive _
  · exact ((h.rkc _).askDrive _).ring

theorem rakeTestWait : ControlRun a st.rakeTestWait := by
  unfold Station.rakeTestWait
  split
  · exact (h.rakeEnter _).enqueue _
  · exact h

theorem rakeIdle : ControlRun a st.rakeIdle := (h.rakeEnter _).rakeTestWait

theorem rakeSetDemand : ControlRun a st.rakeSetDemand := (h.rkc _).rakeTestWait

theorem rakeJam (c : JamCause) : ControlRun a (st.rakeJam c) :=
  ((h.rakeEnter _).rkc _).report (.inr (.inl (by decide))) _

theorem rakeAtTop : ControlRun a st.rakeAtTop := by
  unfold Station.rakeAtTop
  split
  · exact (h.rkc _).rakeIdle
  · exact h.rakeEnter _

theorem rakeTrip : ControlRun a st.rakeTrip := by
  unfold Station.rakeTrip
  split
  · exact h.rakeJam _
  · exact (h.rkc _).rakeEnter _

theorem rakeBegin (limit : Nat) : ControlRun a (st.rakeBegin limit) := h.rkc _

theorem rakeDriven : ControlRun a st.rakeDriven := by
  unfold Station.rakeDriven
  split
  · dsimp only
    split
    · exact (h.rakeBegin _).rakeJam _
    · split
      · exact (h.rakeBegin _).rakeEnter _
      · exact h.rakeBegin _
  · dsimp only
    split
    · exact (h.rakeBegin _).rakeAtTop
    · split
      · exact (h.rakeBegin _).rakeTrip
      · exact h.rakeBegin _
  · dsimp only
    split
    · exact (h.rakeBegin _).rakeEnter _
    · exact h.rakeBegin _
  all_goals exact h

theorem driveReport : ControlRun a st.driveReport := by
  unfold Station.driveReport
  split
  · exact h.rakeDriven
  · exact h

theorem grantRake : ControlRun a st.grantRake := by
  unfold Station.grantRake
  split
  · dsimp only
    split
    · exact ((h.rkc _).rakeEnter _).driveReport
    · exact (((h.rkc _).rkc _).rakeEnter _).driveReport
  · exact h

theorem shedRake : ControlRun a st.shedRake := by
  unfold Station.shedRake
  split
  · exact ((h.rkc _).rakeEnter _).enqueue _
  · exact h.withdrawRake

theorem rakeContact (i : Input) (on : Bool) : ControlRun a (st.rakeContact i on) := by
  unfold Station.rakeContact
  split
  · exact h.rakeAtTop.driveReport
  · exact (h.rakeEnter _).driveReport
  · exact (h.rakeEnter _).driveReport
  · exact h.rakeJam _
  · exact h.rakeTrip.driveReport
  · exact h.rakeJam _
  · have hs := h.report (k := Alarm.skipFull) (.inr (.inl (by decide)))
    dsimp only
    split
    · split
      · exact (hs _).withdrawRake.rakeEnter _
      · exact hs _
    · exact (hs _).rakeTestWait
  · exact h

theorem rakeNotice : ControlRun a st.rakeNotice := h.report (.inr (.inl (by decide))) _

theorem countCycle : ControlRun a st.countCycle := h.rkc _

theorem intervalExpired : ControlRun a st.intervalExpired := (h.rkc _).rakeSetDemand

theorem rearmInterval : ControlRun a st.rearmInterval := by
  unfold Station.rearmInterval
  split
  · exact h.intervalExpired
  · exact h

theorem rakeDifferential (u : LevelUpdate) : ControlRun a (st.rakeDifferential u) := by
  unfold Station.rakeDifferential
  dsimp only
  split
  · exact h.rkc _
  · split
    · exact (h.rkc _).rakeSetDemand
    · exact h.rkc _

theorem rakeInterval (u : LevelUpdate) : ControlRun a (st.rakeInterval u) := by
  unfold Station.rakeInterval
  split
  · exact h
  · exact (h.rkc _).rearmInterval

theorem rakeBlinding (u : LevelUpdate) : ControlRun a (st.rakeBlinding u) := by
  unfold Station.rakeBlinding
  dsimp only
  split
  · exact h.rkc _
  · exact ((h.rkc _).report (.inr (.inl (by decide))) _).resort.ring

theorem resetRake : ControlRun a st.resetRake.2 := by
  have hj (r : Rake) := (h.rkc r).report (k := Alarm.rakeJammed) (.inr (.inl (by decide))) false
  unfold Station.resetRake
  split
  · exact h
  · dsimp only
    split
    · exact (hj _).rakeIdle
    · exact ((hj _).rkc _).rakeIdle

theorem softResetRake : ControlRun a st.softResetRake := by
  have reports {t : Station} (ht : ControlRun a t) : ControlRun a
      (((t.report Alarm.rakeJammed (t.rkc.state == .jammed)).report Alarm.skipFull
        ((t.report Alarm.rakeJammed (t.rkc.state == .jammed)).settled .skipFull))) :=
    (ht.report (.inr (.inl (by decide))) _).report (.inr (.inl (by decide))) _
  have rest {t : Station} (ht : ControlRun a t) (on : Bool) :
      ControlRun a (t.report Alarm.screenBlinded on).resort.ring.rakeTestWait :=
    (ht.report (.inr (.inl (by decide))) _).resort.ring.rakeTestWait
  unfold Station.softResetRake
  split
  · exact rest (reports (h.rakeEnter _)) _
  · exact rest (reports (h.rakeEnter _)) _
  · exact rest (reports (h.rakeEnter _)) _
  · exact rest (reports (h.rakeEnter _)) _
  · exact rest (reports (h.rakeEnter _)) _
  · exact rest (reports (h.countCycle.rakeEnter _)) _
  · exact rest (reports h) _
  · exact rest (reports h) _

/-! ### Start Controller -/

theorem shedMotor (m : Motor) : ControlRun a (st.shedMotor m) := by
  cases m with
  | pump n => exact ((h.stc _).shedPump n).reportPump n
  | rake => exact (h.stc _).shedRake

theorem shedMotors (l : List Motor) : ControlRun a (l.foldl Station.shedMotor st) := by
  induction l generalizing st with
  | nil => exact h
  | cons m l ih => exact ih (h.shedMotor m)

theorem shedPass : ControlRun a st.shedPass := by
  unfold Station.shedPass
  split
  · exact h
  · exact ((h.stc _).report (.inr (.inl (by decide))) _).shedMotors _

theorem shedPasses (k : Nat) : ControlRun a (Station.shedPasses k st) := by
  induction k generalizing st with
  | zero => exact h
  | succ k ih =>
    unfold Station.shedPasses
    split
    · exact ih h.shedPass
    · exact h

theorem deliverGrant (m : Motor) : ControlRun a (st.deliverGrant m) := by
  cases m with
  | pump n => exact h.grantPump n
  | rake => exact h.grantRake

theorem holdNewHead : ControlRun a st.holdNewHead := by
  unfold Station.holdNewHead
  split
  · exact h
  · exact h.hold _

theorem grant (m : Motor) : ControlRun a (st.grant m) :=
  ((((h.dequeue m).stc _).armSpacing).deliverGrant m).holdNewHead

theorem grantTest : ControlRun a st.grantTest := by
  unfold Station.grantTest
  split
  · exact h
  · split
    · split
      · exact h.grant _
      · exact h.hold _
    · exact h.hold _

theorem testLoadShed : ControlRun a st.testLoadShed := by
  unfold Station.testLoadShed
  split
  · exact (h.stc _).report (.inr (.inl (by decide))) _
  · exact h

theorem judgeBudget : ControlRun a st.judgeBudget := by
  unfold Station.judgeBudget
  split
  · split
    · exact h
    · exact h.stc _
  · exact (h.stc _).report (.inr (.inl (by decide))) _

theorem stcEvent : ControlRun a st.stcEvent := (h.shedPasses 8).grantTest.testLoadShed.judgeBudget.stc _

theorem settleStc : ControlRun a st.settleStc := by
  unfold Station.settleStc
  split
  · exact h.stcEvent
  · exact h

omit h in
/-- A PRU's handling is such a run when the handling itself is. -/
theorem pumpEvent {n : PumpNo} {f : Station → Station} (hf : ControlRun a (f st)) : ControlRun a (st.pumpEvent n f) :=
  (hf.reportPump n).settleStc

theorem formLimit : ControlRun a st.formLimit := (h.stc _).ring

theorem genChange : ControlRun a st.genChange := (h.formLimit.report (.inr (.inl (by decide))) _).settleStc

theorem stcFeedback (n : PumpNo) : ControlRun a (st.stcFeedback n) := (h.seeFeedback n).ring.settleStc

theorem stcNotice : ControlRun a st.stcNotice := (h.stc _).genChange

theorem spacingExpired : ControlRun a st.spacingExpired := (h.stc _).ring.settleStc

theorem budgetExpired : ControlRun a st.budgetExpired :=
  ((h.stc _).report (.inr (.inl (by decide))) _).ring.settleStc

theorem softResetStc : ControlRun a st.softResetStc := (h.stc _).armSpacing

theorem finishStcReset : ControlRun a st.finishStcReset :=
  ((h.report (.inr (.inl (by decide))) _).report (.inr (.inl (by decide))) _).testLoadShed.ring.settleStc

theorem send (orders : Vector (Option Order) 6) (n : PumpNo) : ControlRun a (st.send orders n) := by
  unfold Station.send
  split
  · exact h
  · exact pumpEvent (h.order n _)

theorem sends (orders : Vector (Option Order) 6) (l : List PumpNo) :
    ControlRun a (l.foldl (fun s n => s.send orders n) st) := by
  induction l generalizing st with
  | nil => exact h
  | cons n l ih => exact ih (h.send orders n)

/-! ### What a level update has the rake do, and the timed events of pumps and rake -/

theorem rakeUpdate (u : LevelUpdate) : ControlRun a (st.rakeUpdate u) :=
  ((((h.rakeDifferential u).settleStc.rakeInterval u).settleStc).rakeBlinding u).settleStc

theorem deadExpired : ControlRun a st.deadExpired :=
  Relation.ReflTransGen.trans (h.tail (.outputs _ _)) (driveReport (.refl _)).settleStc

theorem lowerExpired : ControlRun a st.lowerExpired := (h.rakeJam _).settleStc

theorem raiseExpired : ControlRun a st.raiseExpired := (h.rakeJam _).settleStc

theorem reverseExpired : ControlRun a st.reverseExpired := (h.rakeEnter _).driveReport.settleStc

theorem dwellExpired : ControlRun a st.dwellExpired := ((h.countCycle.rakeEnter _).rearmInterval).settleStc

theorem restExpired : ControlRun a st.restExpired := h.rakeIdle.settleStc

end ControlRun

end Sys2Proof.Machine
end

section
/-! PROOFS. What an alarm report leaves unchanged, what every run of control moves keeps, and the same for the larger runs that
the readers of a level update and the daily close make. -/

namespace Sys2Proof.Machine

/-! ### Alarm reports -/

section
variable (st : Station) (k : PointNo) (on : Bool)

/-- A report moves the alarm table, the report queue and the BEACON output alone. -/
theorem Station.report_shape : ∃ t q b, st.report k on =
    { st with alt := t, rpq := q, ctu := { st.ctu with beacon := b } } := by
  unfold Station.report
  split
  · exact ⟨st.alt, st.rpq, st.ctu.beacon, rfl⟩
  · exact ⟨_, _, _, rfl⟩

@[simp] theorem Station.report_held : (st.report k on).held = st.held := by
  obtain ⟨t, q, b, h⟩ := st.report_shape k on; rw [h]
@[simp] theorem Station.report_clock : (st.report k on).clock = st.clock := by
  obtain ⟨t, q, b, h⟩ := st.report_shape k on; rw [h]
@[simp] theorem Station.report_lve : (st.report k on).lve = st.lve := by
  obtain ⟨t, q, b, h⟩ := st.report_shape k on; rw [h]
@[simp] theorem Station.report_crv : (st.report k on).crv = st.crv := by
  obtain ⟨t, q, b, h⟩ := st.report_shape k on; rw [h]
@[simp] theorem Station.report_dty : (st.report k on).dty = st.dty := by
  obtain ⟨t, q, b, h⟩ := st.report_shape k on; rw [h]
@[simp] theorem Station.report_stc : (st.report k on).stc = st.stc := by
  obtain ⟨t, q, b, h⟩ := st.report_shape k on; rw [h]
@[simp] theorem Station.report_pumps : (st.report k on).pumps = st.pumps := by
  obtain ⟨t, q, b, h⟩ := st.report_shape k on; rw [h]
@[simp] theorem Station.report_rkc : (st.report k on).rkc = st.rkc := by
  obtain ⟨t, q, b, h⟩ := st.report_shape k on; rw [h]
@[simp] theorem Station.report_ofm : (st.report k on).ofm = st.ofm := by
  obtain ⟨t, q, b, h⟩ := st.report_shape k on; rw [h]
@[simp] theorem Station.report_trb : (st.report k on).trb = st.trb := by
  obtain ⟨t, q, b, h⟩ := st.report_shape k on; rw [h]
@[simp] theorem Station.report_portA : (st.report k on).portA = st.portA := by
  obtain ⟨t, q, b, h⟩ := st.report_shape k on; rw [h]
@[simp] theorem Station.report_portB : (st.report k on).portB = st.portB := by
  obtain ⟨t, q, b, h⟩ := st.report_shape k on; rw [h]
@[simp] theorem Station.report_port (p : PortId) : (st.report k on).port p = st.port p := by
  obtain ⟨t, q, b, h⟩ := st.report_shape k on; rw [h]; rfl
@[simp] theorem Station.report_consts : (st.report k on).consts = st.consts := by
  obtain ⟨t, q, b, h⟩ := st.report_shape k on; rw [h]
@[simp] theorem Station.report_sst : (st.report k on).sst = st.sst := by
  obtain ⟨t, q, b, h⟩ := st.report_shape k on; rw [h]
@[simp] theorem Station.report_draws : (st.report k on).draws = st.draws := by
  obtain ⟨t, q, b, h⟩ := st.report_shape k on; rw [h]
@[simp] theorem Station.report_pumpRun : (st.report k on).ctu.pumpRun = st.ctu.pumpRun := by
  obtain ⟨t, q, b, h⟩ := st.report_shape k on; rw [h]
@[simp] theorem Station.report_drive : (st.report k on).ctu.drive = st.ctu.drive := by
  obtain ⟨t, q, b, h⟩ := st.report_shape k on; rw [h]
@[simp] theorem Station.report_input (i : Input) : (st.report k on).ctu.input i = st.ctu.input i :=
  (keeps_report st k on).inputs i
@[simp] theorem Station.report_settled (i : Input) : (st.report k on).settled i = st.settled i :=
  (keeps_report st k on).settled i
@[simp] theorem Station.report_uptime : (st.report k on).uptime = st.uptime := (keeps_report st k on).uptime

/-- A report hands over one ALARM_CHANGE record, or none. -/
theorem Station.report_rpq : (st.report k on).rpq = st.rpq ∨ ∃ s, (st.report k on).rpq = st.rpq.create (.alarmChange k s) := by
  unfold Station.report
  split
  · exact .inl rfl
  · exact .inr ⟨_, rfl⟩

@[simp] theorem Station.report_summary : (st.report k on).rpq.summary = st.rpq.summary := by
  obtain h | ⟨s, h⟩ := st.report_rpq k on <;> simp [h, ReportQueue.create]

@[simp] theorem Station.report_stationTime : (st.report k on).rpq.stationTime = st.rpq.stationTime := by
  obtain h | ⟨s, h⟩ := st.report_rpq k on <;> simp [h, ReportQueue.create]

end

/-! ### Sticky flags -/

@[simp] theorem Station.judgeArith_lve (st : Station) : st.judgeArith.lve = st.lve := by simp [Station.judgeArith]

@[simp] theorem Station.raiseFlags_lve (st : Station) (f : FlagSet) :
    (st.raiseFlags f).lve = { st.lve with arith := { st.lve.arith with flags := st.lve.arith.flags.or f } } := by
  simp [Station.raiseFlags]

/-- The two arithmetic points hold the conditions that the sticky flags and masks give (R12). -/
def Station.arithJudged (st : Station) : Prop :=
  st.alt.points[Alarm.curveRange].condition = st.lve.arith.curveRange ∧
  st.alt.points[Alarm.arithSaturated].condition = st.lve.arith.arithSaturated

theorem Station.judgeArith_judged (st : Station) : st.judgeArith.arithJudged := by
  refine ⟨?_, ?_⟩
  · rw [Station.judgeArith, Station.report_others _ _ (by decide), Station.report_condition]; simp
  · rw [Station.judgeArith, Station.report_condition]; simp

theorem Station.raiseFlags_judged (st : Station) (f : FlagSet) : (st.raiseFlags f).arithJudged := Station.judgeArith_judged _

/-- Judging the flags moves the two arithmetic points alone. -/
theorem Station.judgeArith_others (st : Station) {k : PointNo} (hc : k ≠ Alarm.curveRange) (hs : k ≠ Alarm.arithSaturated) :
    st.judgeArith.alt.points[k] = st.alt.points[k] := by
  rw [Station.judgeArith, Station.report_others _ _ hs, Station.report_others _ _ hc]

theorem Station.raiseFlags_others (st : Station) (f : FlagSet) {k : PointNo} (hc : k ≠ Alarm.curveRange)
    (hs : k ≠ Alarm.arithSaturated) : (st.raiseFlags f).alt.points[k] = st.alt.points[k] :=
  Station.judgeArith_others _ hc hs

/-- Judging the flags moves the alarm table, the report queue and the BEACON output alone. -/
theorem Station.judgeArith_shape (st : Station) : ∃ t q b, st.judgeArith =
    { st with alt := t, rpq := q, ctu := { st.ctu with beacon := b } } := by
  obtain ⟨t, q, b, h⟩ := st.report_shape Alarm.curveRange st.lve.arith.curveRange
  obtain ⟨t', q', b', h'⟩ := Station.report_shape (st.report Alarm.curveRange st.lve.arith.curveRange) Alarm.arithSaturated
    st.lve.arith.arithSaturated
  exact ⟨t', q', b', by rw [Station.judgeArith, h', h]⟩

/-- Raising flags moves the flags, the alarm table, the report queue and the BEACON output alone. -/
theorem Station.raiseFlags_shape (st : Station) (f : FlagSet) : ∃ t q b, st.raiseFlags f =
    { st with
      lve := { st.lve with arith := { st.lve.arith with flags := st.lve.arith.flags.or f } }
      alt := t, rpq := q, ctu := { st.ctu with beacon := b } } :=
  Station.judgeArith_shape _

/-! ### Records added -/

/-- The report queue `b` is `a` with records added to it, none of them a STATION record. -/
def RecordsAdded (a b : ReportQueue) : Prop :=
  ∃ later : List RecordBody, (∀ r ∈ later, ∀ k, r ≠ .station k) ∧ b = later.foldl ReportQueue.create a

namespace RecordsAdded

theorem refl (a : ReportQueue) : RecordsAdded a a := ⟨[], by simp, rfl⟩

theorem create (a : ReportQueue) {r : RecordBody} (hr : ∀ k, r ≠ .station k) : RecordsAdded a (a.create r) :=
  ⟨[r], by simpa using hr, rfl⟩

theorem trans {a b c : ReportQueue} (h : RecordsAdded a b) (h' : RecordsAdded b c) : RecordsAdded a c := by
  obtain ⟨l, hl, rfl⟩ := h
  obtain ⟨m, hm, rfl⟩ := h'
  refine ⟨l ++ m, fun r hr => ?_, by rw [List.foldl_append]⟩
  exact (List.mem_append.mp hr).elim (hl r) (hm r)

end RecordsAdded

theorem Station.report_recordsAdded (st : Station) (k : PointNo) (on : Bool) : RecordsAdded st.rpq (st.report k on).rpq := by
  obtain h | ⟨s, h⟩ := st.report_rpq k on
  · rw [h]; exact .refl _
  · rw [h]; exact .create _ (by simp)

/-! ### What a run of control moves keeps -/

namespace ControlRun

variable {a b : Station} (h : ControlRun a b)

include h

theorem keepsOuter : KeepsOuter a b := by
  induction h with
  | refl => exact .refl _
  | tail _ m ih =>
    refine ih.trans ?_
    cases m with
    | stc c => exact keeps_stc _ _
    | pumps ps => exact .of_fields rfl rfl rfl rfl rfl rfl rfl rfl rfl rfl rfl rfl
    | rake r => exact keeps_rkc _ _
    | outputs v d => constructor <;> first | rfl | (intro i; cases i <;> rfl)
    | rotation l m marked => exact keeps_dty _ _
    | report k on owned => exact keeps_report _ _ _

theorem recordsAdded : RecordsAdded a.rpq b.rpq := by
  induction h with
  | refl => exact .refl _
  | tail _ m ih =>
    refine ih.trans ?_
    cases m with
    | report k on owned => exact Station.report_recordsAdded _ _ _
    | stc c => exact .refl _
    | pumps ps => exact .refl _
    | rake r => exact .refl _
    | outputs v d => exact .refl _
    | rotation l m marked => exact .refl _

/-- The points of the other owners stay. -/
theorem points {k : PointNo} (hk : ¬controlPoint k) : b.alt.points[k] = a.alt.points[k] := by
  induction h with
  | refl => rfl
  | tail _ m ih =>
    rw [← ih]
    cases m with
    | report j on owned => exact Station.report_others _ _ fun e => hk (e ▸ owned)
    | stc c => rfl
    | pumps ps => rfl
    | rake r => rfl
    | outputs v d => rfl
    | rotation l m marked => rfl

/-- The Duty Controller keeps all but its rotation list and its alternation mark. -/
theorem duty : ∃ l m, b.dty = { a.dty with rotation := l, altMark := m } := by
  induction h with
  | refl => exact ⟨_, _, rfl⟩
  | tail _ m ih =>
    obtain ⟨l, mark, ih⟩ := ih
    cases m with
    | report k on owned => exact ⟨l, mark, by simpa using ih⟩
    | stc c => exact ⟨l, mark, ih⟩
    | pumps ps => exact ⟨l, mark, ih⟩
    | rake r => exact ⟨l, mark, ih⟩
    | outputs v d => exact ⟨l, mark, ih⟩
    | rotation l' m' marked => exact ⟨l', m', by dsimp only; rw [ih]⟩

/-- With the alternation mark clear the Duty Controller stays as it is. -/
theorem duty_unmarked (hm : a.dty.altMark = false) : b.dty = a.dty := by
  induction h with
  | refl => rfl
  | tail _ m ih =>
    cases m with
    | report k on owned => simpa using ih
    | stc c => exact ih
    | pumps ps => exact ih
    | rake r => exact ih
    | outputs v d => exact ih
    | rotation l' m' marked => rw [ih, hm] at marked; cases marked

end ControlRun

/-! ### Runs of the readers and of the daily close -/

/-- One elementary change at a reader of a level update, at the clock or at a daily close. -/
inductive ReaderMove (a : Station) : Station → Prop
  | control {b : Station} (m : ControlMove a b) : ReaderMove a b
  | duty (d : Duty) : ReaderMove a { a with dty := d }
  | overflow (o : Overflow) : ReaderMove a { a with ofm := o }
  | overflowPoint (on : Bool) : ReaderMove a (a.report Alarm.overflow on)
  | saturate : ReaderMove a (a.raiseFlags .saturatedOnly)
  | record (r : RecordBody) : ReaderMove a (a.record r)
  | summary (s : Summary) : ReaderMove a (a.setSummary s)
  | time (now next : Nat) (unset : Bool) : ReaderMove a { a with
      rpq := { a.rpq with stationTime := now, nextSecond := next, clockNotSet := unset } }
  | trigger (t : Nat) : ReaderMove a (a.triggerTrace t)
  | trace (u : LevelUpdate) : ReaderMove a (a.traceUpdate u)
  | store : ReaderMove a a.storeTrigger

/-- A run of such changes. -/
abbrev ReaderRun : Station → Station → Prop := Relation.ReflTransGen ReaderMove

namespace ReaderRun

theorem of_control {a b : Station} (h : ControlRun a b) : ReaderRun a b := by
  induction h with
  | refl => exact .refl
  | tail _ m ih => exact ih.tail (.control m)

variable {a st : Station} (h : ReaderRun a st)

include h

theorem run {t : Station} (hc : ControlRun st t) : ReaderRun a t := Relation.ReflTransGen.trans h (of_control hc)

theorem ofm (o : Overflow) : ReaderRun a { st with ofm := o } := h.tail (.overflow o)

theorem record (r : RecordBody) : ReaderRun a (st.record r) := h.tail (.record r)

theorem setSummary (s : Summary) : ReaderRun a (st.setSummary s) := h.tail (.summary s)

/-- A demand evaluation (R67). -/
theorem evaluate (u : LevelUpdate) : ReaderRun a (st.evaluate u) := by
  have hp : ReaderRun a st.pruneAll.judgeStartLimited := h.run ((ControlRun.refl _).pruneAll.judgeStartLimited)
  have hd (d : Duty) : ReaderRun a { st.pruneAll.judgeStartLimited with dty := d } := hp.tail (.duty d)
  unfold Station.evaluate
  exact (hd _).run (((ControlRun.refl _).sends _ _).testPumpDown.settleStc)

theorem floatEvaluation : ReaderRun a st.floatEvaluation := by
  unfold Station.floatEvaluation
  split
  · exact h
  · split
    · exact h.evaluate _
    · exact h

theorem accrueOverflow (litres seconds events : Nat) : ReaderRun a (st.accrueOverflow litres seconds events) := by
  unfold Station.accrueOverflow
  dsimp only
  split
  · exact (h.setSummary _).tail .saturate
  · exact h.setSummary _

theorem openEvent (u : LevelUpdate) (head : Nat) : ReaderRun a (st.openEvent u head) :=
  (((((h.ofm _).record _).accrueOverflow _ _ _).tail (.trigger _)).tail .store).tail (.overflowPoint _)

theorem closeEvent (e : EventRec) (time : Nat) (why : CloseReason) : ReaderRun a (st.closeEvent e time why) :=
  ((h.ofm _).record _).tail (.overflowPoint _)

theorem eventUpdate (u : LevelUpdate) (e : EventRec) : ReaderRun a (st.eventUpdate u e) := by
  unfold Station.eventUpdate
  split
  · have raised (o : Overflow) : ReaderRun a (({ st with ofm := o } : Station).raiseFlags .saturatedOnly) :=
      (h.ofm o).tail .saturate
    dsimp only
    split <;> split
    · exact ((raised _).accrueOverflow _ _ _).closeEvent _ _ _
    · exact (raised _).accrueOverflow _ _ _
    · exact ((h.ofm _).accrueOverflow _ _ _).closeEvent _ _ _
    · exact (h.ofm _).accrueOverflow _ _ _
  · exact h.ofm _

theorem overflowUpdate (u : LevelUpdate) : ReaderRun a (st.overflowUpdate u) := by
  have ho (o : Overflow) : ReaderRun a { st with ofm := o } := h.ofm o
  unfold Station.overflowUpdate
  dsimp only
  split
  · exact (ho _).eventUpdate _ _
  · exact (ho _).eventUpdate _ _
  · exact ho _
  · exact ho _
  all_goals
    split
    · split
      · exact ((ho _).ofm _).openEvent _ _
      · exact (ho _).ofm _
    · exact ho _

/-- A reader takes a level update (R24). -/
theorem react (u : LevelUpdate) (r : Reader) : ReaderRun a (st.react u r) := by
  cases r with
  | duty => exact h.evaluate u
  | rake => exact h.run ((ControlRun.refl _).rakeUpdate u)
  | overflow => exact h.overflowUpdate u
  | trace => exact h.tail (.trace u)
  | reports => exact h.setSummary _

theorem reacts (u : LevelUpdate) (order : List Reader) : ReaderRun a (order.foldl (Station.react u) st) := by
  induction order generalizing st with
  | nil => exact h
  | cons r order ih => exact ih (h.react u r)

theorem softResetOverflow : ReaderRun a st.softResetOverflow := by
  unfold Station.softResetOverflow
  split
  · exact (h.closeEvent _ _ _).tail (.overflowPoint _)
  · exact (h.closeEvent _ _ _).tail (.overflowPoint _)
  · exact (h.ofm _).tail (.overflowPoint _)

/-- A daily close (R166). -/
theorem dailyClose : ReaderRun a st.dailyClose := by
  have zeroed {t : Station} (ht : ReaderRun a t) (d : RecordBody) (ps : Vector PumpRec 6) (r : Rake) :
      ReaderRun a (Station.record { t with pumps := ps, rkc := r } d) :=
    Relation.ReflTransGen.tail ((ht.tail (.control (.pumps ps))).tail (.control (.rake r))) (.record d)
  unfold Station.dailyClose
  dsimp only
  split
  · exact zeroed ((h.setSummary _).tail .saturate) _ _ _
  · exact zeroed (h.setSummary _) _ _ _

theorem rollover : ReaderRun a st.rollover := (h.dailyClose.setSummary _).tail .store

theorem accrueSecond : ReaderRun a st.accrueSecond := (h.run (ControlRun.refl _).runSecond).setSummary _

/-- The advance of station time by a second (R164, R167). -/
theorem advanceSecond (rolloverFirst : Bool) : ReaderRun a (st.advanceSecond rolloverFirst) := by
  have ht (now next : Nat) : ReaderRun a { st with rpq := { st.rpq with stationTime := now, nextSecond := next } } :=
    h.tail (.time now next st.rpq.clockNotSet)
  unfold Station.advanceSecond
  dsimp only
  split
  · split
    · exact (ht _ _).rollover.accrueSecond
    · exact (ht _ _).accrueSecond.rollover
  · exact (ht _ _).accrueSecond

end ReaderRun

/-! ### What a run of reader moves keeps -/

/-- The engine with the sticky flag SATURATED at `top`. -/
def LevelEngine.withSaturated (l : LevelEngine) (top : Bool) : LevelEngine :=
  { l with arith := { l.arith with flags := { l.arith.flags with saturated := top } } }

theorem LevelEngine.withSaturated_twice (l : LevelEngine) (x y : Bool) :
    (l.withSaturated x).withSaturated y = l.withSaturated y := rfl

theorem FlagSet.or_saturatedOnly (f : FlagSet) : f.or .saturatedOnly = { f with saturated := true } := by
  simp [FlagSet.or, FlagSet.saturatedOnly, FlagSet.clear]

theorem Station.raiseSaturated_lve (st : Station) : (st.raiseFlags .saturatedOnly).lve = st.lve.withSaturated true := by
  rw [Station.raiseFlags_lve, FlagSet.or_saturatedOnly]; rfl

theorem Station.triggerTrace_shape (st : Station) (t : Nat) : ∃ r, st.triggerTrace t = { st with trb := r } := by
  unfold Station.triggerTrace
  split
  · exact ⟨_, rfl⟩
  · exact ⟨st.trb, rfl⟩

theorem Station.traceUpdate_shape (st : Station) (u : LevelUpdate) : ∃ r, st.traceUpdate u = { st with trb := r } := by
  unfold Station.traceUpdate
  split
  · exact ⟨st.trb, rfl⟩
  · split <;> exact ⟨_, rfl⟩

/-- A store write trigger keeps the image's items. -/
theorem Station.storeTrigger_shape (st : Station) :
    ∃ x, st.storeTrigger = { st with sst := x } ∧ x.image.items = st.sst.image.items := by
  unfold Station.storeTrigger
  split
  · exact ⟨_, rfl, rfl⟩
  · exact ⟨_, rfl, rfl⟩

/-- The alarm points that neither a reader nor the sticky flags report. -/
def levelPoint (k : PointNo) : Prop :=
  ¬controlPoint k ∧ k ≠ Alarm.overflow ∧ k ≠ Alarm.curveRange ∧ k ≠ Alarm.arithSaturated

/-- What the readers of a level update leave as it was: time, the curves, the ports, the constants, the items of the store image,
the inputs, the alarm points of the level conditions, and the Level Engine but for SATURATED, which they may set. -/
structure KeepsLevels (a b : Station) : Prop where
  held : b.held = a.held
  clock : b.clock = a.clock
  crv : b.crv = a.crv
  portA : b.portA = a.portA
  portB : b.portB = a.portB
  consts : b.consts = a.consts
  items : b.sst.image.items = a.sst.image.items
  inputs : ∀ i, b.ctu.input i = a.ctu.input i
  points : ∀ k, levelPoint k → b.alt.points[k] = a.alt.points[k]
  judged : a.arithJudged → b.arithJudged
  lve : ∃ top, b.lve = a.lve.withSaturated top ∧ (a.lve.arith.flags.saturated = true → top = true)

namespace KeepsLevels

theorem trans {a b c : Station} (h : KeepsLevels a b) (k : KeepsLevels b c) : KeepsLevels a c where
  held := k.held.trans h.held
  clock := k.clock.trans h.clock
  crv := k.crv.trans h.crv
  portA := k.portA.trans h.portA
  portB := k.portB.trans h.portB
  consts := k.consts.trans h.consts
  items := k.items.trans h.items
  inputs := fun i => (k.inputs i).trans (h.inputs i)
  points := fun j hj => (k.points j hj).trans (h.points j hj)
  judged := fun hj => k.judged (h.judged hj)
  lve := by
    obtain ⟨x, hx, sx⟩ := h.lve
    obtain ⟨y, hy, sy⟩ := k.lve
    exact ⟨y, by rw [hy, hx, LevelEngine.withSaturated_twice], fun hs => sy (by rw [hx]; exact sx hs)⟩

/-- An update that moves none of them. -/
theorem of_same {a b : Station} (h : b.held = a.held) (c : b.clock = a.clock) (v : b.crv = a.crv) (pa : b.portA = a.portA)
    (pb : b.portB = a.portB) (k : b.consts = a.consts) (s : b.sst.image.items = a.sst.image.items)
    (i : ∀ i, b.ctu.input i = a.ctu.input i) (l : b.lve = a.lve)
    (p : ∀ k, ¬controlPoint k → k ≠ Alarm.overflow → b.alt.points[k] = a.alt.points[k]) : KeepsLevels a b where
  held := h
  clock := c
  crv := v
  portA := pa
  portB := pb
  consts := k
  items := s
  inputs := i
  points := fun k hk => p k hk.1 hk.2.1
  judged := by
    rintro ⟨hc, hs⟩
    refine ⟨?_, ?_⟩
    · rw [p _ (by unfold controlPoint; decide) (by decide), hc, l]
    · rw [p _ (by unfold controlPoint; decide) (by decide), hs, l]
  lve := ⟨a.lve.arith.flags.saturated, l, id⟩

theorem refl (a : Station) : KeepsLevels a a :=
  of_same rfl rfl rfl rfl rfl rfl rfl (fun _ => rfl) rfl fun _ _ _ => rfl

/-- A run of control moves keeps them. -/
theorem of_control {a b : Station} (h : ControlRun a b) : KeepsLevels a b :=
  have k := h.keepsOuter
  of_same k.held k.clock k.crv k.portA k.portB k.consts (by rw [k.sst]) k.inputs k.lve fun _ hk _ => h.points hk

end KeepsLevels

theorem ReaderMove.keepsLevels {a b : Station} (m : ReaderMove a b) : KeepsLevels a b := by
  have same (t : Station) (s : t.sst = a.sst) (h : t.alt = a.alt) (i : t.ctu = a.ctu) (hh : t.held = a.held) (c : t.clock = a.clock)
      (v : t.crv = a.crv) (pa : t.portA = a.portA) (pb : t.portB = a.portB) (k : t.consts = a.consts) (l : t.lve = a.lve) :
      KeepsLevels a t := .of_same hh c v pa pb k (by rw [s]) (by simp [i]) l (by simp [h])
  cases m with
  | control m => exact .of_control (.single m)
  | duty d => exact same _ rfl rfl rfl rfl rfl rfl rfl rfl rfl rfl
  | overflow o => exact same _ rfl rfl rfl rfl rfl rfl rfl rfl rfl rfl
  | record r => exact same _ rfl rfl rfl rfl rfl rfl rfl rfl rfl rfl
  | summary s => exact same _ rfl rfl rfl rfl rfl rfl rfl rfl rfl rfl
  | time now next unset => exact same _ rfl rfl rfl rfl rfl rfl rfl rfl rfl rfl
  | trigger t =>
    obtain ⟨r, hr⟩ := a.triggerTrace_shape t
    rw [hr]; exact same _ rfl rfl rfl rfl rfl rfl rfl rfl rfl rfl
  | trace u =>
    obtain ⟨r, hr⟩ := a.traceUpdate_shape u
    rw [hr]; exact same _ rfl rfl rfl rfl rfl rfl rfl rfl rfl rfl
  | store =>
    obtain ⟨x, hx, hi⟩ := a.storeTrigger_shape
    rw [hx]; exact .of_same rfl rfl rfl rfl rfl rfl hi (fun _ => rfl) rfl fun _ _ _ => rfl
  | overflowPoint on =>
    exact .of_same (by simp) (by simp) (by simp) (by simp) (by simp) (by simp) (by simp) (by simp) (by simp)
      fun k _ hk => Station.report_others _ _ hk
  | saturate =>
    have hl := a.raiseSaturated_lve
    obtain ⟨t, q, b, h⟩ := a.raiseFlags_shape .saturatedOnly
    refine ⟨by rw [h], by rw [h], by rw [h], by rw [h], by rw [h], by rw [h], by rw [h], fun i => ?_, fun k hk => ?_,
      fun _ => a.raiseFlags_judged _, ⟨true, hl, fun _ => rfl⟩⟩
    · rw [h]; cases i <;> rfl
    · exact a.raiseFlags_others _ hk.2.2.1 hk.2.2.2

theorem ReaderRun.keepsLevels {a b : Station} (h : ReaderRun a b) : KeepsLevels a b := by
  induction h with
  | refl => exact .refl _
  | tail _ m ih => exact ih.trans m.keepsLevels

end Sys2Proof.Machine
end

section
/-! PROOFS. Rounding and the arithmetic of the levels (sections 1.2 to 1.6). -/

namespace Sys2Proof.Machine

/-! ### Rounding -/

/-- The size of a rounded quotient: what `roundDiv` makes of the size of its numerator. -/
def roundSize (mode : RoundMode) (a den : Nat) : Nat :=
  match mode with
  | .towardZero => a / den
  | .nearestAway => (2 * a + den) / (2 * den)
  | .nearestEven =>
    if 2 * (a % den) < den then a / den else if den < 2 * (a % den) then a / den + 1
    else if a / den % 2 = 0 then a / den else a / den + 1

/-- Rounding is symmetric about zero. -/
theorem roundDiv_eq (mode : RoundMode) (num : Int) (den : Nat) :
    roundDiv mode num den = num.sign * (roundSize mode num.natAbs den : Int) := by
  cases mode <;> rfl

theorem roundSize_zero (mode : RoundMode) {den : Nat} (hd : 0 < den) : roundSize mode 0 den = 0 := by
  have half : den / (2 * den) = 0 := Nat.div_eq_of_lt (by omega)
  cases mode <;> simp [roundSize, half, hd]

/-- The nearest modes stay within half of the quotient, and a tie goes away from zero or to the even integer. -/
theorem roundSize_away {a den : Nat} (hd : 0 < den) :
    2 * (roundSize .nearestAway a den * den) ≤ 2 * a + den ∧ 2 * a < 2 * (roundSize .nearestAway a den * den) + den := by
  have hlo := Nat.div_mul_le_self (2 * a + den) (2 * den)
  have hhi := Nat.lt_div_mul_add (a := 2 * a + den) (b := 2 * den) (by omega)
  rw [Nat.mul_left_comm] at hlo hhi
  exact ⟨hlo, by simp only [roundSize]; omega⟩

theorem roundSize_even {a den : Nat} (hd : 0 < den) :
    2 * (roundSize .nearestEven a den * den) ≤ 2 * a + den ∧ 2 * a ≤ 2 * (roundSize .nearestEven a den * den) + den ∧
    ((2 * (roundSize .nearestEven a den * den) = 2 * a + den ∨ 2 * a = 2 * (roundSize .nearestEven a den * den) + den) →
      roundSize .nearestEven a den % 2 = 0) := by
  have hq := Nat.div_add_mod' a den
  have hr := Nat.mod_lt a hd
  have hs : (a / den + 1) * den = a / den * den + den := Nat.succ_mul _ _
  simp only [roundSize]
  split
  · omega
  · split
    · rw [hs]; omega
    · split
      · omega
      · rw [hs]; omega

theorem roundSize_le (mode : RoundMode) {a den m : Nat} (hd : 0 < den) (h : a ≤ m * den) : roundSize mode a den ≤ m := by
  cases mode with
  | towardZero => exact Nat.div_le_of_le_mul (by rwa [Nat.mul_comm])
  | nearestAway =>
    refine Nat.le_of_lt_add_one ((Nat.div_lt_iff_lt_mul (by omega)).mpr ?_)
    have : (m + 1) * (2 * den) = 2 * (m * den) + 2 * den := by ring
    omega
  | nearestEven =>
    have hq := Nat.div_add_mod' a den
    have hle : a / den ≤ m := Nat.div_le_of_le_mul (by rwa [Nat.mul_comm])
    obtain heq | hlt := hle.eq_or_lt
    · have : a % den = 0 := by rw [heq] at hq; omega
      simp [roundSize, this, hd, hle]
    · simp only [roundSize]
      split
      · exact hle
      · split
        · exact hlt
        · split <;> omega

theorem le_roundSize (mode : RoundMode) {a den m : Nat} (hd : 0 < den) (h : m * den ≤ a) : m ≤ roundSize mode a den := by
  have hq : m ≤ a / den := (Nat.le_div_iff_mul_le hd).mpr h
  cases mode with
  | towardZero => exact hq
  | nearestAway =>
    refine (Nat.le_div_iff_mul_le (by omega)).mpr ?_
    have : m * (2 * den) = 2 * (m * den) := by ring
    omega
  | nearestEven =>
    simp only [roundSize]
    split
    · exact hq
    · split
      · omega
      · split <;> omega

/-- A rounded quotient does not pass an integer that the quotient does not pass. -/
theorem roundDiv_le (mode : RoundMode) {num m : Int} {den : Nat} (hd : 0 < den) (h : num ≤ m * den) :
    roundDiv mode num den ≤ m := by
  have hd' : (0 : Int) < den := by exact_mod_cast hd
  rw [roundDiv_eq]
  obtain hn | hp := lt_or_ge num 0
  · rw [Int.sign_eq_neg_one_of_neg hn]
    obtain ⟨k, rfl | rfl⟩ := m.eq_nat_or_neg
    · omega
    · have := le_roundSize mode (a := num.natAbs) (m := k) hd (by zify; rw [abs_of_neg hn]; linarith)
      omega
  · have hm : 0 ≤ m := by
      by_contra hm
      nlinarith
    lift m to Nat using hm
    have := roundSize_le mode (a := num.natAbs) (m := m) hd (by zify; rwa [abs_of_nonneg hp])
    obtain rfl | hp := hp.eq_or_lt
    · simp
    · rw [Int.sign_eq_one_of_pos hp]; omega

theorem roundDiv_neg (mode : RoundMode) (num : Int) (den : Nat) : roundDiv mode (-num) den = -roundDiv mode num den := by
  simp [roundDiv_eq]

theorem le_roundDiv (mode : RoundMode) {num m : Int} {den : Nat} (hd : 0 < den) (h : m * den ≤ num) :
    m ≤ roundDiv mode num den := by
  have := roundDiv_le mode (num := -num) (m := -m) hd (by linarith)
  rw [roundDiv_neg] at this
  omega

theorem roundDiv_mul (mode : RoundMode) (q : Int) {den : Nat} (hd : 0 < den) : roundDiv mode (q * den) den = q :=
  le_antisymm (roundDiv_le mode hd le_rfl) (le_roundDiv mode hd le_rfl)

theorem roundDiv_nonneg (mode : RoundMode) {num : Int} {den : Nat} (hd : 0 < den) (h : 0 ≤ num) :
    0 ≤ roundDiv mode num den := le_roundDiv mode hd (by simpa using h)

/-- How far a rounded quotient lies from the quotient, as sizes. -/
theorem roundDiv_error (mode : RoundMode) (num : Int) {den : Nat} (hd : 0 < den) :
    (2 * (roundDiv mode num den * den - num)).natAbs =
      (2 * ((roundSize mode num.natAbs den * den : Nat) : Int) - 2 * num.natAbs).natAbs ∧
    (roundDiv mode num den * den).natAbs = roundSize mode num.natAbs den * den := by
  rw [roundDiv_eq]
  obtain hn | rfl | hp := lt_trichotomy num 0
  · rw [Int.sign_eq_neg_one_of_neg hn]
    refine ⟨?_, by simp [Int.natAbs_mul]⟩
    rw [← Int.natAbs_neg]
    congr 1
    rw [show (num.natAbs : Int) = -num by omega]
    push_cast
    ring
  · simp [roundSize_zero mode hd]
  · rw [Int.sign_eq_one_of_pos hp]
    refine ⟨?_, by simp [Int.natAbs_mul]⟩
    congr 1
    rw [show (num.natAbs : Int) = num by omega]
    push_cast
    ring

theorem roundDiv_towardZero (num : Int) (den : Nat) : roundDiv .towardZero num den = num.tdiv den := by
  obtain ⟨n, rfl | rfl⟩ := num.eq_nat_or_neg
  · obtain rfl | hn := Nat.eq_zero_or_pos n
    · simp [roundDiv]
    · simp [roundDiv, Int.sign_natCast_of_ne_zero hn.ne']
  · obtain rfl | hn := Nat.eq_zero_or_pos n
    · simp [roundDiv]
    · simp [roundDiv, Int.sign_natCast_of_ne_zero hn.ne', Int.neg_tdiv]

/-- Settles O22: the two nearest modes by their sizes (`roundSize_away`, `roundSize_even`), an integer quotient by the two bounds. -/
theorem roundingFollowsTheMode : Obligations.RoundingFollowsTheMode := by
  intro num den hd
  have away := roundDiv_error .nearestAway num hd
  have even := roundDiv_error .nearestEven num hd
  obtain ⟨alo, ahi⟩ := roundSize_away (a := num.natAbs) hd
  obtain ⟨elo, ehi, tie⟩ := roundSize_even (a := num.natAbs) hd
  refine ⟨roundDiv_towardZero num den, ?_, fun h => ?_, ?_, fun h => ?_, fun mode q => roundDiv_mul mode q hd⟩
  · rw [away.1]; omega
  · rw [away.2]; rw [away.1] at h; omega
  · rw [even.1]; omega
  · rw [even.1] at h
    have hm := tie (by omega)
    rw [roundDiv_eq]
    exact Dvd.dvd.mul_left (by omega) _

end Sys2Proof.Machine
end

section
/-! PROOFS. Samples, the filter, the channel through a cycle, the well vote, the level conditions, the inflow (Chapter 1). -/

namespace Sys2Proof.Machine

/-! ### Samples and the filter -/

/-- The filter's difference, rounded, lies between 0 and the difference. -/
theorem roundDiv_within (mode : RoundMode) (d : Int) {den : Nat} (hd : 0 < den) :
    min 0 d ≤ roundDiv mode d den ∧ roundDiv mode d den ≤ max 0 d := by
  have hd' : (1 : Int) ≤ den := by exact_mod_cast hd
  obtain h | h := le_total 0 d
  · rw [min_eq_left h, max_eq_right h]
    exact ⟨roundDiv_nonneg mode hd h, roundDiv_le mode hd (by nlinarith)⟩
  · rw [min_eq_right h, max_eq_left h]
    exact ⟨le_roundDiv mode hd (by nlinarith), roundDiv_le mode hd (by simpa using h)⟩

theorem filterStep_eq (mode : RoundMode) (k f v : Nat) :
    (filterStep mode k f v : Int) = f + roundDiv mode ((v : Int) - f) (2 ^ k) := by
  have := (roundDiv_within mode ((v : Int) - f) (den := 2 ^ k) (by positivity)).1
  exact Int.toNat_of_nonneg (by omega)

theorem filterStep_between (mode : RoundMode) (k f v : Nat) :
    min f v ≤ filterStep mode k f v ∧ filterStep mode k f v ≤ max f v := by
  have h := roundDiv_within mode ((v : Int) - f) (den := 2 ^ k) (by positivity)
  have := filterStep_eq mode k f v
  omega

theorem filterStep_zero (mode : RoundMode) (f v : Nat) : filterStep mode 0 f v = v := by
  have h := filterStep_eq mode 0 f v
  have := roundDiv_mul mode ((v : Int) - f) Nat.one_pos
  rw [Nat.cast_one, mul_one] at this
  rw [Nat.pow_zero, this] at h
  omega

theorem scale_eq (c : ChanSettings) (mode : RoundMode) (r : Nat) :
    (c.scale mode r : Int) = c.offset * 16 + roundDiv mode (((clampedCount r - 800) * c.span : Nat) : Int) 200 := by
  unfold ChanSettings.scale
  rw [Nat.cast_add, Int.toNat_of_nonneg (roundDiv_nonneg mode (by decide) (Int.natCast_nonneg _))]
  rfl

/-- Settings in the ranges of Table 1-2. -/
theorem checks_iff (c : ChanSettings) :
    c.checks.all id = true ↔ (100 ≤ c.span ∧ c.span ≤ 20000) ∧ c.offset ≤ 10000 ∧ c.shift ≤ 5 := by
  simp [ChanSettings.checks, within]

theorem scale_le {c : ChanSettings} (hc : c.checks.all id = true) (mode : RoundMode) (r : Nat) : c.scale mode r ≤ 480000 := by
  obtain ⟨⟨-, hs⟩, ho, -⟩ := (checks_iff c).mp hc
  have hr : clampedCount r - 800 ≤ 3200 := by unfold clampedCount; omega
  have hm := Nat.mul_le_mul hr hs
  have := roundDiv_le mode (num := (((clampedCount r - 800) * c.span : Nat) : Int)) (m := 320000) (den := 200) (by decide)
    (by push_cast; exact_mod_cast hm)
  have := scale_eq c mode r
  omega

/-- Settles O23. -/
theorem samplesAreScaledAndFiltered : Obligations.SamplesAreScaledAndFiltered := by
  refine ⟨fun c mode r hc hlo hhi => ?_, fun mode k f v =>
    ⟨filterStep_eq mode k f v, (filterStep_between mode k f v).1, (filterStep_between mode k f v).2, filterStep_zero mode f v⟩⟩
  refine ⟨?_, scale_le hc mode r⟩
  have hrc : clampedCount r = if r < 800 then 800 else if 4000 < r then 4000 else r := by
    unfold clampedCount; split_ifs <;> omega
  have hge : 800 ≤ clampedCount r := by unfold clampedCount; omega
  rw [scale_eq, ← hrc, Nat.cast_mul, Nat.cast_sub hge]
  rfl

/-! ### Channels -/

theorem levelOf_eq (mode : RoundMode) (f : Nat) : (levelOf mode f : Int) = roundDiv mode (f : Int) 16 :=
  Int.toNat_of_nonneg (roundDiv_nonneg mode (by decide) (Int.natCast_nonneg f))

theorem levelOf_le (mode : RoundMode) {f : Nat} (h : f ≤ 480000) : levelOf mode f ≤ 30000 := by
  have := roundDiv_le mode (num := (f : Int)) (m := 30000) (den := 16) (by decide) (by omega)
  have := levelOf_eq mode f
  omega

theorem valid_ofCount (r : Nat) : (SampleClass.ofCount r).valid = decide (720 ≤ r ∧ r ≤ 4080) := by
  unfold SampleClass.ofCount
  split_ifs <;> simp [SampleClass.valid] <;> omega

theorem Channel.cycle_valid (c : Channel) (mode : RoundMode) {count : BitVec 12} (h : 720 ≤ count.toNat ∧ count.toNat ≤ 4080) :
    c.cycle mode count =
      let d := ({ c with sample := .ofCount count.toNat, raw := count } : Channel).onValid mode
        (c.settings.scale mode count.toNat)
      { d with level := levelOf mode d.filter } := by
  unfold Channel.cycle
  simp [valid_ofCount, h]

theorem Channel.cycle_invalid (c : Channel) (mode : RoundMode) {count : BitVec 12} (h : count.toNat < 720 ∨ 4080 < count.toNat) :
    c.cycle mode count =
      let d := ({ c with sample := .ofCount count.toNat, raw := count } : Channel).onInvalid
      { d with level := levelOf mode d.filter } := by
  have hv : ¬(720 ≤ count.toNat ∧ count.toNat ≤ 4080) := by omega
  unfold Channel.cycle
  simp [valid_ofCount, hv]

/-- Neither column of Table 1-4 moves settings or sample. -/
theorem Channel.onValid_keeps (c : Channel) (mode : RoundMode) (v : Nat) :
    (c.onValid mode v).settings = c.settings ∧ (c.onValid mode v).sample = c.sample ∧ (c.onValid mode v).raw = c.raw := by
  unfold Channel.onValid
  split
  · exact ⟨rfl, rfl, rfl⟩
  · exact ⟨rfl, rfl, rfl⟩
  · exact ⟨rfl, rfl, rfl⟩
  · split <;> exact ⟨rfl, rfl, rfl⟩

theorem Channel.onInvalid_keeps (c : Channel) :
    c.onInvalid.settings = c.settings ∧ c.onInvalid.sample = c.sample ∧ c.onInvalid.raw = c.raw ∧
    c.onInvalid.filter = c.filter := by
  unfold Channel.onInvalid
  split
  · exact ⟨rfl, rfl, rfl, rfl⟩
  · split <;> exact ⟨rfl, rfl, rfl, rfl⟩
  · exact ⟨rfl, rfl, rfl, rfl⟩
  · exact ⟨rfl, rfl, rfl, rfl⟩

/-- What every cycle does of a channel, whatever the sample. -/
theorem Channel.cycle_keeps (c : Channel) (mode : RoundMode) (count : BitVec 12) :
    (c.cycle mode count).settings = c.settings ∧ (c.cycle mode count).sample = .ofCount count.toNat ∧
    (c.cycle mode count).raw = count ∧ (c.cycle mode count).level = levelOf mode (c.cycle mode count).filter := by
  by_cases h : 720 ≤ count.toNat ∧ count.toNat ≤ 4080
  · rw [Channel.cycle_valid c mode h]
    obtain ⟨hs, hc, hr⟩ := Channel.onValid_keeps { c with sample := .ofCount count.toNat, raw := count } mode
      (c.settings.scale mode count.toNat)
    exact ⟨hs, hc, hr, rfl⟩
  · rw [Channel.cycle_invalid c mode (by omega)]
    obtain ⟨hs, hc, hr, -⟩ := Channel.onInvalid_keeps { c with sample := .ofCount count.toNat, raw := count }
    exact ⟨hs, hc, hr, rfl⟩

/-- Settles O24: the two columns of Table 1-4, row by row. -/
theorem channelCycleFollowsItsTables : Obligations.ChannelCycleFollowsItsTables := by
  intro c mode count
  obtain ⟨hs, hc, hr, hl⟩ := c.cycle_keeps mode count
  refine ⟨hs, hr, by rw [hl]; exact levelOf_eq mode _, hc, fun h => ?_, fun h => ?_⟩
  · rw [c.cycle_valid mode h]
    refine ⟨fun hst => ?_, fun hst => ?_, fun hst => ?_, fun hst => ?_⟩
    · simp [Channel.onValid, Channel.filtered, hst]
    · simp [Channel.onValid, Channel.filtered, hst]
    · simp [Channel.onValid, hst]
    · by_cases hg : 3 ≤ c.goodRun + 1 <;> simp [Channel.onValid, Channel.filtered, hst, hg]
  · rw [c.cycle_invalid mode h]
    refine ⟨(Channel.onInvalid_keeps _).2.2.2, fun hst => ?_, fun hst => ?_, fun hst => ?_, fun hst => ?_⟩
    · simp [Channel.onInvalid, hst]
    · by_cases hb : 3 ≤ c.badRun + 1 <;> simp [Channel.onInvalid, Channel.fail, hst, hb]
    · simp [Channel.onInvalid, hst]
    · simp [Channel.onInvalid, Channel.fail, hst]

/-! ### The well vote and the level conditions -/

/-- The rounded mean of two levels lies between them. -/
theorem mean_between (mode : RoundMode) (a b : Nat) :
    min a b ≤ (roundDiv mode ((a : Int) + b) 2).toNat ∧ (roundDiv mode ((a : Int) + b) 2).toNat ≤ max a b := by
  have hlo := le_roundDiv mode (num := (a : Int) + b) (m := (min a b : Nat)) (den := 2) (by decide) (by omega)
  have hhi := roundDiv_le mode (num := (a : Int) + b) (m := (max a b : Nat)) (den := 2) (by decide) (by omega)
  omega

/-- Settles O25. -/
theorem voteAndLevelConditions : Obligations.VoteAndLevelConditions := by
  refine ⟨fun mode limit a b => ⟨fun h => ⟨?_, mean_between mode a b⟩, fun h => ?_, rfl, rfl, rfl⟩, fun st w => ?_⟩
  · simp [wellVote, h]
  · simp [wellVote, Nat.not_le.mpr h]
  · simp only [Station.levelConditions, highFromLevel, lowFromLevel]
    refine ⟨fun h => ?_, fun h => ?_, fun h h' => ?_, fun h => ?_, fun h => ?_, fun h h' => ?_, trivial⟩
    · rw [if_pos h]
    · rw [if_neg (by omega), if_pos h]
    · rw [if_neg (by omega), if_neg (by omega)]
    · rw [if_pos h]
    · rw [if_neg (by omega), if_pos h]
    · rw [if_neg (by omega), if_neg (by omega)]

/-! ### Inflow -/

/-- Q_in over a window whose records all carry V: the oldest gives the difference, the others the flow. -/
theorem inflowSum_window {mode : RoundMode} {n v q : Nat} {ring : List CycleRec} {oldest : CycleRec} {rest : List CycleRec}
    (hw : ring.drop (ring.length - n) = oldest :: rest) :
    inflowSum mode n (some v) q ring =
      if n ≤ ring.length ∧ (oldest :: rest).all (fun r => r.v.isSome) = true then
        some (roundDiv mode ((v : Int) - (oldest.v.getD 0 : Nat)) n +
          roundDiv mode ((q + (rest.map (·.qOut)).sum : Nat) : Int) n)
      else none := by
  unfold inflowSum
  rw [hw]

theorem inflowSum_empty {mode : RoundMode} {n v q : Nat} {ring : List CycleRec} (hw : ring.drop (ring.length - n) = []) :
    inflowSum mode n (some v) q ring = none := by
  unfold inflowSum
  rw [hw]

/-- Without a whole window of records that carry V, Q_in is absent. -/
theorem inflowSum_none {mode : RoundMode} {n v q : Nat} {ring : List CycleRec}
    (h : ring.length < n ∨ ∃ r ∈ ring.drop (ring.length - n), r.v = none) : inflowSum mode n (some v) q ring = none := by
  cases hw : ring.drop (ring.length - n) with
  | nil => exact inflowSum_empty hw
  | cons oldest rest =>
    rw [inflowSum_window hw, if_neg]
    rintro ⟨hn, hall⟩
    obtain h | ⟨r, hr, hv⟩ := h
    · omega
    · rw [hw] at hr
      have := List.all_eq_true.mp hall r hr
      rw [hv] at this
      cases this

theorem inflowValue_eq (s : Int) : (inflowValue s : Int) = max 0 (min 65535 s) := by
  unfold inflowValue Config.top16
  omega

/-- Settles O26. -/
theorem inflowIsFormedOverTheWindow : Obligations.InflowIsFormedOverTheWindow := by
  intro mode n v q ring hn
  refine ⟨rfl, fun h => inflowSum_none (.inl h), fun _ h => inflowSum_none (.inr h), fun past hp hw => ?_⟩
  obtain ⟨⟨v₀, q₀⟩, past, rfl⟩ := List.exists_cons_of_length_pos (l := past) (by omega)
  have hlen : n ≤ ring.length := by
    have := congrArg List.length hw
    simp only [List.length_drop, List.length_map, hp] at this
    omega
  refine ⟨_, (inflowSum_window hw).trans (if_pos ⟨hlen, by simp⟩), ?_, inflowValue_eq _, rfl, rfl⟩
  simp [Function.comp_def]

end Sys2Proof.Machine
end

section
/-! PROOFS. What keeps the report queue, the trace, the port units and the channels within their bounds. -/

namespace Sys2Proof.Machine

/-- From `a` to `b` each of the three bounds is kept: of the report queue, of trace and ports, of the Level Engine. -/
structure KeepsBounds (a b : Station) : Prop where
  reports : a.reportsSafe → b.reportsSafe
  ports : a.portsSafe → b.portsSafe
  levels : a.levelSafe → b.levelSafe

namespace KeepsBounds

theorem refl (a : Station) : KeepsBounds a a := ⟨id, id, id⟩

theorem trans {a b c : Station} (h : KeepsBounds a b) (k : KeepsBounds b c) : KeepsBounds a c :=
  ⟨k.reports ∘ h.reports, k.ports ∘ h.ports, k.levels ∘ h.levels⟩

theorem after {a b c : Station} (k : KeepsBounds b c) (h : KeepsBounds a b) : KeepsBounds a c := h.trans k

/-! Updates of records that have no bound. -/

theorem withDty (a : Station) (d : Duty) : KeepsBounds a { a with dty := d } := ⟨id, id, id⟩

theorem withConsts (a : Station) (c : Constants) : KeepsBounds a { a with consts := c } := ⟨id, id, id⟩

theorem setRotation (a : Station) (l : List PumpNo) : KeepsBounds a (a.setRotation l) := ⟨id, id, id⟩

theorem judgeBeacon (a : Station) : KeepsBounds a a.judgeBeacon := ⟨id, id, id⟩

theorem redriveBeacon (a : Station) : KeepsBounds a a.redriveBeacon := ⟨id, id, id⟩

theorem publish (a : Station) (u : LevelUpdate) : KeepsBounds a (a.publish u) := ⟨id, id, id⟩

theorem setSelector (a : Station) (n : PumpNo) (s : Selector) : KeepsBounds a (a.setSelector n s) := ⟨id, id, id⟩

theorem setInput (a : Station) (i : Input) (r : InputRec) : KeepsBounds a (a.setInput i r) := ⟨id, id, id⟩

end KeepsBounds

/-! ### The report queue -/

/-- A record created leaves the queue and the numbers within their bounds (R169 to R171). -/
theorem ReportQueue.create_bounded {q : ReportQueue} (r : RecordBody) (h : q.queue.length ≤ 64 ∧ q.nextSeq < 65536) :
    (q.create r).queue.length ≤ 64 ∧ (q.create r).nextSeq < 65536 :=
  ⟨addRecord_length _ h.1, Nat.mod_lt _ (by decide)⟩

theorem RecordsAdded.bounded {a b : ReportQueue} (h : RecordsAdded a b) (ha : a.queue.length ≤ 64 ∧ a.nextSeq < 65536) :
    b.queue.length ≤ 64 ∧ b.nextSeq < 65536 := by
  obtain ⟨later, -, rfl⟩ := h
  induction later generalizing a with
  | nil => exact ha
  | cons r later ih => exact ih (a.create_bounded r ha)

/-! ### The trace -/

theorem pushEntry_length {entries : List TraceEntry} (e : TraceEntry) (h : entries.length ≤ 256) :
    (pushEntry entries e).length ≤ 256 := by
  unfold pushEntry Config.traceCap
  split <;> simp <;> omega

/-- The count after a trigger goes down to the freeze (R148). -/
theorem Trace.countDown_safe {t : Trace} (u : LevelUpdate) (h : t.safe) : (t.countDown u).safe := by
  unfold Trace.countDown
  split
  next hc =>
    obtain ⟨hlen, hpost, htrig, hlive⟩ := h
    have hup : t.triggerUptime ≠ none := by rw [ne_eq, ← hlive, hc.1]; decide
    refine ⟨hlen, by dsimp only; omega, ?_, ?_⟩
    · dsimp only
      split <;> simp <;> omega
    · dsimp only
      split <;> simp [hup]
  · exact h

theorem Trace.powerUp_safe : Trace.powerUp.safe := by simp [Trace.safe, Trace.powerUp]

theorem traceUpdate_keepsBounds (st : Station) (u : LevelUpdate) : KeepsBounds st (st.traceUpdate u) := by
  unfold Station.traceUpdate
  split
  · exact .refl _
  · split
    · exact ⟨id, id, id⟩
    · refine ⟨id, fun ⟨ht, hp⟩ => ⟨?_, hp⟩, id⟩
      exact Trace.countDown_safe u ⟨pushEntry_length _ ht.1, ht.2⟩

theorem triggerTrace_keepsBounds (st : Station) (t : Nat) : KeepsBounds st (st.triggerTrace t) := by
  unfold Station.triggerTrace
  split
  · exact ⟨id, fun ⟨ht, hp⟩ => ⟨⟨ht.1, by simp⟩, hp⟩, id⟩
  · exact .refl _

/-! ### Runs -/

theorem report_keepsBounds (st : Station) (k : PointNo) (on : Bool) : KeepsBounds st (st.report k on) := by
  refine ⟨(st.report_recordsAdded k on).bounded, fun h => ?_, fun h => ?_⟩
  · unfold Station.portsSafe at h ⊢; simpa using h
  · unfold Station.levelSafe at h ⊢; simpa using h

theorem judgeArith_keepsBounds (st : Station) : KeepsBounds st st.judgeArith :=
  (report_keepsBounds _ _ _).trans (report_keepsBounds _ _ _)

/-- Sticky flags are no part of what is bounded. -/
theorem raiseFlags_keepsBounds (st : Station) (f : FlagSet) : KeepsBounds st (st.raiseFlags f) :=
  (judgeArith_keepsBounds _).after ⟨id, id, id⟩

theorem record_keepsBounds (st : Station) (r : RecordBody) : KeepsBounds st (st.record r) :=
  ⟨st.rpq.create_bounded r, id, id⟩

theorem storeTrigger_keepsBounds (st : Station) : KeepsBounds st st.storeTrigger := by
  obtain ⟨x, hx, -⟩ := st.storeTrigger_shape
  rw [hx]; exact ⟨id, id, id⟩

theorem ControlRun.keepsBounds {a b : Station} (h : ControlRun a b) : KeepsBounds a b := by
  have k := h.keepsOuter
  refine ⟨h.recordsAdded.bounded, fun hp => ?_, fun hl => ?_⟩
  · unfold Station.portsSafe; rwa [k.trb, k.portA, k.portB]
  · unfold Station.levelSafe; rwa [k.lve]

/-- A PRU's handling with its reports and the STC's event. -/
theorem pumpEvent_keepsBounds {st : Station} {n : PumpNo} {f : Station → Station} (h : ControlRun st (f st)) :
    KeepsBounds st (st.pumpEvent n f) := (ControlRun.pumpEvent h).keepsBounds

theorem ReaderRun.keepsBounds {a b : Station} (h : ReaderRun a b) : KeepsBounds a b := by
  induction h with
  | refl => exact .refl _
  | tail _ m ih =>
    refine ih.trans ?_
    cases m with
    | control m => exact ControlRun.keepsBounds (.single m)
    | overflowPoint on => exact report_keepsBounds _ _ _
    | saturate => exact raiseFlags_keepsBounds _ _
    | record r => exact record_keepsBounds _ r
    | trigger t => exact triggerTrace_keepsBounds _ t
    | trace u => exact traceUpdate_keepsBounds _ u
    | store => exact storeTrigger_keepsBounds _
    | duty d => exact ⟨id, id, id⟩
    | overflow o => exact ⟨id, id, id⟩
    | summary s => exact ⟨id, id, id⟩
    | time now next unset => exact ⟨id, id, id⟩

/-! ### The Level Engine -/

/-- A cycle keeps a channel within its ranges (R4 to R6). -/
theorem Channel.cycle_safe {c : Channel} (mode : RoundMode) (count : BitVec 12) (h : c.safe) : (c.cycle mode count).safe := by
  obtain ⟨hset, hfilter, hlevel, hbad, hgood⟩ := h
  have hv := scale_le hset mode count.toNat
  have hran := (filterStep_between mode c.settings.shift c.filter (c.settings.scale mode count.toNat)).2
  have done {d : Channel} (hs : d.settings = c.settings) (hf : d.filter ≤ 480000) (hb : d.badRun ≤ 2) (hg : d.goodRun ≤ 2) :
      ({ d with level := levelOf mode d.filter } : Channel).safe := ⟨by rw [hs]; exact hset, hf, levelOf_le mode hf, hb, hg⟩
  by_cases hc : 720 ≤ count.toNat ∧ count.toNat ≤ 4080
  · rw [c.cycle_valid mode hc]
    refine done (Channel.onValid_keeps _ _ _).1 ?_ ?_ ?_ <;> unfold Channel.onValid Channel.filtered
    all_goals
      split
      · dsimp only; omega
      · dsimp only; omega
      · dsimp only; omega
      · split <;> dsimp only at * <;> omega
  · rw [c.cycle_invalid mode (by omega)]
    refine done (Channel.onInvalid_keeps _).1 ?_ ?_ ?_
    · rw [(Channel.onInvalid_keeps _).2.2.2]; exact hfilter
    all_goals
      unfold Channel.onInvalid Channel.fail
      split
      · dsimp only; omega
      · split <;> dsimp only at * <;> omega
      · dsimp only; omega
      · dsimp only; omega

theorem sampleStage_keepsBounds (st : Station) (a b i w : BitVec 12) : KeepsBounds st (st.sampleStage a b i w) := by
  have cycled : KeepsBounds st { st with lve := { st.lve with
      wellA := st.lve.wellA.cycle st.lve.arith.mode a, wellB := st.lve.wellB.cycle st.lve.arith.mode b
      inlet := st.lve.inlet.cycle st.lve.arith.mode i, weir := st.lve.weir.cycle st.lve.arith.mode w } } :=
    ⟨id, id, fun ⟨ha, hb, hi, hw, rest⟩ =>
      ⟨Channel.cycle_safe _ a ha, Channel.cycle_safe _ b hb, Channel.cycle_safe _ i hi, Channel.cycle_safe _ w hw, rest⟩⟩
  unfold Station.sampleStage
  dsimp only
  split
  · exact cycled.trans (raiseFlags_keepsBounds _ _)
  · exact cycled

theorem emptyRing_keepsBounds (st : Station) : KeepsBounds st st.emptyRing :=
  ⟨id, id, fun ⟨ha, hb, hi, hw, hd, _⟩ => ⟨ha, hb, hi, hw, hd, by simp⟩⟩

theorem voteStage_keepsBounds (st : Station) (v : Vote) : KeepsBounds st (st.voteStage v) := by
  have run (t : Station) : KeepsBounds t { t with lve := { t.lve with
      disagreeRun := if v.disagreeing then min 30 (t.lve.disagreeRun + 1) else 0 } } :=
    ⟨id, id, fun ⟨ha, hb, hi, hw, _, hr⟩ => ⟨ha, hb, hi, hw, by dsimp only; split <;> omega, hr⟩⟩
  unfold Station.voteStage
  dsimp only
  split
  · exact (emptyRing_keepsBounds _).trans (run _)
  · exact run _

theorem readActive_keepsBounds (st : Station) (c : CurveCopy) (x : Option Nat) : KeepsBounds st (st.readActive c x).2 := by
  unfold Station.readActive
  split
  · exact .refl _
  · dsimp only
    split
    · exact raiseFlags_keepsBounds _ _
    · exact .refl _

theorem pushCycle_length {ring : List CycleRec} (r : CycleRec) (h : ring.length ≤ 16) : (pushCycle ring r).length ≤ 16 := by
  unfold pushCycle Config.ringCap
  split <;> simp <;> omega

theorem inflowStage_keepsBounds (st : Station) (v : Option Nat) : KeepsBounds st (st.inflowStage v).2 := by
  have pushed (t : Station) (r : CycleRec) : KeepsBounds t { t with lve := { t.lve with ring := pushCycle t.lve.ring r } } :=
    ⟨id, id, fun ⟨ha, hb, hi, hw, hd, hr⟩ => ⟨ha, hb, hi, hw, hd, pushCycle_length r hr⟩⟩
  unfold Station.inflowStage
  dsimp only
  split
  · exact pushed _ _
  · split
    · exact (raiseFlags_keepsBounds _ _).trans (pushed _ _)
    · exact pushed _ _

theorem alarmStage_keepsBounds (st : Station) (v : Vote) : KeepsBounds st (st.alarmStage v) := by
  have r := report_keepsBounds
  have rest (t : Station) (a b c d e f g : Bool) : KeepsBounds t
      (((((((t.report Alarm.lowLevel a).report Alarm.levelDisagree b).report Alarm.wellAFailed c).report Alarm.wellBFailed
        d).report Alarm.sourceFloat e).report Alarm.inletFailed f).report Alarm.weirFailed g).judgeArith :=
    (((((((r _ _ _).trans (r _ _ _)).trans (r _ _ _)).trans (r _ _ _)).trans (r _ _ _)).trans (r _ _ _)).trans (r _ _ _)).trans
      (judgeArith_keepsBounds _)
  have levels : KeepsBounds st (({ st with lve := { st.lve with
      highLevel := (st.levelConditions v.w).1, lowLevel := (st.levelConditions v.w).2 } } : Station).report Alarm.highLevel
        (st.levelConditions v.w).1) := (r _ _ _).after ⟨id, id, id⟩
  unfold Station.alarmStage
  dsimp only
  split
  · exact (levels.trans (r _ _ _)).trans (rest _ _ _ _ _ _ _ _)
  · exact levels.trans (rest _ _ _ _ _ _ _ _)

/-! ### Ports -/

/-- A port unit replaced by one that is as R178 and R150 keep it. -/
theorem setPort_keepsBounds (st : Station) {q : Port} (p : PortId) (hq : (st.port p).safe → q.safe) :
    KeepsBounds st (st.setPort q p) := by
  cases p with
  | a => exact ⟨id, fun ⟨ht, ha, hb⟩ => ⟨ht, hq ha, hb⟩, id⟩
  | b => exact ⟨id, fun ⟨ht, ha, hb⟩ => ⟨ht, ha, hq hb⟩, id⟩

/-- A reply as an owner forms one: never NONE, and PENDING with the request that waits. -/
def Reply.sound (r : Reply) : Prop := r.status ≠ .none ∧ (r.status = .pending ↔ r.awaits ≠ none)

theorem Reply.final_sound {s : ReplyStatus} (d : List Byte) (h : s.final = true) : (Reply.final s d).sound := by
  cases s <;> simp_all [Reply.sound, Reply.final, ReplyStatus.final]

theorem Reply.done_sound (d : List Byte) : (Reply.done d).sound := final_sound d rfl

theorem Reply.range_sound : Reply.range.sound := final_sound [] rfl

theorem Reply.state_sound : Reply.state.sound := final_sound [] rfl

theorem putReply_keepsBounds (st : Station) (p : PortId) (code : Byte) {r : Reply} (hr : r.sound) :
    KeepsBounds st (st.putReply p code r) :=
  setPort_keepsBounds st p fun h => ⟨hr.2, fun _ => rfl, fun hn => absurd hn hr.1, h.2.2.2⟩

theorem rise_keepsBounds (st : Station) (p : PortId) (k : Nat) : KeepsBounds st (st.rise p k) := by
  refine setPort_keepsBounds st p fun h => ?_
  unfold Port.rise
  split
  · exact h
  · exact ⟨h.1, fun hp => by simp [h.2.1 hp], h.2.2⟩

theorem setNotTaken_keepsBounds (st : Station) (p : PortId) (b : Bool) : KeepsBounds st (st.setNotTaken p b) :=
  setPort_keepsBounds st p id

/-- A finalisation leaves a final reply, unread, with no request waiting (R178). -/
theorem finalise_keepsBounds (st : Station) (p : PortId) (req : PendingRequest) {status : ReplyStatus} (data : List Byte)
    (hs : status.final = true) : KeepsBounds st (st.finalise p req status data) := by
  obtain ⟨-, -, h⟩ | ⟨-, h⟩ := st.finalise_cases p req status data
  · rw [h]
    refine setPort_keepsBounds st p fun hp => ?_
    cases status <;> simp_all [Port.safe, ReplyStatus.final]
  · rw [h]; exact .refl _

/-- An intake keeps the bounds when its owner does, and forms sound replies. -/
theorem intake_keepsBounds (st : Station) (p : PortId) (k : Kind) {owner : List Byte → Station → Reply × Station}
    (rest : List Byte) (ho : ∀ ps t, (owner ps t).1.sound ∧ KeepsBounds t (owner ps t).2) :
    KeepsBounds st (st.intake p k owner rest) := by
  have rise := rise_keepsBounds st p (1 + rest.length)
  have put {r : Reply} (hr : r.sound) := rise.trans (putReply_keepsBounds _ p k.code hr)
  unfold Station.intake Station.live
  split
  · exact .refl _
  · dsimp only
    split
    · exact rise.trans (setNotTaken_keepsBounds _ _ _)
    · unfold Station.judge
      split
      · exact put (Reply.final_sound _ rfl)
      · split
        · exact put (Reply.final_sound _ rfl)
        · split
          · exact put (Reply.final_sound _ rfl)
          · exact (rise.trans (ho _ _).2).trans (putReply_keepsBounds _ _ _ (ho _ _).1)

/-! ### Timed events -/

theorem live_keepsBounds (st : Station) {f : Station → Station} (hf : KeepsBounds st (f st)) : KeepsBounds st (st.live f) := by
  unfold Station.live
  split
  · exact .refl _
  · exact hf

theorem atStep_keepsBounds (st : Station) (due : Option Nat) {f : Station → Station} (hf : ∀ t, KeepsBounds t (f t)) :
    KeepsBounds st (st.atStep due f) := by
  unfold Station.atStep
  split
  · exact .refl _
  · split
    · exact .refl _
    · next h =>
      obtain ⟨c, rfl⟩ := st.reach_clock h
      exact (hf _).after ⟨id, id, id⟩

end Sys2Proof.Machine
end

section
/-! PROOFS. Every request, event and reset keeps the bounds. -/

namespace Sys2Proof.Machine

/-! ### Owners of the requests -/

/-- What an owner does with a request keeps the bounds, and its reply is sound. -/
def Station.served (t : Station) (r : Reply × Station) : Prop := r.1.sound ∧ KeepsBounds t r.2

namespace Station.served

variable {t st : Station}

theorem done (d : List Byte) (h : KeepsBounds t st) : t.served (.done d, st) := ⟨Reply.done_sound d, h⟩

theorem refused {s : ReplyStatus} (d : List Byte) (h : s.final = true) : t.served (.final s d, t) :=
  ⟨Reply.final_sound d h, .refl t⟩

theorem range : t.served (.range, t) := refused [] rfl

theorem state : t.served (.state, t) := refused [] rfl

theorem reading {r : Reply} (h : r.sound) : t.served (r, t) := ⟨h, .refl t⟩

/-- What follows a request carried out keeps the bounds too. -/
theorem carriedOut {r : Reply × Station} {after : Station → Station} (hr : r.1.sound) (h : KeepsBounds t (after r.2))
    (hst : KeepsBounds t st) : t.served (carriedOut st r after) := by
  unfold Machine.carriedOut
  split
  · exact ⟨hr, h⟩
  · exact ⟨hr, hst⟩

end Station.served

theorem readStatus_sound (st : Station) (k : Nat) : (st.readStatus k).sound := by
  unfold Station.readStatus
  split <;> first | exact Reply.done_sound _ | exact Reply.range_sound

theorem readSettings_sound (st : Station) (k : Nat) : (st.readSettings k).sound := by
  unfold Station.readSettings
  split <;> first | exact Reply.done_sound _ | exact Reply.range_sound

theorem readAlarms_sound (st : Station) (p : PortId) (j k : Nat) : (st.readAlarms p j k).sound := by
  unfold Station.readAlarms
  split
  · exact Reply.range_sound
  · exact Reply.done_sound _

theorem readCurve_sound (st : Station) (a b c d e f : Nat) : (st.readCurve a b c d e f).sound := by
  unfold Station.readCurve
  split
  · exact Reply.range_sound
  · split
    · exact Reply.range_sound
    · exact Reply.done_sound _

theorem peekReport_sound (st : Station) (k : Nat) : (st.peekReport k).sound := by
  unfold Station.peekReport
  split
  · exact Reply.final_sound _ rfl
  · exact Reply.done_sound _

theorem readPump_served (st : Station) (k : Nat) : st.served (st.readPump k) := by
  unfold Station.readPump
  split
  · exact .range
  · exact .done _ (((ControlRun.refl _).prune _).judgeStartLimited).keepsBounds

/-- The next pointer stays within the window that the walk goes round (R151). -/
theorem traceWalk_between {s e : Nat} (k : Nat) {i : Nat} (hs : s ≤ i) (he : i ≤ e) :
    s ≤ (traceWalk s e k i).2.1 ∧ (traceWalk s e k i).2.1 ≤ e := by
  induction k generalizing i with
  | zero => exact ⟨hs, he⟩
  | succ k ih =>
    unfold traceWalk
    dsimp only
    split
    · exact ih (by omega) (by omega)
    · exact ih le_rfl (by omega)

theorem readTrace_served (st : Station) (p : PortId) (form n : Nat) : st.served (st.readTrace p form n) := by
  unfold Station.readTrace
  by_cases hr : 1 < form ∨ n < 1 ∨ (if form = 0 then 12 else 8) < n
  · rw [if_pos hr]
    exact .range
  · rw [if_neg hr]
    refine .done _ (setPort_keepsBounds st p fun ⟨h1, h2, h3, hs, he, htop⟩ => ?_)
    obtain ⟨hs', he'⟩ := traceWalk_between n hs he
    exact ⟨h1, h2, h3, hs', he', htop⟩

theorem setTraceWindow_served (st : Station) (p : PortId) (s e : Nat) : st.served (st.setTraceWindow p s e) := by
  unfold Station.setTraceWindow
  split
  · exact .range
  next h =>
    exact .done _ (setPort_keepsBounds st p fun ⟨h1, h2, h3, _⟩ => ⟨h1, h2, h3, le_rfl, by dsimp only; omega, by dsimp only; omega⟩)

theorem movePoint_keepsBounds (st : Station) (k : PointNo) (p : PointRec) : KeepsBounds st (st.movePoint k p) :=
  ⟨fun h => st.rpq.create_bounded _ h, id, id⟩

theorem ackPoint_keepsBounds (st : Station) (k : PointNo) : KeepsBounds st (st.ackPoint k) := by
  unfold Station.ackPoint
  dsimp only
  split
  · exact .refl _
  · exact movePoint_keepsBounds _ _ _

theorem ackPoints_keepsBounds (l : List PointNo) (st : Station) : KeepsBounds st (Station.ackPoints l st).2 := by
  induction l generalizing st with
  | nil => exact .refl _
  | cons k l ih => exact (ackPoint_keepsBounds st k).trans (ih _)

theorem ackAlarm_served (st : Station) (l : List Nat) : st.served (st.ackAlarm l) := by
  unfold Station.ackAlarm
  split
  · exact .range
  · exact .done _ (ackPoints_keepsBounds _ _)

theorem clearAttention_served (st : Station) (p : PortId) (l : List Nat) : st.served (st.clearAttention p l) := by
  unfold Station.clearAttention
  split
  · exact .range
  · exact .done _ ⟨id, id, id⟩

theorem releaseTrace_served (st : Station) : st.served st.releaseTrace := by
  unfold Station.releaseTrace
  split
  · exact .done _ ⟨id, fun h => ⟨Trace.powerUp_safe, h.2⟩, id⟩
  · exact .state

theorem setSetpoints_served (st : Station) (t : Setpoints) : st.served (st.setSetpoints t) := by
  unfold Station.setSetpoints
  split
  · exact .refused _ rfl
  · exact .done _ ⟨id, id, id⟩

/-- A request at a PRU: its run, the reports and the STC's event. -/
theorem atPump_served (st : Station) (k : Nat) {f : Station → PumpNo → Reply × Station}
    (hr : ∀ n, (f st n).1.sound) (hf : ∀ n, ControlRun st (f st n).2) : st.served (st.atPump k f) := by
  unfold Station.atPump
  split
  · exact .range
  · exact .carriedOut (hr _) (((hf _).reportPump _).settleStc).keepsBounds (.refl _)

theorem inhibitPump_sound (st : Station) (n : PumpNo) : (st.inhibitPump n).1.sound := by
  unfold Station.inhibitPump
  split <;> first | exact Reply.done_sound _ | exact Reply.state_sound

theorem releasePump_sound (st : Station) (n : PumpNo) : (st.releasePump n).1.sound := by
  unfold Station.releasePump
  split
  · exact Reply.done_sound _
  all_goals first | exact Reply.state_sound | split
  all_goals first | exact Reply.done_sound _ | exact Reply.state_sound

theorem resetPumpFault_sound (st : Station) (n : PumpNo) : (st.resetPumpFault n).1.sound := by
  unfold Station.resetPumpFault
  split
  · exact Reply.state_sound
  · exact Reply.done_sound _

theorem resetRake_sound (st : Station) : st.resetRake.1.sound := by
  unfold Station.resetRake
  split
  · exact Reply.state_sound
  · dsimp only
    split <;> exact Reply.done_sound _

theorem channel_safe {st : Station} (h : st.levelSafe) (name : ChanName) : (st.lve.channel name).safe := by
  cases name with
  | wellA => exact h.1
  | wellB => exact h.2.1
  | inlet => exact h.2.2.1
  | weir => exact h.2.2.2.1

theorem setChannel_keepsBounds (st : Station) {c : Channel} (name : ChanName) (hc : (st.lve.channel name).safe → c.safe) :
    KeepsBounds st { st with lve := st.lve.setChannel c name } := by
  refine ⟨id, id, fun h => ?_⟩
  replace hc := hc (channel_safe h name)
  obtain ⟨ha, hb, hi, hw, rest⟩ := h
  cases name with
  | wellA => exact ⟨hc, hb, hi, hw, rest⟩
  | wellB => exact ⟨ha, hc, hi, hw, rest⟩
  | inlet => exact ⟨ha, hb, hc, hw, rest⟩
  | weir => exact ⟨ha, hb, hi, hc, rest⟩

theorem writeChannel_served (st : Station) (code : Nat) (c : ChanSettings) : st.served (st.writeChannel code c) := by
  unfold Station.writeChannel
  split
  · exact .range
  next name _ =>
    split
    next hc => exact .done _ (setChannel_keepsBounds st name fun h => ⟨hc, h.2⟩)
    · exact .range

theorem uninstall_keepsBounds (st : Station) (n : PumpNo) (c : PumpSettings) : KeepsBounds st (st.uninstall n c) := by
  have enter (p : PumpRec) := ((((ControlRun.refl st).clearDemand n).setPump n p).enter n .uninstalled).keepsBounds
  exact ((enter _).trans (.setRotation _ _)).trans (.withDty _ _)

theorem install_keepsBounds (st : Station) (n : PumpNo) (c : PumpSettings) : KeepsBounds st (st.install n c) := by
  have rotated (l : List PumpNo) (p : PumpRec) : KeepsBounds st ((st.setPump n p).setRotation l) := ⟨id, id, id⟩
  unfold Station.install
  dsimp only
  split
  · exact (rotated _ _).trans ((ControlRun.refl _).enterAuto n).keepsBounds
  · exact (rotated _ _).trans ((ControlRun.refl _).enter n _).keepsBounds
  · exact (rotated _ _).trans ((ControlRun.refl _).enter n _).keepsBounds

theorem writePumpRecord_served (st : Station) (n : PumpNo) (fields : List Nat) : st.served (st.writePumpRecord n fields) := by
  have applied {t : Station} (h : KeepsBounds st t) : KeepsBounds st (t.applyMaxStarts n).ring :=
    h.trans (((ControlRun.refl t).applyMaxStarts n).ring).keepsBounds
  unfold Station.writePumpRecord
  split
  · exact .refused _ rfl
  · dsimp only
    split
    · split
      case' h_5 | h_6 | h_7 | h_8 | h_9 | h_10 | h_11 => exact .state
      all_goals exact .done _ (applied (uninstall_keepsBounds _ _ _))
    · split
      · split
        · exact .refused _ rfl
        · exact .done _ (applied (install_keepsBounds _ _ _))
      · exact .done _ (applied ⟨id, id, id⟩)

theorem writePump_served (st : Station) (k : Nat) (fields : List Nat) : st.served (st.writePump k fields) := by
  unfold Station.writePump
  split
  · exact .refused _ rfl
  next n _ =>
    have pruned := ((ControlRun.refl st).prune n)
    obtain ⟨hr, hw⟩ := writePumpRecord_served (st.prune n) n fields
    exact .carriedOut hr
      ((pruned.keepsBounds.trans hw).trans (((ControlRun.refl _).reportPump n).settleStc).keepsBounds)
      pruned.judgeStartLimited.keepsBounds

theorem writeRotation_served (st : Station) (mode : Nat) (l : List Nat) : st.served (st.writeRotation mode l) := by
  unfold Station.writeRotation
  split
  · split
    · exact .done _ (((ControlRun.refl _).settleStc).keepsBounds.after ⟨id, id, id⟩)
    · exact .range
  · exact .range

theorem ControlRun.stcConstants {a st : Station} (h : ControlRun a st) (old : Constants) : ControlRun a (st.stcConstants old) := by
  have limited : ControlRun a (if st.consts.utilityLimit = old.utilityLimit ∧ st.consts.genLimit = old.genLimit then st
      else st.formLimit) := by
    split
    · exact h
    · exact h.formLimit
  have spaced {t : Station} (ht : ControlRun a t) : ControlRun a
      (if t.consts.startSpacing = old.startSpacing then t else t.armSpacing) := by
    split
    · exact ht
    · exact ht.armSpacing
  have rung {t : Station} (ht : ControlRun a t) : ControlRun a
      (if t.consts.stcPart = old.stcPart then t else t.ring).settleStc := by
    split
    · exact ht.settleStc
    · exact ht.ring.settleStc
  exact rung (spaced limited)

theorem ControlRun.rakeConstants {a st : Station} (h : ControlRun a st) (old : Constants) : ControlRun a (st.rakeConstants old) := by
  unfold Station.rakeConstants
  split
  · exact h
  · exact h.rearmInterval.settleStc

theorem writeConstants_served (st : Station) (c : Constants) : st.served (st.writeConstants c) := by
  unfold Station.writeConstants
  split
  · exact .refused _ rfl
  · have taken (t : Station) := (((ControlRun.refl t).stcConstants st.consts).rakeConstants st.consts).keepsBounds
    exact .done _ (((KeepsBounds.withConsts st c).trans (taken _)).trans (.judgeBeacon _))

theorem copyCurve_served (st : Station) (code : Nat) : st.served (st.copyCurve code) := by
  unfold Station.copyCurve
  split
  · exact .range
  · dsimp only
    split
    · exact .refused _ rfl
    · exact .done _ ⟨id, id, id⟩

theorem writeCurvePoints_served (st : Station) (code s : Nat) (l : List Point) : st.served (st.writeCurvePoints code s l) := by
  unfold Station.writeCurvePoints
  split
  · exact .range
  · dsimp only
    split
    · exact .range
    · split
      · exact .refused _ rfl
      · exact .done _ ⟨id, id, id⟩

theorem setCurveCount_served (st : Station) (code n : Nat) : st.served (st.setCurveCount code n) := by
  unfold Station.setCurveCount
  split
  · exact .range
  · dsimp only
    split
    · exact .range
    · split
      · exact .refused _ rfl
      · exact .done _ ⟨id, id, id⟩

theorem commitCurve_served (st : Station) (p : PortId) (code : Nat) : st.served (st.commitCurve p code) := by
  unfold Station.commitCurve
  split
  · exact .range
  · dsimp only
    split
    · exact .refused _ rfl
    · split
      · exact .refused _ rfl
      · exact ⟨by simp [Reply.sound], ⟨id, id, id⟩⟩

theorem setArithControl_served (st : Station) (mode : Nat) (m c : FlagSet) : st.served (st.setArithControl mode m c) := by
  unfold Station.setArithControl
  split
  · exact .range
  · exact .done _ ((judgeArith_keepsBounds _).after ⟨id, id, id⟩)

theorem saveSettings_keepsBounds (st : Station) (p : PortId) : KeepsBounds st (st.saveSettings p) :=
  (storeTrigger_keepsBounds st).trans ⟨id, id, id⟩

theorem takeReport_served (st : Station) (seq : Nat) : st.served (st.takeReport seq) := by
  unfold Station.takeReport
  split
  · exact .state
  next hq =>
    split
    · refine .done _ ⟨fun h => ⟨?_, h.2⟩, id, id⟩
      have := h.1
      rw [hq, List.length_cons] at this
      exact Nat.le_of_succ_le this
    · exact .refused _ rfl

theorem clockNotice_keepsBounds (st : Station) : KeepsBounds st st.clockNotice := by
  unfold Station.clockNotice
  split
  · exact ⟨id, id, id⟩
  · exact ⟨id, id, id⟩
  · exact .refl _

theorem setClock_served (st : Station) (t : Nat) : st.served (st.setClock t) := by
  have closed : ReaderRun st (st.setSummary { st.rpq.summary with clockChanged := true }) := ReaderRun.setSummary .refl _
  have set {u : Station} (h : ReaderRun st u) : ReaderRun st
      { u with rpq := { u.rpq with stationTime := t, clockNotSet := false } } := h.tail (.time t u.rpq.nextSecond false)
  refine .done _ ?_
  refine KeepsBounds.trans ?_ (clockNotice_keepsBounds _)
  split
  · exact (((set closed.dailyClose).setSummary _).record _).keepsBounds
  · exact ((set closed).record _).keepsBounds

/-! ### Curves and cycles -/

theorem swap_keepsBounds (st : Station) (id : CurveId) : KeepsBounds st (st.swap id) := by
  unfold Station.swap
  dsimp only
  split
  · exact .refl _
  · exact (finalise_keepsBounds _ _ _ _ rfl).after ⟨fun h => h, fun h => h, fun h => h⟩

theorem abandon_keepsBounds (st : Station) (id : CurveId) : KeepsBounds st (st.abandon id) := by
  unfold Station.abandon
  dsimp only
  split
  · exact .refl _
  · exact (finalise_keepsBounds _ _ _ _ rfl).after ⟨fun h => h, fun h => h, fun h => h⟩

theorem curveNotice_keepsBounds (st : Station) : KeepsBounds st st.curveNotice := by
  unfold Station.curveNotice
  split
  · exact ⟨id, id, id⟩
  · exact ⟨id, id, id⟩
  · exact .refl _

theorem commitStage_keepsBounds (st : Station) : KeepsBounds st st.commitStage := by
  have weir {t : Station} (h : KeepsBounds st t) : KeepsBounds st
      (if t.crv.weir.mark.isSome then (t.swap .weir).curveNotice else t) := by
    split
    · exact (h.trans (swap_keepsBounds _ _)).trans (curveNotice_keepsBounds _)
    · exact h
  unfold Station.commitStage
  refine weir ?_
  split
  · exact (swap_keepsBounds _ _).trans (emptyRing_keepsBounds _)
  · exact .refl _

/-- The station at the end of the alarm stage, stage by stage (R1). -/
theorem Station.formUpdate_station (st : Station) (a b i w : BitVec 12) : (st.formUpdate a b i w).2 =
    (let sampled := st.commitStage.sampleStage a b i w
     let voted := sampled.voteStage sampled.vote
     let volume := voted.readActive voted.crv.volume.active sampled.vote.w
     let flow := volume.2.readActive volume.2.crv.weir.active volume.2.lve.weir.offered
     (flow.2.inflowStage volume.1).2.alarmStage sampled.vote) := by
  unfold Station.formUpdate
  with_reducible rfl

theorem formUpdate_keepsBounds (st : Station) (a b i w : BitVec 12) : KeepsBounds st (st.formUpdate a b i w).2 := by
  rw [Station.formUpdate_station]
  extract_lets sampled voted volume flow
  have hs : KeepsBounds st sampled := (commitStage_keepsBounds st).trans (sampleStage_keepsBounds _ a b i w)
  have hv : KeepsBounds st voted := hs.trans (voteStage_keepsBounds _ _)
  have hq : KeepsBounds st volume.2 := hv.trans (readActive_keepsBounds _ _ _)
  have hf : KeepsBounds st flow.2 := hq.trans (readActive_keepsBounds _ _ _)
  exact (hf.trans (inflowStage_keepsBounds _ _)).trans (alarmStage_keepsBounds _ _)

theorem runCycle_keepsBounds (st : Station) (a b i w : BitVec 12) (order : List Reader) :
    KeepsBounds st (st.runCycle a b i w order) :=
  ((formUpdate_keepsBounds st a b i w).trans (.publish _ _)).trans (ReaderRun.reacts .refl _ order).keepsBounds

/-! ### Contacts -/

theorem decodeSelector_keepsBounds (st : Station) (n : PumpNo) : KeepsBounds st (st.decodeSelector n) := by
  unfold Station.decodeSelector
  dsimp only
  split
  · exact .setSelector _ _ _
  · exact (KeepsBounds.setSelector _ _ _).trans (pumpEvent_keepsBounds ((ControlRun.refl _).selectorChange n _))

theorem levelFloats_keepsBounds (st : Station) (high : Bool) : KeepsBounds st (st.levelFloats high) := by
  have floated : KeepsBounds st st.floatLevels :=
    ((report_keepsBounds _ _ _).trans (report_keepsBounds _ _ _)).after ⟨id, id, id⟩
  unfold Station.levelFloats
  dsimp only
  split <;> split
  · exact floated.trans (report_keepsBounds _ _ _)
  · exact report_keepsBounds _ _ _
  · exact floated
  · exact .refl _

theorem both_keepsBounds (st : Station) (swapped : Bool) {f g : Station → Station} (hf : ∀ t, KeepsBounds t (f t))
    (hg : ∀ t, KeepsBounds t (g t)) : KeepsBounds st (st.both swapped f g) := by
  unfold Station.both
  split
  · exact (hg _).trans (hf _)
  · exact (hf _).trans (hg _)

theorem floatEvaluation_keepsBounds (st : Station) : KeepsBounds st st.floatEvaluation :=
  (ReaderRun.floatEvaluation .refl).keepsBounds

theorem deliver_keepsBounds (st : Station) (i : Input) (on swapped : Bool) : KeepsBounds st (st.deliver i on swapped) := by
  have rake (j : Input) := (((ControlRun.refl st).rakeContact j on).settleStc).keepsBounds
  cases i with
  | hoaHand n => exact decodeSelector_keepsBounds st n
  | hoaAuto n => exact decodeSelector_keepsBounds st n
  | runFb n =>
    refine ((ControlRun.refl st).seeFeedback n).keepsBounds.trans ?_
    exact both_keepsBounds (st.seeFeedback n) swapped
      (f := fun s => s.pumpEvent n fun t => t.pumpFeedback n on) (g := fun s => s.stcFeedback n)
      (fun t => pumpEvent_keepsBounds ((ControlRun.refl t).pumpFeedback n on))
      (fun t => ((ControlRun.refl t).stcFeedback n).keepsBounds)
  | pumpFault n => exact pumpEvent_keepsBounds (f := fun s => s.pumpFaultChange n on) ((ControlRun.refl st).pumpFaultChange n on)
  | limTop => exact rake _
  | limBottom => exact rake _
  | torqueTrip => exact rake _
  | skipFull => exact rake _
  | floatHigh => exact both_keepsBounds _ _ floatEvaluation_keepsBounds fun t => levelFloats_keepsBounds t true
  | floatLow => exact both_keepsBounds _ _ floatEvaluation_keepsBounds fun t => levelFloats_keepsBounds t false
  | modeRemote => exact .refl _
  | maintKey => exact .refl _
  | genRun => exact (ControlRun.refl st).genChange.keepsBounds

theorem ControlRun.notePump {a st : Station} (h : ControlRun a st) (n : PumpNo) : ControlRun a (st.notePump n) := by
  unfold Station.notePump
  split
  · exact ControlRun.pumpEvent (h.pumpNotice n)
  · exact h

theorem ControlRun.noteStc {a st : Station} (h : ControlRun a st) : ControlRun a st.noteStc := by
  unfold Station.noteStc
  split
  · exact h.stcNotice
  · exact h

theorem ControlRun.noteRake {a st : Station} (h : ControlRun a st) : ControlRun a st.noteRake := by
  unfold Station.noteRake
  split
  · exact h.rakeNotice
  · exact h

theorem settlePair_keepsBounds (st : Station) (n : PumpNo) : KeepsBounds st (st.settlePair n) := by
  unfold Station.settlePair
  split
  · exact ⟨id, id, id⟩
  · exact .refl _

theorem noteFloats_keepsBounds (st : Station) (swapped : Bool) : KeepsBounds st (st.noteFloats swapped) := by
  unfold Station.noteFloats
  split
  · exact both_keepsBounds _ _ floatEvaluation_keepsBounds fun t => levelFloats_keepsBounds t true
  · exact .refl _

theorem notice_keepsBounds (st : Station) (i : Input) (swapped : Bool) : KeepsBounds st (st.notice i swapped) := by
  have rake := (ControlRun.refl st).noteRake.keepsBounds
  have pump (t : Station) (n : PumpNo) := ((ControlRun.refl t).notePump n).keepsBounds
  cases i with
  | hoaHand n => exact (settlePair_keepsBounds st n).trans (pump _ n)
  | hoaAuto n => exact (settlePair_keepsBounds st n).trans (pump _ n)
  | runFb n => exact both_keepsBounds _ _ (pump · n) fun t => (ControlRun.refl t).noteStc.keepsBounds
  | pumpFault n => exact pump _ n
  | limTop => exact rake
  | limBottom => exact rake
  | torqueTrip => exact rake
  | skipFull => exact rake
  | floatHigh => exact noteFloats_keepsBounds _ _
  | floatLow => exact noteFloats_keepsBounds _ _
  | modeRemote => exact .refl _
  | maintKey => exact .refl _
  | genRun => exact (ControlRun.refl st).noteStc.keepsBounds

theorem takeChange_keepsBounds (st : Station) (i : Input) (swapped : Bool) : KeepsBounds st (st.takeChange i swapped) :=
  (KeepsBounds.setInput _ _ _).trans (deliver_keepsBounds _ _ _ _)

theorem firstSettle_keepsBounds (st : Station) (i : Input) (swapped : Bool) : KeepsBounds st (st.firstSettle i swapped) :=
  (KeepsBounds.setInput _ _ _).trans (notice_keepsBounds _ _ _)

/-! ### The store and the resets -/

theorem finaliseSave_keepsBounds (st : Station) (sound : Bool) (p : PortId) : KeepsBounds st (st.finaliseSave sound p) := by
  unfold Station.finaliseSave
  split
  · dsimp only
    split
    · exact (finalise_keepsBounds _ _ _ _ rfl).trans ⟨id, id, id⟩
    · exact (finalise_keepsBounds _ _ _ _ rfl).trans ⟨id, id, id⟩
  · exact .refl _
  · exact .refl _

theorem endWrite_keepsBounds (st : Station) (w : StoreWrite) (defect : BitVec 16) : KeepsBounds st (st.endWrite w defect) := by
  have saves (t : Station) (x : Bool) := (finaliseSave_keepsBounds t x .a).trans (finaliseSave_keepsBounds _ x .b)
  have follow (t : Station) : KeepsBounds t (if t.sst.followUp then
      ({ t with sst := { t.sst with
        followUp := false, coverA := t.sst.coverA.promote, coverB := t.sst.coverB.promote } }).beginWrite
      else { t with sst := { t.sst with inFlight := none } }) := by
    split
    · exact ⟨id, id, id⟩
    · exact ⟨id, id, id⟩
  unfold Station.endWrite
  refine KeepsBounds.trans ?_ (follow _)
  refine KeepsBounds.trans ?_ (saves _ _)
  split
  · exact (report_keepsBounds _ _ _).after ⟨id, id, id⟩
  · exact ⟨id, id, id⟩

theorem softReset_keepsBounds (st : Station) : KeepsBounds st st.softReset := by
  have level (t : Station) : KeepsBounds t t.softResetLevel :=
    ⟨id, id, fun ⟨ha, hb, hi, hw, _, _⟩ => ⟨ha, hb, hi, hw, by simp [Station.softResetLevel], by simp [Station.softResetLevel]⟩⟩
  have curves (t : Station) := (abandon_keepsBounds t .volume).trans (abandon_keepsBounds _ .weir)
  have units (t : Station) (l : List PumpNo) : ControlRun t (l.foldl Station.resetPumpUnit t) := by
    induction l generalizing t with
    | nil => exact .refl _
    | cons n l ih => exact Relation.ReflTransGen.trans ((ControlRun.refl t).resetPumpUnit n) (ih _)
  have outputs (t : Station) : KeepsBounds t t.softResetOutputs.softResetDuty.softResetStc := ⟨id, id, id⟩
  have last (t : Station) := (ReaderRun.softResetOverflow (a := t) .refl).run (ControlRun.refl _).finishStcReset
  exact ((((((record_keepsBounds st _).trans (level _)).trans (curves _)).trans (outputs _)).trans
    (units _ _).softResetRake.keepsBounds).trans (last _).keepsBounds).trans (.redriveBeacon _)

/-- Mended channel settings lie in their ranges (R186). -/
theorem ChanSettings.mend_checks (c : ChanSettings) : c.mend.checks.all id = true := by
  rw [checks_iff]
  simp only [ChanSettings.mend, ChanSettings.ofValues, mendValues, ChanSettings.checks, ChanSettings.values, nth, within,
    ChanSettings.default, List.zip_cons_cons, List.map_cons, List.getD_cons_zero, List.getD_cons_succ]
  refine ⟨?_, ?_, ?_⟩ <;> split <;> simp_all

theorem Channel.powerUp_safe (c : ChanSettings) : (Channel.powerUp c.mend).safe :=
  ⟨c.mend_checks, by simp [Channel.powerUp], by simp [Channel.powerUp], by simp [Channel.powerUp], by simp [Channel.powerUp]⟩

theorem Port.powerUp_safe : Port.powerUp.safe := by simp [Port.safe, Window.safe, Port.powerUp]

/-- Every block starts within its bounds at a power-up (R187). -/
theorem fromItems_bounded (st : Station) (t : StoredItems) (b : Bool) :
    (st.fromItems t b).reportsSafe ∧ (st.fromItems t b).portsSafe ∧ (st.fromItems t b).levelSafe := by
  refine ⟨by simp [Station.reportsSafe, Station.fromItems, ReportQueue.powerUp],
    ⟨Trace.powerUp_safe, Port.powerUp_safe, Port.powerUp_safe⟩, ?_⟩
  exact ⟨Channel.powerUp_safe _, Channel.powerUp_safe _, Channel.powerUp_safe _, Channel.powerUp_safe _,
    Nat.zero_le _, Nat.zero_le _⟩

theorem powerUp_keepsBounds (st : Station) : KeepsBounds st st.powerUp := by
  have start {t : Station} (i : StoredItems) (b : Bool) (h : KeepsBounds (st.fromItems i b) t) : KeepsBounds st t :=
    have f := fromItems_bounded st i b
    ⟨fun _ => h.reports f.1, fun _ => h.ports f.2.1, fun _ => h.levels f.2.2⟩
  unfold Station.powerUp
  split
  · exact start _ _ (record_keepsBounds _ _)
  · exact start _ _ (((record_keepsBounds _ _).trans (record_keepsBounds _ _)).trans (report_keepsBounds _ _ _))

end Sys2Proof.Machine
end

section
/-! PROOFS. Every command keeps the bounds, and so does every step. -/

namespace Sys2Proof.Machine

/-- A request keeps the bounds when its owner serves it within them. -/
theorem request_keepsBounds {s t : State} {p : PortId} {k : Kind} {owner : List Byte → Station → Reply × Station} {rest : List Byte}
    (h : s.on (fun st => st.intake p k owner rest) = .next t) (ho : ∀ ps (u : Station), u.served (owner ps u)) :
    KeepsBounds s.st t.st := by
  cases h
  exact intake_keepsBounds _ _ _ _ ho

/-- A command that acts on a running part keeps the bounds when its effect does. -/
theorem live_on_keepsBounds {s t : State} {f : Station → Station} (h : s.on (fun st => st.live f) = .next t)
    (hf : ∀ u, KeepsBounds u (f u)) : KeepsBounds s.st t.st := by
  cases h
  exact live_keepsBounds _ (hf _)

theorem expiry_keepsBounds {s t : State} {expiry : Station → Option Nat} {f : Station → Station}
    (h : s.on (fun st => st.live fun u => u.atTick (expiry u) f) = .next t) (hf : ∀ u, KeepsBounds u (f u)) :
    KeepsBounds s.st t.st := live_on_keepsBounds h fun u => atStep_keepsBounds u _ hf

theorem step_event_keepsBounds {s t : State} {due : Station → Option Nat} {f : Station → Station}
    (h : s.on (fun st => st.live fun u => u.atStep (due u) f) = .next t) (hf : ∀ u, KeepsBounds u (f u)) :
    KeepsBounds s.st t.st := live_on_keepsBounds h fun u => atStep_keepsBounds u _ hf

theorem emptyPeriod_keepsBounds {s t : State} {p : PortId} {k : Nat} (h : execEmptyPeriod p k s = .next t) :
    KeepsBounds s.st t.st := by
  unfold execEmptyPeriod at h
  split at h
  · cases h
  · exact live_on_keepsBounds h fun u => (rise_keepsBounds u p k).trans (setNotTaken_keepsBounds _ _ _)

theorem requestNotTaken_keepsBounds {s t : State} {p : PortId} {bytes : List Byte} (h : execRequestNotTaken p bytes s = .next t) :
    KeepsBounds s.st t.st := by
  unfold execRequestNotTaken at h
  split at h
  · cases h
  · split at h
    · cases h
    · refine live_on_keepsBounds h fun u => ?_
      split
      · exact (rise_keepsBounds _ _ _).trans (setNotTaken_keepsBounds _ _ _)
      · exact .refl _

theorem unknownRequest_keepsBounds {s t : State} {p : PortId} {code : Byte} {rest : List Byte}
    (h : execUnknownRequest p code rest s = .next t) : KeepsBounds s.st t.st := by
  unfold execUnknownRequest at h
  split at h
  · cases h
  · refine live_on_keepsBounds h fun u => ?_
    have rise := rise_keepsBounds u p (1 + rest.length)
    dsimp only
    split
    · exact rise.trans (setNotTaken_keepsBounds _ _ _)
    · exact rise.trans (putReply_keepsBounds _ _ _ (Reply.final_sound _ rfl))

theorem clear_keepsBounds (u : Station) (p : PortId) : KeepsBounds u (u.setPort (u.port p).clear p) :=
  setPort_keepsBounds u p fun hq => by simp [Port.safe, Port.clear, hq.2.2.2]

theorem measurementCycle_keepsBounds {s t : State} {a b i w : BitVec 12} {order : List Reader}
    (h : execMeasurementCycle a b i w order s = .next t) : KeepsBounds s.st t.st := by
  unfold execMeasurementCycle at h
  split at h
  · exact expiry_keepsBounds (expiry := fun u => some u.lve.nextCycle) h fun u => runCycle_keepsBounds u a b i w order
  · cases h

theorem storeWriteEnd_keepsBounds {s t : State} {defect : BitVec 16} (h : execStoreWriteEnd defect s = .next t) :
    KeepsBounds s.st t.st := by
  refine live_on_keepsBounds h fun u => ?_
  split
  · exact .refl _
  · exact endWrite_keepsBounds _ _ _

/-- Every command keeps the bounds. -/
theorem exec_keepsBounds {c : Instr} {s t : State} (h : exec c s = .next t) : KeepsBounds s.st t.st := by
  have pump (n : PumpNo) {f : Station → Station} (hf : ∀ u, ControlRun u (f u)) (u : Station) : KeepsBounds u (u.pumpEvent n f) :=
    pumpEvent_keepsBounds (hf u)
  cases c with
  | powerUp => cases h; exact powerUp_keepsBounds _
  | resetHold => cases h; exact ⟨id, id, id⟩
  | selectFall p => exact live_on_keepsBounds h fun u => setPort_keepsBounds u p id
  | emptyPeriod p k => exact emptyPeriod_keepsBounds h
  | requestNotTaken p bytes => exact requestNotTaken_keepsBounds h
  | unknownRequest p code rest => exact unknownRequest_keepsBounds h
  | portClear p => exact live_on_keepsBounds h fun u => clear_keepsBounds u p
  | readStatus p rest => exact request_keepsBounds h fun _ _ => .reading (readStatus_sound _ _)
  | readChannels p rest => exact request_keepsBounds h fun _ _ => .reading (Reply.done_sound _)
  | readWell p rest => exact request_keepsBounds h fun _ _ => .reading (Reply.done_sound _)
  | readPump p rest => exact request_keepsBounds h fun _ u => readPump_served u _
  | readRake p rest => exact request_keepsBounds h fun _ _ => .reading (Reply.done_sound _)
  | readOverflow p rest => exact request_keepsBounds h fun _ _ => .reading (Reply.done_sound _)
  | readAlarms p rest => exact request_keepsBounds h fun _ _ => .reading (readAlarms_sound _ _ _ _)
  | readCurve p rest => exact request_keepsBounds h fun _ _ => .reading (readCurve_sound _ _ _ _ _ _ _)
  | setTraceWindow p rest => exact request_keepsBounds h fun _ u => setTraceWindow_served u _ _ _
  | readTrace p rest => exact request_keepsBounds h fun _ u => readTrace_served u _ _ _
  | peekReport p rest => exact request_keepsBounds h fun _ _ => .reading (peekReport_sound _ _)
  | readArith p rest => exact request_keepsBounds h fun _ _ => .reading (Reply.done_sound _)
  | readSettings p rest => exact request_keepsBounds h fun _ _ => .reading (readSettings_sound _ _)
  | ackAlarm p rest => exact request_keepsBounds h fun _ u => ackAlarm_served u _
  | clearAttention p rest => exact request_keepsBounds h fun _ u => clearAttention_served u _ _
  | setAttentionMasks p rest => exact request_keepsBounds h fun _ u => .done _ ⟨id, id, id⟩
  | releaseTrace p rest => exact request_keepsBounds h fun _ u => releaseTrace_served u
  | setSetpoints p rest => exact request_keepsBounds h fun _ u => setSetpoints_served u _
  | inhibitPump p rest =>
    exact request_keepsBounds h fun _ u => atPump_served u _ (inhibitPump_sound u) (ControlRun.refl u).inhibitPump
  | releasePump p rest =>
    exact request_keepsBounds h fun _ u => atPump_served u _ (releasePump_sound u) (ControlRun.refl u).releasePump
  | resetPumpFault p rest =>
    exact request_keepsBounds h fun _ u => atPump_served u _ (resetPumpFault_sound u) (ControlRun.refl u).resetPumpFault
  | requestRakeCycle p rest =>
    exact request_keepsBounds h fun _ u => .done _ (ControlRun.refl u).rakeSetDemand.settleStc.keepsBounds
  | resetRake p rest =>
    exact request_keepsBounds h fun _ u =>
      .carriedOut (resetRake_sound u) (ControlRun.refl u).resetRake.settleStc.keepsBounds (.refl u)
  | writeChannel p rest => exact request_keepsBounds h fun _ u => writeChannel_served u _ _
  | writePumpRecord p rest => exact request_keepsBounds h fun _ u => writePump_served u _ _
  | writeRotation p rest => exact request_keepsBounds h fun _ u => writeRotation_served u _ _
  | writeStationConstants p rest => exact request_keepsBounds h fun _ u => writeConstants_served u _
  | copyCurve p rest => exact request_keepsBounds h fun _ u => copyCurve_served u _
  | writeCurvePoints p rest => exact request_keepsBounds h fun _ u => writeCurvePoints_served u _ _ _
  | setCurveCount p rest => exact request_keepsBounds h fun _ u => setCurveCount_served u _ _
  | commitCurve p rest => exact request_keepsBounds h fun _ u => commitCurve_served u _ _
  | setArithControl p rest => exact request_keepsBounds h fun _ u => setArithControl_served u _ _ _
  | saveSettings p rest =>
    exact request_keepsBounds h fun _ u => ⟨by simp [Reply.sound], saveSettings_keepsBounds u p⟩
  | stationReset p rest => exact request_keepsBounds h fun _ u => .done _ (softReset_keepsBounds u)
  | takeReport p rest => exact request_keepsBounds h fun _ u => takeReport_served u _
  | setClock p rest => exact request_keepsBounds h fun _ u => setClock_served u _
  | measurementCycle a b i w order => exact measurementCycle_keepsBounds h
  | rawLevelChange i level => cases h; exact .setInput _ _ _
  | debounceExpiry i swapped =>
    exact step_event_keepsBounds (due := fun u => (u.ctu.input i).dueWhen true) h fun u => takeChange_keepsBounds u i swapped
  | firstSettling i swapped =>
    exact step_event_keepsBounds (due := fun u => (u.ctu.input i).dueWhen false) h fun u => firstSettle_keepsBounds u i swapped
  | spacingExpiry => exact expiry_keepsBounds h fun u => (ControlRun.refl u).spacingExpired.keepsBounds
  | budgetExpiry => exact expiry_keepsBounds h fun u => (ControlRun.refl u).budgetExpired.keepsBounds
  | confirmExpiry n => exact expiry_keepsBounds h (pump n fun u => (ControlRun.refl u).confirmExpired n)
  | minRunExpiry n => exact expiry_keepsBounds h (pump n fun u => (ControlRun.refl u).minRunExpired n)
  | stopConfirmExpiry n => exact expiry_keepsBounds h (pump n fun u => (ControlRun.refl u).stopConfirmExpired n)
  | minOffExpiry n => exact expiry_keepsBounds h (pump n fun u => (ControlRun.refl u).endRest n)
  | pruneExpiry n => exact expiry_keepsBounds h (pump n fun u => (ControlRun.refl u).prune n)
  | deadIntervalExpiry =>
    exact step_event_keepsBounds (due := fun u => u.ctu.drive.deadExpiry) h fun u => (ControlRun.refl u).deadExpired.keepsBounds
  | lowerTimerExpiry => exact expiry_keepsBounds h fun u => (ControlRun.refl u).lowerExpired.keepsBounds
  | raiseTimerExpiry => exact expiry_keepsBounds h fun u => (ControlRun.refl u).raiseExpired.keepsBounds
  | reverseTimerExpiry => exact expiry_keepsBounds h fun u => (ControlRun.refl u).reverseExpired.keepsBounds
  | dwellExpiry => exact expiry_keepsBounds h fun u => (ControlRun.refl u).dwellExpired.keepsBounds
  | restTimerExpiry => exact expiry_keepsBounds h fun u => (ControlRun.refl u).restExpired.keepsBounds
  | intervalExpiry => exact expiry_keepsBounds h fun u => (ControlRun.refl u).intervalExpired.settleStc.keepsBounds
  | stationTimeAdvance first => exact expiry_keepsBounds h fun u => (ReaderRun.advanceSecond (a := u) .refl first).keepsBounds
  | storeWriteEnd defect => exact storeWriteEnd_keepsBounds h

/-- Every step keeps the bounds: a command does, and so does the passing of time. -/
theorem step_keepsBounds {s t : State} (h : step s = .next t) : KeepsBounds s.st t.st := by
  unfold step at h
  split at h
  · unfold idle at h
    split at h
    · exact (exec_keepsBounds h).after ⟨id, id, id⟩
    · cases h
      show KeepsBounds s.st s.st.pass
      unfold Station.pass
      split
      · exact .refl _
      · exact ⟨id, id, id⟩
  next rest _ => exact exec_keepsBounds (s := { s with pending := rest }) h

/-- Settles O60: each bound by itself, from what every step keeps of the three. -/
theorem buffersStayWithinTheirBounds : Obligations.BuffersStayWithinTheirBounds :=
  ⟨fun _ _ hs h => (step_keepsBounds h).reports hs, fun _ _ hs h => (step_keepsBounds h).ports hs,
    fun _ _ hs h => (step_keepsBounds h).levels hs⟩

end Sys2Proof.Machine
end

section
/-! PROOFS. Completion, the idle step, the reset state, the requests to the Level Engine. -/

namespace Sys2Proof.Machine

/-! ### Completion -/

/-- A command answers a next state and leaves the queue alone when its operands are ones that its row can have, and is refused
otherwise. -/
def completes (c : Instr) (s : State) : Prop :=
  (c.wellFormed = true → ∃ t, exec c s = .next t ∧ t.pending = s.pending) ∧
  (c.wellFormed = false → exec c s = .refused .illFormed)

/-- A row all of whose operands are well formed, with an effect on the station alone. -/
theorem completes_of_next {c : Instr} {s : State} {u : Station} (he : exec c s = .next { s with st := u })
    (hw : c.wellFormed = true) : completes c s :=
  ⟨fun _ => ⟨_, he, rfl⟩, fun h => absurd (hw.symm.trans h) (by decide)⟩

theorem completes_of_refused {c : Instr} {s : State} (he : exec c s = .refused .illFormed) (hw : c.wellFormed = false) :
    completes c s :=
  ⟨fun h => absurd (hw.symm.trans h) (by decide), fun _ => he⟩

theorem completes_emptyPeriod (p : PortId) (k : Nat) (s : State) : completes (.emptyPeriod p k) s := by
  by_cases hk : k = 1
  · exact completes_of_refused (if_pos hk) (by simp [Instr.wellFormed, hk])
  · exact completes_of_next (if_neg hk) (by simp [Instr.wellFormed, hk])

theorem completes_requestNotTaken (p : PortId) (bytes : List Byte) (s : State) : completes (.requestNotTaken p bytes) s := by
  cases bytes with
  | nil => exact completes_of_refused rfl rfl
  | cons b rest =>
    by_cases hb : b = 0
    · exact completes_of_refused (if_pos hb) (by simp [Instr.wellFormed, hb])
    · exact completes_of_next (if_neg hb) (by simpa [Instr.wellFormed] using hb)

theorem completes_unknownRequest (p : PortId) (code : Byte) (rest : List Byte) (s : State) :
    completes (.unknownRequest p code rest) s := by
  by_cases hc : code = 0 ∨ catalogueCodes.contains code = true
  · refine completes_of_refused (if_pos hc) ?_
    obtain rfl | hc := hc
    · rfl
    · rw [Instr.wellFormed, hc, Bool.not_true, Bool.and_false]
  · refine completes_of_next (if_neg hc) ?_
    rw [not_or, Bool.not_eq_true] at hc
    rw [Instr.wellFormed, hc.2, Bool.not_false, Bool.and_true]
    simpa using hc.1

theorem completes_measurementCycle (a b i w : BitVec 12) (order : List Reader) (s : State) :
    completes (.measurementCycle a b i w order) s := by
  cases ho : orderOk order with
  | true => exact completes_of_next (if_pos ho) ho
  | false => exact completes_of_refused (if_neg (by simp [ho])) ho

/-- Settles O2. -/
theorem commandsCompleteOrAreRefused : Obligations.CommandsCompleteOrAreRefused := by
  intro c s
  show completes c s
  cases c
  case emptyPeriod p k => exact completes_emptyPeriod p k s
  case requestNotTaken p bytes => exact completes_requestNotTaken p bytes s
  case unknownRequest p code rest => exact completes_unknownRequest p code rest s
  case measurementCycle a b i w order => exact completes_measurementCycle a b i w order s
  all_goals exact completes_of_next rfl rfl

/-! ### The idle step -/

/-- Settles O3: the free choice is an index below the number of events due. -/
theorem idleStepTakesADueEvent : Obligations.IdleStepTakesADueEvent := by
  intro st
  refine ⟨fun hh => ?_, fun hh hd => ?_, fun hh hd => ?_⟩
  · simp [step, idle, Station.idleEvent, Station.pass, hh]
  · simp [step, idle, Station.idleEvent, Station.pass, hh, hd]
  · have hk := Nat.mod_lt (Config.dueChoice st.draws) (List.length_pos_iff.mpr hd)
    refine ⟨_, List.getElem_mem hk, ?_⟩
    simp only [step, idle, Station.idleEvent, hh, List.getElem?_eq_getElem hk]
    rfl

/-! ### The reset state -/

/-- A power-up over the image of `State.reset` leaves its station. -/
theorem powerUp_reset : Station.reset.powerUp = Station.reset := by decide +kernel

/-- Settles O4: each field by evaluation. -/
theorem resetLeavesPowerUpValues : Obligations.ResetLeavesPowerUpValues := by
  refine ⟨congrArg (fun st => Host.Outcome.next (State.mk st [])) powerUp_reset, rfl, ?_⟩
  dsimp only
  refine ⟨rfl, by decide +kernel, by decide +kernel, rfl, rfl, rfl, rfl, rfl, rfl, rfl, ?_, by decide +kernel, by decide +kernel,
    rfl, rfl, rfl, rfl, rfl, rfl, rfl, rfl, rfl, rfl, rfl, rfl, by decide +kernel, rfl, rfl, rfl, rfl, rfl, rfl,
    by decide +kernel, by decide +kernel, rfl, rfl, rfl, rfl, rfl, rfl, rfl, rfl, rfl, by decide +kernel, rfl, rfl, rfl, rfl,
    rfl, rfl, rfl, rfl, rfl, rfl, by decide +kernel, by decide +kernel, rfl, rfl, rfl, rfl, by decide +kernel, ?_, rfl, rfl,
    rfl, rfl, rfl, rfl⟩
  · intro id; cases id <;> exact ⟨rfl, rfl⟩
  · intro p; cases p <;> exact ⟨rfl, rfl, rfl, rfl, rfl, rfl⟩

end Sys2Proof.Machine
end

section
/-! PROOFS. The reads of the blocks, and the two requests of the Level Engine. -/

namespace Sys2Proof.Machine

/-! ### Requests that reach their owner -/

section
variable {s : State} {p : PortId} {k : Kind} {rest ps : List Byte}

/-- A request that reaches its owner leaves the owner's station with the owner's reply in the slot. -/
theorem State.on_intake_admits (owner : List Byte → Station → Reply × Station) (h : s.st.admits p k.cls k.form rest ps) :
    s.on (fun st => st.intake p k owner rest) =
      .next { s with st := Station.answer p k.code (owner ps (s.st.rise p (1 + rest.length))) } := by
  rw [State.on_eq, Station.intake_admits owner h, Station.answer]

/-- One whose owner changes nothing is answered. -/
theorem State.on_intake_answered {owner : List Byte → Station → Reply × Station} {reply : Reply}
    (h : s.st.admits p k.cls k.form rest ps)
    (ho : owner ps (s.st.rise p (1 + rest.length)) = (reply, s.st.rise p (1 + rest.length))) :
    s.on (fun st => st.intake p k owner rest) = .next (s.answered p rest k.code reply) := by
  rw [State.on_intake_admits owner h, ho]
  rfl

/-- A reading request is answered with what its owner reads after the rise. -/
theorem State.on_intake_reading {f : List Byte → Station → Reply} {reply : Reply} (h : s.st.admits p k.cls k.form rest ps)
    (hf : f ps (s.st.rise p (1 + rest.length)) = reply) :
    s.on (fun st => st.intake p k (reading f) rest) = .next (s.answered p rest k.code reply) :=
  State.on_intake_answered h (by rw [reading, hf])

end

/-- The parameters of a request whose form is right have the form's length. -/
theorem Station.admits.length {st : Station} {p : PortId} {cls : ReqClass} {n : Nat} {rest ps : List Byte}
    (h : st.admits p cls (.fixed n) rest ps) : ps.length = n := by
  simpa [Form.fits] using h.2.2.1

theorem ofBe_singleton (b : Byte) : ofBe [b] = b.toNat := by simp [ofBe]

/-- Parameters of one byte each. -/
theorem params_bytes (ps : List Byte) : params (List.replicate ps.length 1) ps = ps.map BitVec.toNat := by
  unfold params
  induction ps with
  | nil => rfl
  | cons b ps ih =>
    rw [List.length_cons, List.replicate_succ, List.map_cons, readFields]
    simp only [List.take_succ_cons, List.take_zero, List.drop_succ_cons, List.drop_zero, ofBe_singleton, ih]

/-! ### What the reads form -/

theorem readChannels_rise (st : Station) (p : PortId) (k : Nat) : (st.rise p k).readChannels =
    .done (st.lve.wellA.bytes ++ st.lve.wellB.bytes ++ st.lve.inlet.bytes ++ st.lve.weir.bytes) := by
  simp [Station.readChannels]

theorem readWell_rise (st : Station) (p : PortId) (k : Nat) : (st.rise p k).readWell = .done (
    (match st.lve.published with
      | some u => u.bytes
      | none => st.unpublished.bytes) ++
    byte st.lve.disagreeRun ++ byte st.lve.ring.length ++ flagByte st.lve.highLevel ++ flagByte st.lve.lowLevel ++
    flagByte st.lve.published.isSome) := by
  simp only [Station.readWell, Station.unpublished, Station.rise_lve]
  cases st.lve.published <;> rfl

theorem readArith_rise (st : Station) (p : PortId) (k : Nat) : (st.rise p k).readArith = .done (
    byte st.lve.arith.mode.code ++ st.lve.arith.flags.toList.flatMap flagByte ++ st.lve.arith.masks.toList.flatMap flagByte ++
    flagByte ((st.lve.arith.flags.scaleClamp && !st.lve.arith.masks.scaleClamp) ||
      (st.lve.arith.flags.inflowNeg && !st.lve.arith.masks.inflowNeg))) := by
  simp only [Station.readArith, Station.rise_lve]
  rfl

theorem readRake_rise (st : Station) (p : PortId) (k : Nat) : (st.rise p k).readRake = st.readRake := by cases p <;> rfl

theorem readOverflow_rise (st : Station) (p : PortId) (k : Nat) : (st.rise p k).readOverflow = st.readOverflow := by
  cases p <;> rfl

theorem params_pair (c d : Byte) : nth (params [1, 1] [c, d]) 0 = c.toNat ∧ nth (params [1, 1] [c, d]) 1 = d.toNat := by
  have h : params [1, 1] [c, d] = [c.toNat, d.toNat] := params_bytes [c, d]
  rw [h]
  exact ⟨rfl, rfl⟩

/-- Settles O16. -/
theorem blockReadsChangeNothing : Obligations.BlockReadsChangeNothing := by
  refine ⟨fun s p rest ps h => ⟨?_, ?_, ?_, ?_, ?_, rfl, rfl⟩, fun s p rest c d h => ?_⟩
  · exact State.on_intake_reading (k := ⟨0x02, .view, .fixed 0⟩) h (readChannels_rise _ _ _)
  · exact State.on_intake_reading (k := ⟨0x03, .view, .fixed 0⟩) h (readWell_rise _ _ _)
  · exact State.on_intake_reading (k := ⟨0x0C, .view, .fixed 0⟩) h (readArith_rise _ _ _)
  · exact State.on_intake_reading (k := ⟨0x05, .view, .fixed 0⟩) h (readRake_rise _ _ _)
  · exact State.on_intake_reading (k := ⟨0x06, .view, .fixed 0⟩) h (readOverflow_rise _ _ _)
  · have answered {reply : Reply} (hr : (s.st.rise p (1 + rest.length)).readAlarms p c.toNat d.toNat = reply) :
        exec (.readAlarms p rest) s = .next (s.answered p rest 0x07 reply) := by
      refine State.on_intake_reading (k := ⟨0x07, .view, .fixed 2⟩) h ?_
      rw [(params_pair c d).1, (params_pair c d).2, hr]
    refine ⟨fun hc => answered (if_pos hc), fun h1 h2 h3 h4 h5 => answered (if_neg ?_)⟩
    omega

/-! ### WRITE CHANNEL and SET ARITH CONTROL -/

theorem ofCode_none {k : Nat} : ChanName.ofCode k = none ↔ 3 < k := by
  unfold ChanName.ofCode
  split <;> (simp_all; try omega)

theorem roundMode_none {k : Nat} : RoundMode.ofCode k = none ↔ 2 < k := by
  unfold RoundMode.ofCode
  split <;> (simp_all; try omega)

/-- WRITE CHANNEL as its parameters spell it. -/
theorem exec_writeChannel {s : State} {p : PortId} {rest ps : List Byte} (h : s.st.admits p .configure (.fixed 6) rest ps) :
    let r := (s.st.rise p (1 + rest.length)).writeChannel (ofBe (ps.take 1))
      ⟨ofBe ((ps.drop 1).take 2), ofBe ((ps.drop 3).take 2), ofBe ((ps.drop 5).take 1)⟩
    exec (.writeChannel p rest) s = .next { s with st := Station.answer p 0x60 r } := by
  refine (State.on_intake_admits (k := ⟨0x60, .configure, .fixed 6⟩) _ h).trans ?_
  simp [params, readFields, ChanSettings.widths, ChanSettings.ofValues, nth]

theorem writeChannel_requests (s : State) (p : PortId) (rest ps : List Byte) (h : s.st.admits p .configure (.fixed 6) rest ps) :
    let code := ofBe (ps.take 1)
    let c : ChanSettings := ⟨ofBe ((ps.drop 1).take 2), ofBe ((ps.drop 3).take 2), ofBe ((ps.drop 5).take 1)⟩
    let ok := 100 ≤ c.span ∧ c.span ≤ 20000 ∧ c.offset ≤ 10000 ∧ c.shift ≤ 5
    (3 < code ∨ ¬ok → exec (.writeChannel p rest) s = .next (s.answered p rest 0x60 .range)) ∧
    (ok → ∀ name, ChanName.ofCode code = some name →
      exec (.writeChannel p rest) s = .next (s.replied p rest 0x60 (.done []) fun u =>
        { u with lve := u.lve.setChannel { u.lve.channel name with settings := c } name })) := by
  intro code c ok
  have hok : c.checks.all id = true ↔ ok := by rw [checks_iff, and_assoc]
  rw [exec_writeChannel h]
  refine ⟨fun hr => ?_, fun hr name hn => ?_⟩
  · have hw : (s.st.rise p (1 + rest.length)).writeChannel code c = (.range, s.st.rise p (1 + rest.length)) := by
      unfold Station.writeChannel
      split
      · rfl
      next name hn =>
        have hcode : ¬3 < code := by rw [← ofCode_none, hn]; simp
        rw [if_neg (by rw [hok]; tauto)]
    rw [hw]; rfl
  · have hw : (s.st.rise p (1 + rest.length)).writeChannel code c = (.done [], { s.st.rise p (1 + rest.length) with
        lve := (s.st.rise p (1 + rest.length)).lve.setChannel
          { (s.st.rise p (1 + rest.length)).lve.channel name with settings := c } name }) := by
      unfold Station.writeChannel
      rw [hn, ← hok] at *
      simp only [hr, if_true]
    rw [hw]; rfl

/-- SET ARITH CONTROL as its parameters spell it. -/
theorem exec_setArithControl {s : State} {p : PortId} {rest ps : List Byte} (h : s.st.admits p .configure (.fixed 11) rest ps) :
    let v := ps.map BitVec.toNat
    let r := (s.st.rise p (1 + rest.length)).setArithControl (nth v 0) (FlagSet.ofBytes (v.drop 1)) (FlagSet.ofBytes (v.drop 6))
    exec (.setArithControl p rest) s = .next { s with st := Station.answer p 0x68 r } := by
  have hv : params (List.replicate 11 1) ps = ps.map BitVec.toNat := by rw [← params_bytes, h.length]
  intro v r
  refine (State.on_intake_admits (k := ⟨0x68, .configure, .fixed 11⟩) _ h).trans ?_
  dsimp only
  rw [hv]

theorem setArithControl_requests (s : State) (p : PortId) (rest ps : List Byte)
    (h : s.st.admits p .configure (.fixed 11) rest ps) :
    let v := ps.map BitVec.toNat
    let masks := FlagSet.ofBytes (v.drop 1)
    let clear := FlagSet.ofBytes (v.drop 6)
    (2 < nth v 0 → exec (.setArithControl p rest) s = .next (s.answered p rest 0x68 .range)) ∧
    ∀ mode, RoundMode.ofCode (nth v 0) = some mode →
      ∃ t, exec (.setArithControl p rest) s = .next t ∧ t.pending = s.pending ∧ (t.st.port p).slot = ⟨.done, 0x68, []⟩ ∧
        t.st.lve = { s.st.lve with arith := ⟨mode, s.st.lve.arith.flags.without clear, masks⟩ } ∧
        t.st.alt.points[Alarm.curveRange].condition = t.st.lve.arith.curveRange ∧
        t.st.alt.points[Alarm.arithSaturated].condition = t.st.lve.arith.arithSaturated ∧
        t.st.pumps = s.st.pumps ∧ t.st.dty = s.st.dty ∧ t.st.stc = s.st.stc ∧ t.st.rkc = s.st.rkc ∧ t.st.crv = s.st.crv ∧
        t.st.ofm = s.st.ofm ∧ t.st.trb = s.st.trb ∧ t.st.consts = s.st.consts ∧ t.st.sst = s.st.sst ∧
        t.st.clock = s.st.clock := by
  intro v masks clear
  refine ⟨fun hm => ?_, fun mode hm => ?_⟩
  · have hw : (s.st.rise p (1 + rest.length)).setArithControl (nth v 0) masks clear =
        (.range, s.st.rise p (1 + rest.length)) := by
      unfold Station.setArithControl
      rw [roundMode_none.mpr hm]
    rw [exec_setArithControl h, hw]; rfl
  · refine ⟨_, exec_setArithControl h, rfl, ?_⟩
    have hw (u : Station) : u.setArithControl (nth v 0) masks clear = (.done [], ({ u with lve := { u.lve with
        arith := { mode := mode, flags := u.lve.arith.flags.without clear, masks := masks } } }).judgeArith) := by
      unfold Station.setArithControl
      rw [hm]
    rw [hw]
    have judged := Station.judgeArith_judged ({ s.st.rise p (1 + rest.length) with lve :=
      { (s.st.rise p (1 + rest.length)).lve with arith :=
        { mode := mode, flags := (s.st.rise p (1 + rest.length)).lve.arith.flags.without clear, masks := masks } } })
    refine ⟨?_, ?_, ?_, ?_, ?_⟩
    · cases p <;> rfl
    · simp [Station.answer]
    · simpa [Station.answer] using judged.1
    · simpa [Station.answer] using judged.2
    · simp [Station.answer, Station.judgeArith]

/-- Settles O28. -/
theorem levelEngineRequests : Obligations.LevelEngineRequests := ⟨writeChannel_requests, setArithControl_requests⟩

end Sys2Proof.Machine
end

section
/-! PROOFS. Debounce, first settling and the floats (Chapter 3, R27, R67). -/

namespace Sys2Proof.Machine

/-! ### A demand evaluation -/

theorem prune_installed (st : Station) (n m : PumpNo) :
    (st.prune n).pumps[m].settings.installed = st.pumps[m].settings.installed := by
  obtain rfl | hn := eq_or_ne n m
  · simp [Station.prune]
  · rw [Station.prune, Station.setPump_other _ _ _ _ hn]

theorem pruneAll_installed (st : Station) (m : PumpNo) :
    st.pruneAll.pumps[m].settings.installed = st.pumps[m].settings.installed := by
  have all (l : List PumpNo) :
      (l.foldl Station.prune st).pumps[m].settings.installed = st.pumps[m].settings.installed := by
    induction l generalizing st with
    | nil => rfl
    | cons n l ih => rw [List.foldl_cons, ih, prune_installed]
  exact all _

/-- The demand from the floats hangs on the installed pumps, the floats and the Duty Controller alone (R70). -/
theorem demandFloat_congr {a b : Station} (hp : ∀ n : PumpNo, b.pumps[n].settings.installed = a.pumps[n].settings.installed)
    (hs : ∀ i, b.settled i = a.settled i) (hd : b.dty = a.dty) : b.demandFloat = a.demandFloat := by
  simp only [Station.demandFloat, Station.npos, hp, hs, hd]

/-- A run of control moves keeps what is settled. -/
theorem ControlRun.settled {a b : Station} (h : ControlRun a b) (i : Input) : b.settled i = a.settled i := h.keepsOuter.settled i

theorem pruneAll_dty (st : Station) : st.pruneAll.dty = st.dty := by
  have all (l : List PumpNo) : (l.foldl Station.prune st).dty = st.dty := by
    induction l generalizing st with
    | nil => rfl
    | cons n l ih => rw [List.foldl_cons, ih]; rfl
  exact all _

/-- An evaluation from the floats: what it leaves unchanged, and the figures that the Duty Controller then holds (R67, R70). -/
structure EvaluatedFromFloats (a b : Station) : Prop where
  keeps : KeepsOuter a b
  points : ∀ k, ¬controlPoint k → b.alt.points[k] = a.alt.points[k]
  held : b.dty.held = a.demandFloat.held
  effective : b.dty.effective = a.demandFloat.effective
  cutoff : b.dty.cutoff = a.demandFloat.cutoff
  source : b.dty.lastSource = some .float

/-- Any evaluation is two runs of control moves about an update of the Duty Controller. -/
theorem evaluate_runs (st : Station) (u : LevelUpdate) : ∃ d : Duty,
    d.held = (st.pruneAll.judgeStartLimited.demand u).held ∧ d.effective = (st.pruneAll.judgeStartLimited.demand u).effective ∧
    d.cutoff = (st.pruneAll.judgeStartLimited.demand u).cutoff ∧ d.lastSource = some u.source ∧
    ControlRun st st.pruneAll.judgeStartLimited ∧
    ControlRun { st.pruneAll.judgeStartLimited with dty := d } (st.evaluate u) :=
  ⟨_, rfl, rfl, rfl, rfl, (ControlRun.refl st).pruneAll.judgeStartLimited,
    ((ControlRun.refl _).sends _ _).testPumpDown.settleStc⟩

theorem evaluate_keepsOuter (st : Station) (u : LevelUpdate) : KeepsOuter st (st.evaluate u) := by
  obtain ⟨d, -, -, -, -, before, after⟩ := evaluate_runs st u
  exact (before.keepsOuter.trans (keeps_dty _ d)).trans after.keepsOuter

theorem evaluate_fromFloats {st : Station} {u : LevelUpdate} (hw : u.w = none) (hs : u.source = .float) :
    EvaluatedFromFloats st (st.evaluate u) := by
  obtain ⟨d, hheld, heff, hcut, hsrc, before, after⟩ := evaluate_runs st u
  have hd : st.pruneAll.judgeStartLimited.demand u = st.demandFloat := by
    rw [Station.demand, hw]
    refine demandFloat_congr (fun n => ?_) before.settled ?_
    · rw [Station.judgeStartLimited, Station.report_pumps, pruneAll_installed]
    · rw [Station.judgeStartLimited, Station.report_dty, pruneAll_dty]
  rw [hd] at hheld heff hcut
  obtain ⟨l, m, hdty⟩ := after.duty
  exact
    { keeps := evaluate_keepsOuter st u
      points := fun k hk => (after.points hk).trans (before.points hk)
      held := by rw [hdty]; exact hheld
      effective := by rw [hdty]; exact heff
      cutoff := by rw [hdty]; exact hcut
      source := by rw [hdty]; exact hsrc.trans (by rw [hs]) }

/-! ### The floats -/

theorem floatLevels_lve (st : Station) : st.floatLevels.lve =
    { st.lve with highLevel := st.settled .floatHigh, lowLevel := !st.settled .floatLow } := by
  simp [Station.floatLevels]

theorem floatLevels_dty (st : Station) : st.floatLevels.dty = st.dty := by simp [Station.floatLevels]

theorem floatLevels_pumps (st : Station) : st.floatLevels.pumps = st.pumps := by simp [Station.floatLevels]

theorem floatLevels_settled (st : Station) (i : Input) : st.floatLevels.settled i = st.settled i := by
  simp [Station.floatLevels]
  rfl

theorem floatLevels_high (st : Station) :
    st.floatLevels.alt.points[Alarm.highLevel].condition = st.settled .floatHigh := by
  simp only [Station.floatLevels]
  rw [Station.report_others _ _ (by decide), Station.report_condition]

theorem floatLevels_low (st : Station) :
    st.floatLevels.alt.points[Alarm.lowLevel].condition = !st.settled .floatLow := by
  simp only [Station.floatLevels]
  rw [Station.report_condition]

/-- Without FLOAT as the published source, no evaluation follows a float. -/
theorem floatEvaluation_idle {st : Station} (h : st.lve.onFloat = false) : st.floatEvaluation = st := by
  unfold Station.floatEvaluation
  split
  · rfl
  next u hu =>
    rw [LevelEngine.onFloat, hu] at h
    exact if_neg (by simpa using h)

theorem levelFloats_idle {st : Station} (h : st.lve.onFloat = false) (high : Bool) :
    st.levelFloats high = if high then st.report Alarm.floatHigh (st.settled .floatHigh) else st := by
  simp [Station.levelFloats, h]

/-- In another source, in either order, FLOAT_HIGH alone is reported (R27). -/
theorem both_floats_idle {st : Station} (h : st.lve.onFloat = false) (swapped high : Bool) :
    st.both swapped Station.floatEvaluation (fun s => s.levelFloats high) =
      if high then st.report Alarm.floatHigh (st.settled .floatHigh) else st := by
  have hl : (st.levelFloats high).lve.onFloat = false := by
    rw [levelFloats_idle h]; split <;> simp [h]
  unfold Station.both
  split
  · exact (floatEvaluation_idle hl).trans (levelFloats_idle h high)
  · rw [floatEvaluation_idle h]
    exact levelFloats_idle h high

/-- The published source is FLOAT, with W absent as a vote of that source has it. -/
def LevelEngine.floating (l : LevelEngine) : Prop := ∃ u, l.published = some u ∧ u.source = .float ∧ u.w = none

theorem LevelEngine.floating.onFloat {l : LevelEngine} (h : l.floating) : l.onFloat = true := by
  obtain ⟨u, hu, hs, -⟩ := h
  simp [LevelEngine.onFloat, hu, hs]

theorem floatEvaluation_floating {st : Station} (h : st.lve.floating) : EvaluatedFromFloats st st.floatEvaluation := by
  obtain ⟨u, hu, hs, hw⟩ := h
  have he : st.floatEvaluation = st.evaluate u := by
    unfold Station.floatEvaluation
    rw [hu]
    exact if_pos hs
  rw [he]
  exact evaluate_fromFloats hw hs

/-- What the Level Engine does of a float while the source is FLOAT: both conditions judged anew, FLOAT_HIGH reported when asked. -/
structure LevelsFromFloats (a b : Station) (high : Bool) : Prop where
  lve : b.lve = { a.lve with highLevel := a.settled .floatHigh, lowLevel := !a.settled .floatLow }
  dty : b.dty = a.dty
  pumps : b.pumps = a.pumps
  settled : ∀ i, b.settled i = a.settled i
  highLevel : b.alt.points[Alarm.highLevel].condition = a.settled .floatHigh
  lowLevel : b.alt.points[Alarm.lowLevel].condition = !a.settled .floatLow
  floatHigh : high = true → b.alt.points[Alarm.floatHigh].condition = a.settled .floatHigh

theorem levelFloats_floating {st : Station} (h : st.lve.onFloat = true) (high : Bool) :
    LevelsFromFloats st (st.levelFloats high) high := by
  have floated : LevelsFromFloats st st.floatLevels false :=
    ⟨floatLevels_lve st, floatLevels_dty st, floatLevels_pumps st, floatLevels_settled st, floatLevels_high st, floatLevels_low st,
      by simp⟩
  have he : st.levelFloats high =
      if high then st.floatLevels.report Alarm.floatHigh (st.floatLevels.settled .floatHigh) else st.floatLevels := by
    simp [Station.levelFloats, h]
  rw [he]
  cases high with
  | false => exact floated
  | true =>
    rw [if_pos rfl]
    refine ⟨?_, ?_, ?_, fun i => ?_, ?_, ?_, fun _ => ?_⟩
    · rw [Station.report_lve, floated.lve]
    · rw [Station.report_dty, floated.dty]
    · rw [Station.report_pumps, floated.pumps]
    · rw [Station.report_settled, floated.settled]
    · rw [Station.report_others _ _ (by decide), floated.highLevel]
    · rw [Station.report_others _ _ (by decide), floated.lowLevel]
    · rw [Station.report_condition, floated.settled]

theorem levelPoints_not_control : ¬controlPoint Alarm.highLevel ∧ ¬controlPoint Alarm.lowLevel ∧ ¬controlPoint Alarm.floatHigh := by
  unfold controlPoint
  decide

/-- While the source is FLOAT, in either order, LVE and DTY judge the floats anew (R27, R67, R70). -/
theorem both_floats_judged {st : Station} (h : st.lve.floating) (swapped high : Bool) :
    let t := st.both swapped Station.floatEvaluation fun s => s.levelFloats high
    FloatsJudged st t ∧ (high = true → t.alt.points[Alarm.floatHigh].condition = st.settled .floatHigh) := by
  obtain ⟨nh, nl, nf⟩ := levelPoints_not_control
  intro t
  cases swapped with
  | true =>
    have lv := levelFloats_floating h.onFloat high
    have ev : EvaluatedFromFloats (st.levelFloats high) t := floatEvaluation_floating (by rw [lv.lve]; exact h)
    have hd : (st.levelFloats high).demandFloat = st.demandFloat :=
      demandFloat_congr (fun n => by rw [lv.pumps]) lv.settled lv.dty
    exact ⟨⟨ev.keeps.lve.trans lv.lve, by rw [ev.points _ nh, lv.highLevel], by rw [ev.points _ nl, lv.lowLevel],
      by rw [ev.held, hd], by rw [ev.effective, hd], by rw [ev.cutoff, hd], ev.source⟩,
      fun hh => by rw [ev.points _ nf, lv.floatHigh hh]⟩
  | false =>
    have ev := floatEvaluation_floating h
    have lv : LevelsFromFloats st.floatEvaluation t high :=
      levelFloats_floating (by rw [ev.keeps.lve]; exact h.onFloat) high
    have hset := ev.keeps.settled
    exact ⟨⟨by rw [lv.lve, ev.keeps.lve, hset, hset], by rw [lv.highLevel, hset], by rw [lv.lowLevel, hset],
      by rw [lv.dty, ev.held], by rw [lv.dty, ev.effective], by rw [lv.dty, ev.cutoff], by rw [lv.dty, ev.source]⟩,
      fun hh => by rw [lv.floatHigh hh, hset]⟩

/-! ### What no contact reaches -/

/-- What the delivery of a change or of a settling notice leaves as it was. -/
structure KeepsBlocks (a b : Station) : Prop where
  clock : b.clock = a.clock
  crv : b.crv = a.crv
  ofm : b.ofm = a.ofm
  trb : b.trb = a.trb
  portA : b.portA = a.portA
  portB : b.portB = a.portB
  consts : b.consts = a.consts
  sst : b.sst = a.sst
  inputs : ∀ i, b.ctu.input i = a.ctu.input i

theorem KeepsBlocks.refl (a : Station) : KeepsBlocks a a := ⟨rfl, rfl, rfl, rfl, rfl, rfl, rfl, rfl, fun _ => rfl⟩

theorem KeepsBlocks.trans {a b c : Station} (h : KeepsBlocks a b) (k : KeepsBlocks b c) : KeepsBlocks a c :=
  ⟨k.clock.trans h.clock, k.crv.trans h.crv, k.ofm.trans h.ofm, k.trb.trans h.trb, k.portA.trans h.portA,
    k.portB.trans h.portB, k.consts.trans h.consts, k.sst.trans h.sst, fun i => (k.inputs i).trans (h.inputs i)⟩

theorem KeepsOuter.blocks {a b : Station} (h : KeepsOuter a b) : KeepsBlocks a b :=
  ⟨h.clock, h.crv, h.ofm, h.trb, h.portA, h.portB, h.consts, h.sst, h.inputs⟩

theorem ControlRun.blocks {a b : Station} (h : ControlRun a b) : KeepsBlocks a b := h.keepsOuter.blocks

theorem pumpEvent_keepsBlocks {st : Station} {n : PumpNo} {f : Station → Station} (h : ControlRun st (f st)) :
    KeepsBlocks st (st.pumpEvent n f) := (ControlRun.pumpEvent h).blocks

theorem setSelector_keepsBlocks (st : Station) (n : PumpNo) (s : Selector) : KeepsBlocks st (st.setSelector n s) :=
  ⟨rfl, rfl, rfl, rfl, rfl, rfl, rfl, rfl, fun i => by cases i <;> rfl⟩

theorem decodeSelector_keepsBlocks (st : Station) (n : PumpNo) : KeepsBlocks st (st.decodeSelector n) := by
  unfold Station.decodeSelector
  dsimp only
  split
  · exact setSelector_keepsBlocks _ _ _
  · exact (setSelector_keepsBlocks _ _ _).trans (pumpEvent_keepsBlocks ((ControlRun.refl _).selectorChange n _))

theorem floatEvaluation_keepsBlocks (st : Station) : KeepsBlocks st st.floatEvaluation := by
  unfold Station.floatEvaluation
  split
  · exact .refl _
  · split
    · exact (evaluate_keepsOuter _ _).blocks
    · exact .refl _

theorem levelFloats_keepsBlocks (st : Station) (high : Bool) : KeepsBlocks st (st.levelFloats high) := by
  have report (t : Station) (k : PointNo) (on : Bool) := (keeps_report t k on).blocks
  have lve (l : LevelEngine) : KeepsBlocks st { st with lve := l } := ⟨rfl, rfl, rfl, rfl, rfl, rfl, rfl, rfl, fun _ => rfl⟩
  have floated : KeepsBlocks st st.floatLevels := ((lve _).trans (report _ _ _)).trans (report _ _ _)
  unfold Station.levelFloats
  dsimp only
  split <;> split
  · exact floated.trans (report _ _ _)
  · exact report _ _ _
  · exact floated
  · exact .refl _

theorem both_keepsBlocks (st : Station) (swapped : Bool) {f g : Station → Station} (hf : ∀ t, KeepsBlocks t (f t))
    (hg : ∀ t, KeepsBlocks t (g t)) : KeepsBlocks st (st.both swapped f g) := by
  unfold Station.both
  split
  · exact (hg _).trans (hf _)
  · exact (hf _).trans (hg _)

/-- A taken change moves no block that Table 3-1 does not name (R49). -/
theorem deliver_keepsBlocks (st : Station) (i : Input) (on swapped : Bool) : KeepsBlocks st (st.deliver i on swapped) := by
  have rake (j : Input) := (((ControlRun.refl st).rakeContact j on).settleStc).blocks
  cases i with
  | hoaHand n => exact decodeSelector_keepsBlocks st n
  | hoaAuto n => exact decodeSelector_keepsBlocks st n
  | runFb n =>
    refine ((ControlRun.refl st).seeFeedback n).blocks.trans ?_
    exact both_keepsBlocks (st.seeFeedback n) swapped
      (f := fun s => s.pumpEvent n fun t => t.pumpFeedback n on) (g := fun s => s.stcFeedback n)
      (fun t => pumpEvent_keepsBlocks ((ControlRun.refl t).pumpFeedback n on))
      (fun t => ((ControlRun.refl t).stcFeedback n).blocks)
  | pumpFault n => exact pumpEvent_keepsBlocks (f := fun s => s.pumpFaultChange n on) ((ControlRun.refl st).pumpFaultChange n on)
  | limTop => exact rake _
  | limBottom => exact rake _
  | torqueTrip => exact rake _
  | skipFull => exact rake _
  | floatHigh => exact both_keepsBlocks _ _ floatEvaluation_keepsBlocks fun t => levelFloats_keepsBlocks t true
  | floatLow => exact both_keepsBlocks _ _ floatEvaluation_keepsBlocks fun t => levelFloats_keepsBlocks t false
  | modeRemote => exact .refl _
  | maintKey => exact .refl _
  | genRun => exact (ControlRun.refl st).genChange.blocks

theorem settlePair_keepsBlocks (st : Station) (n : PumpNo) : KeepsBlocks st (st.settlePair n) := by
  unfold Station.settlePair
  split
  · exact setSelector_keepsBlocks _ _ _
  · exact .refl _

theorem noteFloats_keepsBlocks (st : Station) (swapped : Bool) : KeepsBlocks st (st.noteFloats swapped) := by
  unfold Station.noteFloats
  split
  · exact both_keepsBlocks _ _ floatEvaluation_keepsBlocks fun t => levelFloats_keepsBlocks t true
  · exact .refl _

/-- A first settling moves no block that Table 3-1 does not name (R48). -/
theorem notice_keepsBlocks (st : Station) (i : Input) (swapped : Bool) : KeepsBlocks st (st.notice i swapped) := by
  have rake := (ControlRun.refl st).noteRake.blocks
  have pump (t : Station) (n : PumpNo) := ((ControlRun.refl t).notePump n).blocks
  cases i with
  | hoaHand n => exact (settlePair_keepsBlocks st n).trans (pump _ n)
  | hoaAuto n => exact (settlePair_keepsBlocks st n).trans (pump _ n)
  | runFb n => exact both_keepsBlocks _ _ (pump · n) fun t => (ControlRun.refl t).noteStc.blocks
  | pumpFault n => exact pump _ n
  | limTop => exact rake
  | limBottom => exact rake
  | torqueTrip => exact rake
  | skipFull => exact rake
  | floatHigh => exact noteFloats_keepsBlocks _ _
  | floatLow => exact noteFloats_keepsBlocks _ _
  | modeRemote => exact .refl _
  | maintKey => exact .refl _
  | genRun => exact (ControlRun.refl st).noteStc.blocks

/-! ### The three rows -/

theorem set_other {α : Type} (v : Vector α 6) (x : α) {n m : PumpNo} (h : m ≠ n) : (v.set n x)[m] = v[m] := by
  have : n.val ≠ m.val := fun e => h (Fin.ext e.symm)
  simp [this]

theorem ContactUnit.input_setInput_other (c : ContactUnit) (r : InputRec) {i j : Input} (h : j ≠ i) :
    (c.setInput r i).input j = c.input j := by
  cases i
  case hoaHand n => cases j <;> first | rfl | exact set_other _ _ (fun e => h (by rw [e]))
  case hoaAuto n => cases j <;> first | rfl | exact set_other _ _ (fun e => h (by rw [e]))
  case runFb n => cases j <;> first | rfl | exact set_other _ _ (fun e => h (by rw [e]))
  case pumpFault n => cases j <;> first | rfl | exact set_other _ _ (fun e => h (by rw [e]))
  all_goals cases j <;> first | rfl | exact absurd rfl h

section
variable {s : State} {i : Input} {u : Station}

theorem exec_debounceExpiry (swapped : Bool) (h : s.st.changeComesDue i u) :
    exec (.debounceExpiry i swapped) s = .next { s with st := u.takeChange i swapped } :=
  congrArg (fun x : Station => Host.Outcome.next (State.mk x s.pending)) (Station.changeComesDue_live (fun t => t.takeChange i swapped) h)

theorem exec_firstSettling (swapped : Bool) (h : s.st.settlingComesDue i u) :
    exec (.firstSettling i swapped) s = .next { s with st := u.firstSettle i swapped } :=
  congrArg (fun x : Station => Host.Outcome.next (State.mk x s.pending)) (Station.settlingComesDue_live (fun t => t.firstSettle i swapped) h)

/-- The station at which a contact event comes differs from the one before in the clock alone, and its input has settled before
or not, as the event has it. -/
theorem dueWhen_settled {r : InputRec} {b : Bool} {d : Nat} (h : r.dueWhen b = some d) : r.hasSettled = b := by
  unfold InputRec.dueWhen at h
  split at h
  · assumption
  · cases h

end

theorem float_change {s : State} {i : Input} (swapped : Bool) {u : Station} (hi : i = .floatHigh ∨ i = .floatLow)
    (h : s.st.changeComesDue i u) : u.takeChange i swapped =
      (u.withChange i).both swapped Station.floatEvaluation (fun t => t.levelFloats (i = .floatHigh)) ∧
      (u.withChange i).lve = s.st.lve := by
  obtain ⟨-, d, -, hr⟩ := h
  obtain ⟨c, rfl⟩ := Station.reach_clock hr
  obtain rfl | rfl := hi <;> exact ⟨rfl, rfl⟩

theorem float_settling {s : State} {i : Input} (swapped : Bool) {u : Station} (hi : i = .floatHigh ∨ i = .floatLow)
    (h : s.st.settlingComesDue i u) : u.firstSettle i swapped = (u.withSettling i).noteFloats swapped ∧
      (u.withSettling i).lve = s.st.lve := by
  obtain ⟨-, d, -, hr⟩ := h
  obtain ⟨c, rfl⟩ := Station.reach_clock hr
  obtain rfl | rfl := hi <;> exact ⟨rfl, rfl⟩

/-- The float rows of R27 and R67. -/
theorem floats_delivered (s : State) (i : Input) (swapped : Bool) (u : Station) (hi : i = .floatHigh ∨ i = .floatLow) :
    let onFloat := ∃ l, s.st.lve.published = some l ∧ l.source = .float ∧ l.w = none
    (s.st.changeComesDue i u →
      let v := u.withChange i
      (s.st.lve.onFloat = false → exec (.debounceExpiry i swapped) s = .next { s with
        st := if i = .floatHigh then v.report Alarm.floatHigh (v.settled .floatHigh) else v }) ∧
      (onFloat → ∃ t, exec (.debounceExpiry i swapped) s = .next t ∧ t.pending = s.pending ∧ FloatsJudged v t.st ∧
        (i = .floatHigh → t.st.alt.points[Alarm.floatHigh].condition = v.settled .floatHigh))) ∧
    (s.st.settlingComesDue i u →
      let v := u.withSettling i
      (v.floatsSettled = false → exec (.firstSettling i swapped) s = .next { s with st := v }) ∧
      (v.floatsSettled = true → s.st.lve.onFloat = false → exec (.firstSettling i swapped) s = .next { s with
        st := v.report Alarm.floatHigh (v.settled .floatHigh) }) ∧
      (v.floatsSettled = true → onFloat → ∃ t, exec (.firstSettling i swapped) s = .next t ∧ t.pending = s.pending ∧
        FloatsJudged v t.st ∧ t.st.alt.points[Alarm.floatHigh].condition = v.settled .floatHigh)) := by
  intro onFloat
  refine ⟨fun h => ?_, fun h => ?_⟩
  · intro v
    obtain ⟨ht, hl⟩ := float_change swapped hi h
    rw [exec_debounceExpiry swapped h, ht]
    refine ⟨fun hf => ?_, fun hf => ⟨_, rfl, rfl, ?_⟩⟩
    · rw [both_floats_idle (by rw [hl]; exact hf)]
      simp only [decide_eq_true_eq]
      rfl
    · have := both_floats_judged (st := v) (by rw [hl]; exact hf) swapped (decide (i = .floatHigh))
      exact ⟨this.1, fun hh => this.2 (by simp [hh])⟩
  · intro v
    obtain ⟨ht, hl⟩ := float_settling swapped hi h
    rw [exec_firstSettling swapped h, ht]
    refine ⟨fun hs => ?_, fun hs hf => ?_, fun hs hf => ⟨_, rfl, rfl, ?_⟩⟩
    · rw [Station.noteFloats, if_neg (by rw [hs]; decide)]
    · rw [Station.noteFloats, if_pos hs, both_floats_idle (by rw [hl]; exact hf), if_pos rfl]
    · dsimp only
      rw [Station.noteFloats, if_pos hs]
      have := both_floats_judged (st := v) (by rw [hl]; exact hf) swapped true
      exact ⟨this.1, this.2 rfl⟩

/-- RAW_LEVEL_CHANGE, case by case (R46, R48). -/
theorem rawLevel_moves_candidate (s : State) (i : Input) (level : Bool) (hh : s.st.held = false) :
    let r := s.st.ctu.input i
    let began : Candidate := ⟨s.st.clock, s.st.consts.debounce i⟩
    (level = r.raw → exec (.rawLevelChange i level) s = .next s) ∧
    (level ≠ r.raw → r.hasSettled = true → level ≠ r.settled →
      exec (.rawLevelChange i level) s =
        .next { s with st := s.st.setInput i { r with raw := level, candidate := some began } }) ∧
    (level ≠ r.raw → r.hasSettled = true → level = r.settled →
      exec (.rawLevelChange i level) s = .next { s with st := s.st.setInput i { r with raw := level, candidate := none } }) ∧
    (level ≠ r.raw → r.hasSettled = false →
      exec (.rawLevelChange i level) s =
        .next { s with st := s.st.setInput i { r with raw := level, candidate := some began } }) := by
  intro r began
  have hx : exec (.rawLevelChange i level) s =
      .next { s with st := s.st.setInput i (r.rawChange level s.st.clock (s.st.consts.debounce i)) } := by
    show Host.Outcome.next _ = _
    simp [Station.rawLevel, hh, r]
  have same : s.st.setInput i r = s.st := by
    have : s.st.ctu.setInput r i = s.st.ctu := by cases i <;> simp [ContactUnit.setInput, ContactUnit.input, r]
    rw [Station.setInput, this]
  rw [hx]
  refine ⟨fun h => ?_, fun h hs hl => ?_, fun h hs hl => ?_, fun h hs => ?_⟩
  · rw [InputRec.rawChange, if_pos h.symm, same]
  · simp [InputRec.rawChange, Ne.symm h, hs, hl, began]
  · have : r.raw ≠ r.settled := fun e => h (hl.trans e.symm)
    simp [InputRec.rawChange, hs, hl, this]
  · simp [InputRec.rawChange, Ne.symm h, hs, began]

/-- The two rows of a taken candidate: the input record, and all that stays. -/
theorem contacts_taken (s : State) (i : Input) (swapped : Bool) (u : Station) :
    let r := s.st.ctu.input i
    let keeps := fun t : Station =>
      (∀ j, j ≠ i → t.ctu.input j = s.st.ctu.input j) ∧ t.clock = u.clock ∧ t.crv = s.st.crv ∧ t.ofm = s.st.ofm ∧
      t.trb = s.st.trb ∧ t.portA = s.st.portA ∧ t.portB = s.st.portB ∧ t.consts = s.st.consts ∧ t.sst = s.st.sst
    (s.st.changeComesDue i u →
      ∃ t, exec (.debounceExpiry i swapped) s = .next t ∧ t.pending = s.pending ∧
        t.st.ctu.input i = ⟨r.raw, r.raw, true, none, some u.uptime⟩ ∧ keeps t.st ∧
        (i = .modeRemote ∨ i = .maintKey → t.st = u.setInput i ⟨r.raw, r.raw, true, none, some u.uptime⟩)) ∧
    (s.st.settlingComesDue i u →
      ∃ t, exec (.firstSettling i swapped) s = .next t ∧ t.pending = s.pending ∧
        t.st.ctu.input i = ⟨r.raw, r.raw, true, none, r.lastChange⟩ ∧ keeps t.st ∧
        (i = .modeRemote ∨ i = .maintKey → t.st = u.setInput i ⟨r.raw, r.raw, true, none, r.lastChange⟩) ∧
        (∀ n, i = .pumpFault n → (u.setInput i ⟨r.raw, r.raw, true, none, r.lastChange⟩).pumpNoticed n = false →
          t.st = u.setInput i ⟨r.raw, r.raw, true, none, r.lastChange⟩)) := by
  intro r keeps
  have kept {c : Nat} {x : InputRec} {t : Station} (hu : u = { s.st with clock := c }) (h : KeepsBlocks (u.setInput i x) t) :
      t.ctu.input i = x ∧ keeps t := by
    subst hu
    refine ⟨(h.inputs i).trans (ContactUnit.input_setInput_self _ _ _), fun j hj => ?_, h.clock, h.crv, h.ofm, h.trb, h.portA,
      h.portB, h.consts, h.sst⟩
    exact (h.inputs j).trans (ContactUnit.input_setInput_other _ _ hj)
  refine ⟨fun h => ⟨_, exec_debounceExpiry swapped h, rfl, ?_⟩, fun h => ⟨_, exec_firstSettling swapped h, rfl, ?_⟩⟩
  · obtain ⟨-, d, hd, hr⟩ := h
    obtain ⟨c, hu⟩ := Station.reach_clock hr
    have hx : (u.ctu.input i).take u.uptime = ⟨r.raw, r.raw, true, none, some u.uptime⟩ := by
      rw [← dueWhen_settled hd, hu]; rfl
    have hk := kept hu (deliver_keepsBlocks (u.setInput i ((u.ctu.input i).take u.uptime)) i
      ((u.ctu.input i).take u.uptime).settled swapped)
    refine ⟨hk.1.trans hx, hk.2, fun hi => ?_⟩
    rw [← hx]
    obtain rfl | rfl := hi <;> rfl
  · obtain ⟨-, d, hd, hr⟩ := h
    obtain ⟨c, hu⟩ := Station.reach_clock hr
    have hx : (u.ctu.input i).settle = ⟨r.raw, r.raw, true, none, r.lastChange⟩ := by rw [hu]; rfl
    have hk := kept hu (notice_keepsBlocks (u.setInput i (u.ctu.input i).settle) i swapped)
    refine ⟨hk.1.trans hx, hk.2, fun hi => ?_, fun n hi hn => ?_⟩
    · rw [← hx]
      obtain rfl | rfl := hi <;> rfl
    · rw [← hx] at hn ⊢
      subst hi
      exact if_neg (by rw [hn]; decide)

/-- Settles O34. -/
theorem contactsAreDebounced : Obligations.ContactsAreDebounced :=
  ⟨floats_delivered, rawLevel_moves_candidate, contacts_taken⟩

end Sys2Proof.Machine
end

section
/-! PROOFS. STATION RESET, block by block (R188). -/

namespace Sys2Proof.Machine

/-! ### The rake and the Start Controller with no pump about -/

/-- From `a` to `b` no pump moves, none joins the queue, nothing is shed, and CAPACITY_HELD does not turn on; a grant is one at this
uptime. -/
structure RakeOnly (a b : Station) : Prop where
  clock : b.clock = a.clock
  pumps : b.pumps = a.pumps
  pumpRun : b.ctu.pumpRun = a.ctu.pumpRun
  shedPumps : b.stc.shedPumps = a.stc.shedPumps
  shedRake : a.stc.shedRake = false → b.stc.shedRake = false
  capacity : a.stc.capacityHeld = false → b.stc.capacityHeld = false
  queue : (∀ e ∈ a.stc.queue, e.motor = .rake) → ∀ e ∈ b.stc.queue, e.motor = .rake
  granted : b.stc.lastGrant = a.stc.lastGrant ∨ b.stc.lastGrant = some a.uptime

namespace RakeOnly

theorem refl (a : Station) : RakeOnly a a := ⟨rfl, rfl, rfl, rfl, id, id, id, .inl rfl⟩

theorem trans {a b c : Station} (h : RakeOnly a b) (k : RakeOnly b c) : RakeOnly a c where
  clock := k.clock.trans h.clock
  pumps := k.pumps.trans h.pumps
  pumpRun := k.pumpRun.trans h.pumpRun
  shedPumps := k.shedPumps.trans h.shedPumps
  shedRake := k.shedRake ∘ h.shedRake
  capacity := k.capacity ∘ h.capacity
  queue := k.queue ∘ h.queue
  granted := by
    have hu : b.uptime = a.uptime := by simp [Station.uptime, h.clock]
    obtain hk | hk := k.granted
    · rw [hk]; exact h.granted
    · rw [hk, hu]; exact .inr rfl

theorem after {a b c : Station} (k : RakeOnly b c) (h : RakeOnly a b) : RakeOnly a c := h.trans k

/-- An update that leaves pumps, outputs and Start Controller alone. -/
theorem of_same {a b : Station} (c : b.clock = a.clock) (p : b.pumps = a.pumps) (r : b.ctu.pumpRun = a.ctu.pumpRun)
    (s : b.stc = a.stc) : RakeOnly a b :=
  ⟨c, p, r, by rw [s], by rw [s]; exact id, by rw [s]; exact id, by rw [s]; exact id, .inl (by rw [s])⟩

/-- An update of the Start Controller that keeps the shed list and the grant. -/
theorem of_queue (a : Station) {c : StartControl} (s : c.shedPumps = a.stc.shedPumps) (r : c.shedRake = a.stc.shedRake)
    (h : a.stc.capacityHeld = false → c.capacityHeld = false) (g : c.lastGrant = a.stc.lastGrant)
    (q : (∀ e ∈ a.stc.queue, e.motor = .rake) → ∀ e ∈ c.queue, e.motor = .rake) : RakeOnly a { a with stc := c } :=
  ⟨rfl, rfl, rfl, s, by simp [r], h, q, .inl g⟩

theorem report (a : Station) (k : PointNo) (on : Bool) : RakeOnly a (a.report k on) := .of_same (by simp) (by simp) (by simp) (by simp)

theorem rkc (a : Station) (r : Rake) : RakeOnly a { a with rkc := r } := .of_same rfl rfl rfl rfl

theorem askDrive (a : Station) (d : Option Dir) : RakeOnly a (a.askDrive d) := .of_same rfl rfl rfl rfl

theorem ring (a : Station) : RakeOnly a a.ring := .of_queue a rfl rfl id rfl id

end RakeOnly

theorem mem_insertEntry {key : Motor → Nat} {e x : QEntry} {l : List QEntry} (h : x ∈ insertEntry key e l) : x = e ∨ x ∈ l := by
  induction l with
  | nil => exact .inl (by simpa [insertEntry] using h)
  | cons y l ih =>
    unfold insertEntry at h
    split at h
    · simpa using h
    · obtain rfl | h := List.mem_cons.mp h
      · exact .inr (by simp)
      · exact (ih h).imp_right (List.mem_cons_of_mem _)

theorem mem_sortQueue {key : Motor → Nat} {x : QEntry} {l : List QEntry} (h : x ∈ sortQueue key l) : x ∈ l := by
  induction l with
  | nil => exact h
  | cons y l ih =>
    obtain rfl | h := mem_insertEntry h
    · simp
    · exact List.mem_cons_of_mem _ (ih h)

theorem clearTail_motor {x : QEntry} {l : List QEntry} (h : x ∈ clearTail l) : ∃ y ∈ l, x.motor = y.motor := by
  cases l with
  | nil => exact ⟨x, h, rfl⟩
  | cons e l =>
    obtain rfl | h := List.mem_cons.mp h
    · exact ⟨x, by simp, rfl⟩
    · obtain ⟨y, hy, rfl⟩ := List.mem_map.mp h
      exact ⟨y, by simp [hy], rfl⟩

theorem holdHead_motors (h : Hold) (l : List QEntry) : (holdHead h l).map (·.motor) = l.map (·.motor) := by
  cases l <;> rfl

theorem holdHead_motor {h : Hold} {x : QEntry} {l : List QEntry} (hx : x ∈ holdHead h l) : ∃ y ∈ l, x.motor = y.motor := by
  have : x.motor ∈ l.map (·.motor) := by rw [← holdHead_motors h]; exact List.mem_map_of_mem hx
  obtain ⟨y, hy, he⟩ := List.mem_map.mp this
  exact ⟨y, hy, he.symm⟩

namespace RakeOnly

theorem resort (a : Station) : RakeOnly a a.resort := by
  refine .of_queue a rfl rfl id rfl fun hq e he => ?_
  obtain ⟨y, hy, hm⟩ := clearTail_motor he
  rw [hm]; exact hq y (mem_sortQueue hy)

theorem hold (a : Station) (h : Hold) : RakeOnly a (a.hold h) := by
  refine .of_queue a rfl rfl id rfl fun hq e he => ?_
  obtain ⟨y, hy, hm⟩ := holdHead_motor he
  rw [hm]; exact hq y hy

theorem dequeue (a : Station) (m : Motor) : RakeOnly a (a.dequeue m) :=
  .of_queue a rfl rfl id rfl fun hq e he => hq e (List.mem_filter.mp he).1

theorem armSpacing (a : Station) : RakeOnly a a.armSpacing := .of_queue a rfl rfl id rfl id

theorem enqueue (a : Station) : RakeOnly a (a.enqueue .rake) := by
  unfold Station.enqueue
  refine RakeOnly.trans ?_ (ring _)
  split
  · exact .refl _
  · refine (resort _).after (.of_queue a rfl rfl (fun h => h) rfl fun hq e he => ?_)
    obtain he | he := List.mem_append.mp he
    · exact hq e he
    · rw [List.mem_singleton.mp he]

theorem rakeEnter (a : Station) (s : RakeState) : RakeOnly a (a.rakeEnter s) := by
  unfold Station.rakeEnter
  dsimp only
  split
  · exact (rkc a _).trans (askDrive _ _)
  · exact ((rkc a _).trans (askDrive _ _)).trans (ring _)

theorem rakeTestWait (a : Station) : RakeOnly a a.rakeTestWait := by
  unfold Station.rakeTestWait
  split
  · exact (rakeEnter a _).trans (enqueue _)
  · exact .refl _

theorem rakeIdle (a : Station) : RakeOnly a a.rakeIdle := (rakeEnter a _).trans (rakeTestWait _)

theorem rakeJam (a : Station) (c : JamCause) : RakeOnly a (a.rakeJam c) :=
  ((rakeEnter a _).trans (rkc _ _)).trans (report _ _ _)

theorem rakeAtTop (a : Station) : RakeOnly a a.rakeAtTop := by
  unfold Station.rakeAtTop
  split
  · exact (rkc a _).trans (rakeIdle _)
  · exact rakeEnter a _

theorem rakeTrip (a : Station) : RakeOnly a a.rakeTrip := by
  unfold Station.rakeTrip
  split
  · exact rakeJam a _
  · exact (rkc a _).trans (rakeEnter _ _)

theorem rakeBegin (a : Station) (k : Nat) : RakeOnly a (a.rakeBegin k) := rkc a _

theorem rakeDriven (a : Station) : RakeOnly a a.rakeDriven := by
  unfold Station.rakeDriven
  split
  · dsimp only
    split
    · exact (rakeBegin a _).trans (rakeJam _ _)
    · split
      · exact (rakeBegin a _).trans (rakeEnter _ _)
      · exact rakeBegin a _
  · dsimp only
    split
    · exact (rakeBegin a _).trans (rakeAtTop _)
    · split
      · exact (rakeBegin a _).trans (rakeTrip _)
      · exact rakeBegin a _
  · dsimp only
    split
    · exact (rakeBegin a _).trans (rakeEnter _ _)
    · exact rakeBegin a _
  all_goals exact .refl _

theorem grantRake (a : Station) : RakeOnly a a.grantRake := by
  have driveReport (t : Station) : RakeOnly t t.driveReport := by
    unfold Station.driveReport
    split
    · exact rakeDriven t
    · exact .refl _
  unfold Station.grantRake
  split
  · refine RakeOnly.trans ?_ (driveReport _)
    dsimp only
    split
    · exact (rkc a _).trans (rakeEnter _ _)
    · exact ((rkc a _).trans (rkc _ _)).trans (rakeEnter _ _)
  · exact .refl _

theorem holdNewHead (a : Station) : RakeOnly a a.holdNewHead := by
  unfold Station.holdNewHead
  split
  · exact .refl _
  · exact hold a _

theorem testLoadShed (a : Station) : RakeOnly a a.testLoadShed := by
  unfold Station.testLoadShed
  split
  · exact (report _ _ _).after (.of_queue a rfl rfl (fun h => h) rfl fun h => h)
  · exact .refl _

theorem judgeBudget (a : Station) : RakeOnly a a.judgeBudget := by
  unfold Station.judgeBudget
  split
  · split
    · exact .refl _
    · exact .of_queue a rfl rfl (fun h => h) rfl fun h => h
  · exact (report _ _ _).after (.of_queue a rfl rfl (fun _ => rfl) rfl fun h => h)

theorem softResetRake (a : Station) : RakeOnly a a.softResetRake := by
  have rest (t : Station) (x y z : Bool) : RakeOnly t
      (((t.report Alarm.rakeJammed x).report Alarm.skipFull y).report Alarm.screenBlinded z).resort.ring.rakeTestWait :=
    (((((report t _ _).trans (report _ _ _)).trans (report _ _ _)).trans (resort _)).trans (ring _)).trans (rakeTestWait _)
  unfold Station.softResetRake
  split
  case h_6 => exact ((rkc a _).trans (rakeEnter _ _)).trans (rest _ _ _ _)
  case h_7 | h_8 => exact rest _ _ _ _
  all_goals exact (rakeEnter a _).trans (rest _ _ _ _)

/-- A grant of the rake is one at this uptime. -/
theorem grant (a : Station) : RakeOnly a (a.grant .rake) ∧ (a.grant .rake).stc.lastGrant = some a.uptime := by
  have given : RakeOnly (a.dequeue .rake) { a.dequeue .rake with
      stc := { (a.dequeue .rake).stc.unshed .rake with lastGrant := some (a.dequeue .rake).uptime } } :=
    ⟨rfl, rfl, rfl, rfl, fun _ => rfl, fun h => h, fun h => h, .inr rfl⟩
  have before := (dequeue a .rake).trans given
  have after (t : Station) : RakeOnly t ((t.armSpacing).deliverGrant .rake).holdNewHead :=
    ((armSpacing t).trans (grantRake _)).trans (holdNewHead _)
  refine ⟨before.trans (after _), ?_⟩
  obtain h | h := (after _).granted
  · exact h
  · exact h

end RakeOnly

/-! ### The grant test that closes the reset -/

/-- The rake record, the drive and the motors of the queue stay. -/
structure RakeStays (a b : Station) : Prop where
  rkc : b.rkc = a.rkc
  drive : b.ctu.drive = a.ctu.drive
  motors : b.stc.queue.map (·.motor) = a.stc.queue.map (·.motor)

namespace RakeStays

theorem refl (a : Station) : RakeStays a a := ⟨rfl, rfl, rfl⟩

theorem trans {a b c : Station} (h : RakeStays a b) (k : RakeStays b c) : RakeStays a c :=
  ⟨k.rkc.trans h.rkc, k.drive.trans h.drive, k.motors.trans h.motors⟩

theorem after {a b c : Station} (k : RakeStays b c) (h : RakeStays a b) : RakeStays a c := h.trans k

theorem report (a : Station) (k : PointNo) (on : Bool) : RakeStays a (a.report k on) := ⟨by simp, by simp, by simp⟩

theorem hold (a : Station) (h : Hold) : RakeStays a (a.hold h) := ⟨rfl, rfl, holdHead_motors h _⟩

theorem stc (a : Station) {c : StartControl} (h : c.queue = a.stc.queue) : RakeStays a { a with stc := c } :=
  ⟨rfl, rfl, by rw [h]⟩

theorem testLoadShed (a : Station) : RakeStays a a.testLoadShed := by
  unfold Station.testLoadShed
  split
  · exact (report _ _ _).after (.stc a rfl)
  · exact .refl _

theorem judgeBudget (a : Station) : RakeStays a a.judgeBudget := by
  unfold Station.judgeBudget
  split
  · split
    · exact .refl _
    · exact stc a rfl
  · exact (report _ _ _).after (.stc a rfl)

theorem queued {a b : Station} (h : RakeStays a b) (m : Motor) : b.queued m = a.queued m := by
  have key (l : List QEntry) : (l.any fun e => e.motor == m) = (l.map (·.motor)).any (· == m) := by
    rw [List.any_map]; rfl
  simp only [Station.queued, key, h.motors]

end RakeStays

/-- With no motor to shed, no shed pass does anything. -/
theorem shedPasses_none {st : Station} (h : st.shedCandidates = []) (k : Nat) : Station.shedPasses k st = st := by
  have pass : st.shedPass = st := by
    unfold Station.shedPass
    rw [h]
    rfl
  induction k with
  | zero => rfl
  | succ k ih => rw [Station.shedPasses, pass, ih, ite_self]

theorem shedCandidates_none {st : Station} (hp : ∀ n : PumpNo, st.pumps[n].state.inMotion = false)
    (hr : st.rkc.state.inMotion = false) : st.shedCandidates = [] := by
  have hc (n : PumpNo) : st.commits n = false := by rw [Station.commits, hp, Bool.and_false]
  simp [Station.shedCandidates, hc, hr]

/-- What the Start Controller does with the rake as the one motor about. -/
structure RakeServed (a b : Station) : Prop where
  only : RakeOnly a b
  outcome : RakeStays a b ∨ b.stc.lastGrant = some a.uptime
  idle : a.stc.queue = [] → RakeStays a b

theorem RakeServed.of_stays {a b : Station} (h : RakeOnly a b) (k : RakeStays a b) : RakeServed a b := ⟨h, .inl k, fun _ => k⟩

/-- What precedes and follows the grant test moves neither rake nor queue. -/
theorem RakeServed.between {a b c d : Station} (h : RakeOnly a b) (k : RakeStays a b) (m : RakeServed b c) (h' : RakeOnly c d)
    (k' : RakeStays c d) : RakeServed a d := by
  have hu : b.uptime = a.uptime := by simp [Station.uptime, h.clock]
  have hu' : c.uptime = a.uptime := by simp [Station.uptime, m.only.clock, h.clock]
  refine ⟨(h.trans m.only).trans h', ?_, fun hq => (k.trans (m.idle ?_)).trans k'⟩
  · obtain hm | hm := m.outcome
    · exact .inl ((k.trans hm).trans k')
    · right
      obtain hg | hg := h'.granted
      · rw [hg, hm, hu]
      · rw [hg, hu']
  · have := k.motors
    rw [hq] at this
    simpa using this

theorem grantTest_served {st : Station} (hq : ∀ e ∈ st.stc.queue, e.motor = .rake) : RakeServed st st.grantTest := by
  unfold Station.grantTest
  split
  · exact .of_stays (.refl _) (.refl _)
  next e rest he =>
    have held (r : Hold) : RakeServed st (st.hold r) := .of_stays (.hold _ _) (.hold _ _)
    split
    · split
      · rw [hq e (by rw [he]; simp)]
        exact ⟨(RakeOnly.grant st).1, .inr (RakeOnly.grant st).2, fun h => by rw [h] at he; cases he⟩
      · exact held _
    · exact held _

/-- The reset's last Start Controller event, with no pump in motion or queued and the rake at rest. -/
theorem finishStcReset_served {st : Station} (hp : ∀ n : PumpNo, st.pumps[n].state.inMotion = false)
    (hr : st.rkc.state.inMotion = false) (hq : ∀ e ∈ st.stc.queue, e.motor = .rake) : RakeServed st st.finishStcReset := by
  have before : RakeOnly st (((st.report Alarm.genRunning (st.settled .genRun)).report Alarm.capacityHeld false).testLoadShed).ring :=
    (((RakeOnly.report st _ _).trans (.report _ _ _)).trans (.testLoadShed _)).trans (.ring _)
  have stays : RakeStays st (((st.report Alarm.genRunning (st.settled .genRun)).report Alarm.capacityHeld false).testLoadShed).ring :=
    (((RakeStays.report st _ _).trans (.report _ _ _)).trans (.testLoadShed _)).trans (.stc _ rfl)
  unfold Station.finishStcReset Station.settleStc
  generalize ((st.report Alarm.genRunning (st.settled .genRun)).report Alarm.capacityHeld false).testLoadShed = u at before stays
  rw [if_pos (show u.ring.stc.heard = true from rfl), Station.stcEvent]
  dsimp only
  rw [shedPasses_none (shedCandidates_none (fun n => by rw [before.pumps]; exact hp n) (by rw [stays.rkc]; exact hr))]
  refine .between before stays (grantTest_served (before.queue hq)) ?_ ?_
  · exact ((RakeOnly.testLoadShed _).trans (.judgeBudget _)).trans (.of_queue _ rfl rfl id rfl id)
  · exact ((RakeStays.testLoadShed _).trans (.judgeBudget _)).trans (.stc _ rfl)

end Sys2Proof.Machine
end

section
/-! PROOFS. STATION RESET: the records, the curves, the pumps and the open event. -/

namespace Sys2Proof.Machine

/-! ### Curves: the pending commits are abandoned (R44) -/

/-- A reply that turns final moves the two port units alone. -/
theorem Station.finalise_shape (st : Station) (q : PortId) (r : PendingRequest) (x : ReplyStatus) (data : List Byte) :
    ∃ pa pb, st.finalise q r x data = { st with portA := pa, portB := pb } := by
  unfold Station.finalise
  dsimp only
  split
  · cases q
    · exact ⟨_, st.portB, rfl⟩
    · exact ⟨st.portA, _, rfl⟩
  · exact ⟨st.portA, st.portB, rfl⟩

/-- The PENDING reply of the request named turns final. -/
theorem Station.finalise_answers {st : Station} {q : PortId} {r : PendingRequest} (x : ReplyStatus) (data : List Byte)
    (hs : (st.port q).slot.status = .pending) (ha : (st.port q).awaits = some r) :
    ((st.finalise q r x data).port q).slot = ⟨x, (st.port q).slot.code, data⟩ ∧
      ((st.finalise q r x data).port q).awaits = none ∧ ((st.finalise q r x data).port q).readInd = false := by
  unfold Station.finalise
  dsimp only
  rw [if_pos ⟨hs, ha⟩]
  cases q <;> exact ⟨rfl, rfl, rfl⟩

/-- A reply that awaits another request stays. -/
theorem Station.finalise_other {st : Station} {q p : PortId} {r : PendingRequest} (x : ReplyStatus) (data : List Byte)
    (ha : (st.port q).awaits ≠ some r) : (st.finalise p r x data).port q = st.port q := by
  unfold Station.finalise
  dsimp only
  split
  next h =>
    have hne : q ≠ p := fun e => ha (e ▸ h.2)
    cases q <;> cases p <;> first | rfl | exact absurd rfl hne
  · rfl

/-- A curve store with the mark of one curve cleared. -/
def CurveStore.unmarked (c : CurveStore) (id : CurveId) : CurveStore := c.setCurve { c.curve id with mark := none } id

theorem Station.abandon_shape (st : Station) (id : CurveId) :
    ∃ pa pb, st.abandon id = { st with crv := st.crv.unmarked id, portA := pa, portB := pb } := by
  unfold Station.abandon
  dsimp only
  split
  next h =>
    have same : st.crv.unmarked id = st.crv := by
      cases id
      · show { st.crv with volume := { st.crv.volume with mark := none } } = st.crv
        rw [← show st.crv.volume.mark = none from h]
      · show { st.crv with weir := { st.crv.weir with mark := none } } = st.crv
        rw [← show st.crv.weir.mark = none from h]
    exact ⟨st.portA, st.portB, by rw [same]⟩
  next q h => exact Station.finalise_shape _ _ _ _ _

theorem Station.abandon_answers {st : Station} {id : CurveId} {q : PortId} (hm : (st.crv.curve id).mark = some q)
    (hs : (st.port q).slot.status = .pending) (ha : (st.port q).awaits = some (.commit id)) :
    ((st.abandon id).port q).slot = ⟨.refusedState, (st.port q).slot.code, byte id.code ++ flagByte true⟩ ∧
      ((st.abandon id).port q).awaits = none ∧ ((st.abandon id).port q).readInd = false := by
  have port (c : Curve) : (st.setCurve id c).port q = st.port q := by cases q <;> rfl
  unfold Station.abandon
  dsimp only
  rw [hm]
  have := Station.finalise_answers (st := st.setCurve id { st.crv.curve id with mark := none }) .refusedState
    (byte id.code ++ flagByte true) (by rw [port]; exact hs) (by rw [port]; exact ha)
  rwa [port] at this

theorem Station.abandon_other {st : Station} {id : CurveId} {q : PortId} (ha : (st.port q).awaits ≠ some (.commit id)) :
    (st.abandon id).port q = st.port q := by
  have port (c : Curve) : (st.setCurve id c).port q = st.port q := by cases q <;> rfl
  unfold Station.abandon
  dsimp only
  split
  · rfl
  · rw [Station.finalise_other _ _ (by rwa [port]), port]

/-! ### The first stages: the record, the Level Engine, the curves -/

/-- A soft reset up to the Curve Store's part. -/
def Station.resetLevels (st : Station) : Station :=
  ((st.record (.station .softReset)).softResetLevel.abandon .volume).abandon .weir

/-- The outputs go off, and Duty Controller and Start Controller begin afresh. -/
def Station.resetOutputs (st : Station) : Station := st.softResetOutputs.softResetDuty.softResetStc

/-- All pump units in turn. -/
def Station.resetPumps (st : Station) : Station := allPumps.foldl Station.resetPumpUnit st

theorem Station.resetLevels_shape (st : Station) : ∃ pa pb, st.resetLevels = { st with
    rpq := st.rpq.create (.station .softReset)
    lve := { st.lve with ring := [], disagreeRun := 0, nextCycle := st.uptime + 10, fresh := true }
    crv := (st.crv.unmarked .volume).unmarked .weir, portA := pa, portB := pb } := by
  unfold Station.resetLevels
  obtain ⟨pa, pb, h⟩ := (st.record (.station .softReset)).softResetLevel.abandon_shape .volume
  obtain ⟨pa', pb', h'⟩ := ((st.record (.station .softReset)).softResetLevel.abandon .volume).abandon_shape .weir
  exact ⟨pa', pb', by rw [h', h]; rfl⟩

/-- The port that awaits a commit is told that it was abandoned. -/
theorem Station.resetLevels_answers {st : Station} {id : CurveId} {q : PortId} (hm : (st.crv.curve id).mark = some q)
    (hs : (st.port q).slot.status = .pending) (ha : (st.port q).awaits = some (.commit id)) :
    (st.resetLevels.port q).slot = ⟨.refusedState, (st.port q).slot.code, byte id.code ++ flagByte true⟩ ∧
      (st.resetLevels.port q).readInd = false := by
  have port : (st.record (.station .softReset)).softResetLevel.port q = st.port q := by cases q <;> rfl
  unfold Station.resetLevels
  generalize hb : (st.record (.station .softReset)).softResetLevel = b at port
  have crv : b.crv = st.crv := by rw [← hb]; rfl
  rw [← port] at hs ha ⊢
  cases id with
  | volume =>
    obtain ⟨slot, awaits, ind⟩ := Station.abandon_answers (st := b) (id := .volume) (q := q) (by rw [crv]; exact hm) hs ha
    rw [Station.abandon_other (by rw [awaits]; simp)]
    exact ⟨slot, ind⟩
  | weir =>
    have kept : (b.abandon .volume).port q = b.port q := Station.abandon_other (by rw [ha]; simp)
    have mark : ((b.abandon .volume).crv.curve .weir).mark = some q := by
      obtain ⟨pa, pb, h⟩ := b.abandon_shape .volume
      rw [h, ← hm, ← crv]; rfl
    obtain ⟨slot, -, ind⟩ := Station.abandon_answers (id := .weir) mark (by rw [kept]; exact hs) (by rw [kept]; exact ha)
    rw [kept] at slot
    exact ⟨slot, ind⟩

/-! ### The pump units (R114) -/

/-- The record of a pump after its unit's soft reset handling. -/
def PumpRec.softReset (p : PumpRec) (fb : Bool) (now : Nat) : PumpRec :=
  let s := p.state.softReset fb
  { p with
    state := s, demand := false, shed := false, deferred := .none, inhibit := false, minRunElapsed := false,
    timer := p.settings.timerFor now s, stateChange := if s = p.state then p.stateChange else now }

/-- From `a` to `b` only pump records move, the Start Controller hears of it, and points are reported. -/
structure PumpsMove (a b : Station) : Prop where
  run : ControlRun a b
  rkc : b.rkc = a.rkc
  drive : b.ctu.drive = a.ctu.drive
  pumpRun : b.ctu.pumpRun = a.ctu.pumpRun
  stc : ∃ heard, b.stc = { a.stc with heard := heard }

theorem PumpsMove.trans {a b c : Station} (h : PumpsMove a b) (k : PumpsMove b c) : PumpsMove a c where
  run := Relation.ReflTransGen.trans h.run k.run
  rkc := k.rkc.trans h.rkc
  drive := k.drive.trans h.drive
  pumpRun := k.pumpRun.trans h.pumpRun
  stc := by
    obtain ⟨x, hx⟩ := h.stc
    obtain ⟨y, hy⟩ := k.stc
    exact ⟨y, by rw [hy, hx]⟩

theorem reportPump_moves (st : Station) (n : PumpNo) : PumpsMove st (st.reportPump n) := by
  have run := (ControlRun.refl st).reportPump n
  unfold Station.reportPump Station.judgeStartLimited at *
  exact ⟨run, by simp, by simp, by simp, st.stc.heard, by simp⟩

theorem resetPumpUnit_moves (st : Station) (n : PumpNo) : PumpsMove st (st.resetPumpUnit n) :=
  have handled : PumpsMove st (st.softResetPump n) := ⟨(ControlRun.refl st).softResetPump n, rfl, rfl, rfl, true, rfl⟩
  handled.trans (reportPump_moves _ n)

theorem resetPumpUnit_pumps (st : Station) (n : PumpNo) :
    (st.resetPumpUnit n).pumps = st.pumps.set n (st.pumps[n].softReset (st.settled (.runFb n)) st.uptime) := by
  simp only [Station.resetPumpUnit, Station.reportPump, Station.judgeStartLimited, Station.report_pumps]
  rfl

theorem resetPumpUnits {l : List PumpNo} (hl : l.Nodup) (st : Station) : PumpsMove st (l.foldl Station.resetPumpUnit st) ∧
    ∀ m : PumpNo, (l.foldl Station.resetPumpUnit st).pumps[m] =
      if m ∈ l then st.pumps[m].softReset (st.settled (.runFb m)) st.uptime else st.pumps[m] := by
  induction l generalizing st with
  | nil => exact ⟨⟨.refl _, rfl, rfl, rfl, _, rfl⟩, fun m => by simp⟩
  | cons n l ih =>
    obtain ⟨hn, hl⟩ := List.nodup_cons.mp hl
    have first := resetPumpUnit_moves st n
    obtain ⟨rest, recs⟩ := ih hl (st.resetPumpUnit n)
    refine ⟨first.trans rest, fun m => ?_⟩
    rw [List.foldl_cons, recs, first.run.settled, first.run.keepsOuter.uptime, resetPumpUnit_pumps]
    obtain rfl | hm := eq_or_ne m n
    · simp [hn]
    · rw [set_other _ _ hm]; simp [hm]

theorem resetPumps_moves (st : Station) : PumpsMove st st.resetPumps := (resetPumpUnits (List.nodup_finRange 6) st).1

theorem resetPumps_pumps (st : Station) (m : PumpNo) :
    st.resetPumps.pumps[m] = st.pumps[m].softReset (st.settled (.runFb m)) st.uptime := by
  have h := (resetPumpUnits (List.nodup_finRange 6) st).2 m
  rwa [if_pos (List.mem_finRange m)] at h

/-- No pump is in motion after a soft reset. -/
theorem softReset_still (s : PumpState) (fb : Bool) : (s.softReset fb).inMotion = false := by
  cases s <;> cases fb <;> rfl

/-! ### The open event (R146) -/

/-- What the Overflow Monitor's soft reset handling leaves. -/
structure OverflowReset (a b : Station) : Prop where
  shape : ∃ o t q x, b = { a with ofm := o, alt := t, rpq := q, ctu := { a.ctu with beacon := x } }
  quiet : b.ofm.state = .quiet
  counter : b.ofm.eventCounter = a.ofm.eventCounter
  closed : ∀ e, a.ofm.event = some e → (a.ofm.state = .spilling ∨ a.ofm.state = .easing) → b.ofm.event = some { e with
    isOpen := false, closeTime := some a.rpq.stationTime, closeReason := some .reset }
  records : RecordsAdded a.rpq b.rpq
  points : ∀ k, k ≠ Alarm.overflow → b.alt.points[k] = a.alt.points[k]

theorem OverflowReset.report {a b : Station} (h : OverflowReset a b) : OverflowReset a (b.report Alarm.overflow false) where
  shape := by
    obtain ⟨o, t, q, x, h⟩ := h.shape
    obtain ⟨t', q', x', k⟩ := b.report_shape Alarm.overflow false
    exact ⟨o, t', q', x', by rw [k, h]⟩
  quiet := by rw [Station.report_ofm]; exact h.quiet
  counter := by rw [Station.report_ofm]; exact h.counter
  closed := by rw [Station.report_ofm]; exact h.closed
  records := h.records.trans (Station.report_recordsAdded _ _ _)
  points k hk := (Station.report_others _ _ hk).trans (h.points k hk)

theorem closeEvent_resets (st : Station) {e : EventRec} (he : st.ofm.event = some e) :
    OverflowReset st (st.closeEvent e st.rpq.stationTime .reset) := by
  refine OverflowReset.report ⟨⟨_, st.alt, _, st.ctu.beacon, rfl⟩, rfl, rfl, fun e' he' _ => ?_, .create _ (by simp), fun _ _ => rfl⟩
  cases he.symm.trans he'
  rfl

theorem softResetOverflow_resets (st : Station) : OverflowReset st st.softResetOverflow := by
  unfold Station.softResetOverflow
  refine OverflowReset.report ?_
  split
  next e hs he => exact closeEvent_resets st he
  next e hs he => exact closeEvent_resets st he
  next hn hn' =>
    refine ⟨⟨_, st.alt, st.rpq, st.ctu.beacon, rfl⟩, rfl, rfl, fun e he hs => ?_, .refl _, fun _ _ => rfl⟩
    obtain hs | hs := hs
    · exact (hn e hs he).elim
    · exact (hn' e hs he).elim

theorem softResetOverflow_point (st : Station) : st.softResetOverflow.alt.points[Alarm.overflow].condition = false :=
  Station.report_condition _ _ _

/-! ### What the later stages keep -/

/-- From `a` to `b` the clock, the contacts and the blocks that no motor is part of stay; records are added. -/
structure ResetKeeps (a b : Station) : Prop where
  clock : b.clock = a.clock
  lve : b.lve = a.lve
  crv : b.crv = a.crv
  trb : b.trb = a.trb
  portA : b.portA = a.portA
  portB : b.portB = a.portB
  consts : b.consts = a.consts
  sst : b.sst = a.sst
  inputs : ∀ i, b.ctu.input i = a.ctu.input i
  duty : a.dty.altMark = false → b.dty = a.dty
  records : RecordsAdded a.rpq b.rpq
  points : ∀ k, ¬controlPoint k → k ≠ Alarm.overflow → b.alt.points[k] = a.alt.points[k]

theorem ControlRun.resetKeeps {a b : Station} (h : ControlRun a b) : ResetKeeps a b where
  clock := h.keepsOuter.clock
  lve := h.keepsOuter.lve
  crv := h.keepsOuter.crv
  trb := h.keepsOuter.trb
  portA := h.keepsOuter.portA
  portB := h.keepsOuter.portB
  consts := h.keepsOuter.consts
  sst := h.keepsOuter.sst
  inputs := h.keepsOuter.inputs
  duty := h.duty_unmarked
  records := h.recordsAdded
  points _ hk _ := h.points hk

theorem OverflowReset.resetKeeps {a b : Station} (h : OverflowReset a b) : ResetKeeps a b := by
  obtain ⟨o, t, q, x, shape⟩ := h.shape
  have input (i : Input) : b.ctu.input i = a.ctu.input i := by rw [shape]; cases i <;> rfl
  exact ⟨by rw [shape], by rw [shape], by rw [shape], by rw [shape], by rw [shape], by rw [shape], by rw [shape], by rw [shape],
    input, fun _ => by rw [shape], h.records, fun k _ => h.points k⟩

theorem ResetKeeps.trans {a b c : Station} (h : ResetKeeps a b) (k : ResetKeeps b c) : ResetKeeps a c where
  clock := k.clock.trans h.clock
  lve := k.lve.trans h.lve
  crv := k.crv.trans h.crv
  trb := k.trb.trans h.trb
  portA := k.portA.trans h.portA
  portB := k.portB.trans h.portB
  consts := k.consts.trans h.consts
  sst := k.sst.trans h.sst
  inputs i := (k.inputs i).trans (h.inputs i)
  duty m := (k.duty (by rw [h.duty m]; exact m)).trans (h.duty m)
  records := h.records.trans k.records
  points j hc ho := (k.points j hc ho).trans (h.points j hc ho)

theorem RecordsAdded.stationTime {a b : ReportQueue} (h : RecordsAdded a b) : b.stationTime = a.stationTime := by
  obtain ⟨l, -, rfl⟩ := h
  induction l generalizing a with
  | nil => rfl
  | cons r l ih => exact ih (a := a.create r)

end Sys2Proof.Machine
end

section
/-! PROOFS. STATION RESET: the rake (R133), and the whole reset. -/

namespace Sys2Proof.Machine

/-! ### The rake's soft reset handling -/

/-- The rake's record after its soft reset handling, before R121 is applied (R133). -/
def Rake.softReset (k : Rake) (now : Nat) : Rake :=
  match k.state with
  | .idle | .jammed => k
  | .discharging => { k with
    state := .idle, stateChange := now, timer := none, drivePending := false
    cyclesToday := satAdd Config.top16 k.cyclesToday 1, cyclesTotal := satAdd Config.top32 k.cyclesTotal 1
    lastCycleEnd := some now, intervalOrigin := now }
  | .waiting | .lowering | .raising | .reversing | .resting => { k with
    state := .idle, stateChange := now, timer := none, drivePending := false }

/-- R121 takes the rake from its soft reset into WAITING. -/
def Station.rakeQueues (st : Station) : Prop :=
  st.rkc.state ≠ .jammed ∧ (st.rkc.homing = true ∨ (st.rkc.demand = true ∧ st.settled .skipFull = false))

theorem Rake.softReset_demand (k : Rake) (now : Nat) : (k.softReset now).demand = k.demand ∧ (k.softReset now).homing = k.homing := by
  unfold Rake.softReset
  split <;> exact ⟨rfl, rfl⟩

theorem Rake.softReset_state (k : Rake) (now : Nat) :
    (k.state ≠ .jammed ∧ (k.softReset now).state = .idle) ∨ (k.state = .jammed ∧ (k.softReset now).state = .jammed) := by
  unfold Rake.softReset
  split <;> simp_all

/-- The rake's record moves to `k`; the drive and the empty queue stay. -/
structure RakeTo (k : Rake) (a b : Station) : Prop where
  rkc : b.rkc = k
  drive : b.ctu.drive = a.ctu.drive
  queue : a.stc.queue = [] → b.stc.queue = []
  clock : b.clock = a.clock
  settled : ∀ i, b.settled i = a.settled i

namespace RakeTo

variable {k : Rake} {a b : Station} (h : RakeTo k a b)

include h

theorem report (j : PointNo) (on : Bool) : RakeTo k a (b.report j on) :=
  ⟨by simpa using h.rkc, by simpa using h.drive, by simpa using h.queue, by simpa using h.clock, by simpa using h.settled⟩

theorem resort : RakeTo k a b.resort where
  rkc := h.rkc
  drive := h.drive
  queue hq := by
    show clearTail (sortQueue _ b.stc.queue) = []
    rw [h.queue hq]; rfl
  clock := h.clock
  settled := h.settled

theorem ring : RakeTo k a b.ring := ⟨h.rkc, h.drive, h.queue, h.clock, h.settled⟩

end RakeTo

/-- An entry into a state that asks for no direction leaves a drive that is at rest. -/
theorem rakeEnter_resting {st : Station} {s : RakeState} (hs : s.direction = none)
    (hd : ∀ now, st.ctu.drive.request now none = st.ctu.drive) : RakeTo { st.rkc with
      state := s, stateChange := st.uptime, timer := st.consts.entryTimer st.uptime s, drivePending := s.inMotion }
      st (st.rakeEnter s) := by
  have entered : RakeTo { st.rkc with
      state := s, stateChange := st.uptime, timer := st.consts.entryTimer st.uptime s, drivePending := s.inMotion }
      st (({ st with rkc := { st.rkc with
        state := s, stateChange := st.uptime, timer := st.consts.entryTimer st.uptime s, drivePending := s.inMotion } }).askDrive
          s.direction) :=
    ⟨rfl, by rw [hs]; exact hd _, fun h => h, rfl, fun i => by cases i <;> rfl⟩
  unfold Station.rakeEnter
  dsimp only
  split
  · exact entered
  · exact entered.ring

theorem softResetRake_tests {st : Station} (hd : ∀ now, st.ctu.drive.request now none = st.ctu.drive) :
    ∃ u, RakeTo (st.rkc.softReset st.uptime) st u ∧ st.softResetRake = u.rakeTestWait := by
  have reported {k : Rake} {t : Station} (x y z : Bool) (h : RakeTo k st t) :
      RakeTo k st (((t.report Alarm.rakeJammed x).report Alarm.skipFull y).report Alarm.screenBlinded z).resort.ring :=
    (((h.report _ _).report _ _).report _ _).resort.ring
  have entered {t : Station} (x y z : Bool) (h : RakeTo (st.rkc.softReset st.uptime) st t)
      (e : st.softResetRake =
        (((t.report Alarm.rakeJammed x).report Alarm.skipFull y).report Alarm.screenBlinded z).resort.ring.rakeTestWait) :
      ∃ u, RakeTo (st.rkc.softReset st.uptime) st u ∧ st.softResetRake = u.rakeTestWait := ⟨_, reported x y z h, e⟩
  unfold Station.softResetRake Rake.softReset at *
  cases hs : st.rkc.state <;> rw [hs] at entered
  case idle | jammed => exact entered _ _ _ ⟨rfl, rfl, fun h => h, rfl, fun _ => rfl⟩ rfl
  case discharging =>
    exact entered _ _ _ (t := st.countCycle.rakeEnter .idle) (by
      obtain ⟨rkc, drive, queue, clock, settled⟩ := rakeEnter_resting (st := st.countCycle) (s := .idle) rfl hd
      exact ⟨rkc, drive, queue, clock, settled⟩) rfl
  all_goals exact entered _ _ _ (t := st.rakeEnter .idle) (rakeEnter_resting rfl hd) rfl

/-- The rake keeps what its soft reset handling gave when R121 does not take it into WAITING. -/
theorem softResetRake_rests {st : Station} (hd : ∀ now, st.ctu.drive.request now none = st.ctu.drive)
    (hq : st.stc.queue = []) (hw : ¬st.rakeQueues) : st.softResetRake.rkc = st.rkc.softReset st.uptime ∧
      st.softResetRake.ctu.drive = st.ctu.drive ∧ st.softResetRake.stc.queue = [] := by
  obtain ⟨u, ⟨rkc, drive, queue, clock, settled⟩, h⟩ := softResetRake_tests hd
  have stay : ¬(u.rkc.state = .idle ∧ u.rakeMayWait) := by
    obtain ⟨demand, homing⟩ := st.rkc.softReset_demand st.uptime
    rintro ⟨hs, hm⟩
    simp only [Station.rakeMayWait, rkc, settled, demand, homing, Bool.or_eq_true, Bool.and_eq_true, Bool.not_eq_true'] at hm
    obtain ⟨hj, -⟩ | ⟨-, hj⟩ := st.rkc.softReset_state st.uptime
    · exact hw ⟨hj, hm⟩
    · rw [rkc, hj] at hs; cases hs
  rw [h, Station.rakeTestWait, if_neg stay]
  exact ⟨rkc, drive, queue hq⟩

/-- Otherwise the rake waits, and stands in the queue. -/
theorem softResetRake_waits {st : Station} (hd : ∀ now, st.ctu.drive.request now none = st.ctu.drive)
    (hq : st.stc.queue = []) (hw : st.rakeQueues) : st.softResetRake.rkc.state = .waiting ∧
      st.softResetRake.rkc.demand = st.rkc.demand ∧ st.softResetRake.rkc.homing = st.rkc.homing ∧
      st.softResetRake.ctu.drive = st.ctu.drive ∧ st.softResetRake.queued .rake = true := by
  obtain ⟨u, ⟨rkc, drive, queue, clock, settled⟩, h⟩ := softResetRake_tests hd
  obtain ⟨demand, homing⟩ := st.rkc.softReset_demand st.uptime
  have goes : u.rkc.state = .idle ∧ u.rakeMayWait := by
    obtain ⟨-, hj⟩ | ⟨hj, -⟩ := st.rkc.softReset_state st.uptime
    · refine ⟨by rw [rkc, hj], ?_⟩
      simpa only [Station.rakeMayWait, rkc, settled, demand, homing, Bool.or_eq_true, Bool.and_eq_true, Bool.not_eq_true'] using hw.2
    · exact absurd hj hw.1
  obtain ⟨rkc', drive', queue', -, -⟩ := rakeEnter_resting (st := u) (s := .waiting) rfl (by rw [drive]; exact hd)
  have alone (t : Station) (ht : t.stc.queue = []) : (t.enqueue .rake).rkc = t.rkc ∧ (t.enqueue .rake).ctu = t.ctu ∧
      (t.enqueue .rake).queued .rake = true := by
    unfold Station.enqueue
    rw [if_neg (by simp [Station.queued, ht])]
    refine ⟨rfl, rfl, ?_⟩
    simp [Station.queued, Station.ring, Station.resort, ht, sortQueue, insertEntry, clearTail]
  obtain ⟨er, ec, eq⟩ := alone (u.rakeEnter .waiting) (queue' (queue hq))
  rw [h, Station.rakeTestWait, if_pos goes, er, ec, rkc']
  exact ⟨rfl, by rw [← demand, ← rkc], by rw [← homing, ← rkc], drive'.trans drive, eq⟩

theorem softResetRake_still {st : Station} (hd : ∀ now, st.ctu.drive.request now none = st.ctu.drive)
    (hq : st.stc.queue = []) : st.softResetRake.rkc.state.inMotion = false := by
  by_cases hw : st.rakeQueues
  · rw [(softResetRake_waits hd hq hw).1]; rfl
  · rw [(softResetRake_rests hd hq hw).1]
    obtain ⟨-, hj⟩ | ⟨-, hj⟩ := st.rkc.softReset_state st.uptime <;> rw [hj] <;> rfl

end Sys2Proof.Machine
end

section
/-! PROOFS. STATION RESET, put together (R188). -/

namespace Sys2Proof.Machine

/-! ### The stages -/

/-- A soft reset up to the rake's part. -/
def Station.resetMotors (st : Station) : Station := st.resetLevels.resetOutputs.resetPumps

/-- What the stages before the pump units leave. -/
structure ResetBegun (a b : Station) : Prop where
  clock : b.clock = a.clock
  lve : b.lve = { a.lve with ring := [], disagreeRun := 0, nextCycle := a.uptime + 10, fresh := true }
  crv : b.crv = (a.crv.unmarked .volume).unmarked .weir
  trb : b.trb = a.trb
  ofm : b.ofm = a.ofm
  rkc : b.rkc = a.rkc
  pumps : b.pumps = a.pumps
  points : b.alt = a.alt
  records : b.rpq = a.rpq.create (.station .softReset)
  consts : b.consts = a.consts
  sst : b.sst = a.sst
  duty : b.dty = a.softResetDuty.dty
  inputs : ∀ i, b.ctu.input i = a.ctu.input i
  outputs : b.ctu.pumpRun = Vector.replicate 6 false ∧ b.ctu.drive = a.ctu.drive.softReset a.clock
  stc : b.stc.queue = [] ∧ b.stc.shedPumps = Vector.replicate 6 false ∧ b.stc.shedRake = false ∧ b.stc.capacityHeld = false
  ports : ∀ q, b.port q = a.resetLevels.port q

theorem resetOutputs_begun (a : Station) : ResetBegun a a.resetLevels.resetOutputs := by
  have ports (t : Station) (q : PortId) : t.resetOutputs.port q = t.port q := by cases q <;> rfl
  have inputs (t : Station) (i : Input) : t.resetOutputs.ctu.input i = t.ctu.input i := by cases i <;> rfl
  have kept (i : Input) : a.resetLevels.ctu.input i = a.ctu.input i := by
    obtain ⟨pa, pb, h⟩ := a.resetLevels_shape
    rw [h]
  obtain ⟨pa, pb, h⟩ := a.resetLevels_shape
  constructor
  case ports => exact ports _
  case inputs => exact fun i => (inputs _ i).trans (kept i)
  all_goals rw [h]
  case outputs => exact ⟨rfl, rfl⟩
  case stc => exact ⟨rfl, rfl, rfl, rfl⟩
  all_goals rfl

theorem Station.softReset_stages (a : Station) :
    a.softReset = a.resetMotors.softResetRake.softResetOverflow.finishStcReset.redriveBeacon := rfl

theorem Drive.softReset_rests (d : Drive) (clock now : Nat) : (d.softReset clock).request now none = d.softReset clock := by
  cases d <;> rfl

/-- The station as the rake's soft reset handling finds it. -/
structure MotorsReset (a b : Station) : Prop where
  clock : b.clock = a.clock
  rkc : b.rkc = a.rkc
  settled : ∀ i, b.settled i = a.settled i
  drive : b.ctu.drive = a.ctu.drive.softReset a.clock
  pumpRun : b.ctu.pumpRun = Vector.replicate 6 false
  stc : b.stc.queue = [] ∧ b.stc.shedPumps = Vector.replicate 6 false ∧ b.stc.shedRake = false ∧ b.stc.capacityHeld = false
  pumps : ∀ n : PumpNo, b.pumps[n] = a.pumps[n].softReset (a.settled (.runFb n)) a.uptime

theorem resetMotors_resets (a : Station) : MotorsReset a a.resetMotors := by
  have begun := resetOutputs_begun a
  have moves := resetPumps_moves a.resetLevels.resetOutputs
  have settled (i : Input) : a.resetLevels.resetOutputs.settled i = a.settled i := by simp only [Station.settled, begun.inputs]
  have uptime : a.resetLevels.resetOutputs.uptime = a.uptime := by simp only [Station.uptime, begun.clock]
  unfold Station.resetMotors
  refine ⟨moves.run.keepsOuter.clock.trans begun.clock, moves.rkc.trans begun.rkc,
    fun i => (moves.run.settled i).trans (settled i), moves.drive.trans begun.outputs.2, moves.pumpRun.trans begun.outputs.1, ?_,
    fun n => ?_⟩
  · obtain ⟨x, hx⟩ := moves.stc
    rw [hx]
    exact begun.stc
  · rw [resetPumps_pumps, settled, uptime, begun.pumps]

theorem MotorsReset.uptime {a b : Station} (h : MotorsReset a b) : b.uptime = a.uptime := by simp only [Station.uptime, h.clock]

theorem MotorsReset.driveRests {a b : Station} (h : MotorsReset a b) (now : Nat) : b.ctu.drive.request now none = b.ctu.drive := by
  rw [h.drive, Drive.softReset_rests]

theorem OverflowReset.stays {a b : Station} (h : OverflowReset a b) : RakeOnly a b ∧ RakeStays a b := by
  obtain ⟨o, t, q, x, shape⟩ := h.shape
  rw [shape]
  exact ⟨.of_same rfl rfl rfl rfl, rfl, rfl, rfl⟩

/-- With the pumps stopped, the rake alone is served by what follows. -/
theorem softReset_served (a : Station) : RakeOnly a.resetMotors a.softReset ∧
    (RakeStays a.resetMotors.softResetRake a.softReset ∨ a.softReset.stc.lastGrant = some a.uptime) ∧
    (a.resetMotors.softResetRake.stc.queue = [] → RakeStays a.resetMotors.softResetRake a.softReset) := by
  have motors := resetMotors_resets a
  obtain ⟨queue, -⟩ := motors.stc
  have raked := RakeOnly.softResetRake a.resetMotors
  obtain ⟨spilled, still⟩ := (softResetOverflow_resets a.resetMotors.softResetRake).stays
  have before := raked.trans spilled
  have served : RakeServed a.resetMotors.softResetRake.softResetOverflow
      a.resetMotors.softResetRake.softResetOverflow.finishStcReset := by
    refine finishStcReset_served (fun n => ?_) ?_ (before.queue (by simp [queue]))
    · rw [before.pumps, motors.pumps]; exact softReset_still _ _
    · rw [still.rkc]; exact softResetRake_still motors.driveRests queue
  have uptime : a.resetMotors.softResetRake.softResetOverflow.uptime = a.uptime := by
    simp only [Station.uptime, before.clock, motors.clock]
  have beacon (t : Station) : RakeOnly t t.redriveBeacon ∧ RakeStays t t.redriveBeacon :=
    ⟨.of_same rfl rfl rfl rfl, rfl, rfl, rfl⟩
  rw [Station.softReset_stages]
  refine ⟨(before.trans served.only).trans (beacon _).1, ?_, fun hq => (still.trans (served.idle ?_)).trans (beacon _).2⟩
  · obtain h | h := served.outcome
    · exact .inl ((still.trans h).trans (beacon _).2)
    · exact .inr (h.trans (by rw [uptime]))
  · have := still.motors
    rw [hq] at this
    simpa using this

/-- After the first stages the blocks that no motor is part of stay. -/
theorem softReset_keeps (a : Station) : ResetKeeps a.resetLevels.resetOutputs a.softReset := by
  have spilled := (softResetOverflow_resets a.resetMotors.softResetRake).resetKeeps
  have rake := ((resetPumps_moves a.resetLevels.resetOutputs).run.softResetRake).resetKeeps
  have finish := ((ControlRun.refl a.resetMotors.softResetRake.softResetOverflow).finishStcReset).resetKeeps
  have beacon (t : Station) : ResetKeeps t t.redriveBeacon :=
    ⟨rfl, rfl, rfl, rfl, rfl, rfl, rfl, rfl, fun i => by cases i <;> rfl, fun _ => rfl, .refl _, fun _ _ _ => rfl⟩
  rw [Station.softReset_stages]
  exact ((rake.trans spilled).trans finish).trans (beacon _)

/-- The open event is closed by the reset. -/
theorem softReset_overflow (a : Station) : a.softReset.ofm.state = .quiet ∧ a.softReset.ofm.eventCounter = a.ofm.eventCounter ∧
    (∀ e, a.ofm.event = some e → (a.ofm.state = .spilling ∨ a.ofm.state = .easing) → a.softReset.ofm.event = some { e with
      isOpen := false, closeTime := some a.rpq.stationTime, closeReason := some .reset }) ∧
    a.softReset.alt.points[Alarm.overflow].condition = false ∧ a.softReset.rpq.stationTime = a.rpq.stationTime := by
  have begun := resetOutputs_begun a
  have rake : ControlRun a.resetLevels.resetOutputs a.resetMotors.softResetRake := by
    unfold Station.resetMotors
    exact (resetPumps_moves _).run.softResetRake
  have ofm : a.resetMotors.softResetRake.ofm = a.ofm := rake.keepsOuter.ofm.trans begun.ofm
  have time : a.resetMotors.softResetRake.rpq.stationTime = a.rpq.stationTime := by
    rw [rake.recordsAdded.stationTime, begun.records]
    rfl
  obtain ⟨-, quiet, counter, closed, records, -⟩ := softResetOverflow_resets a.resetMotors.softResetRake
  have point := softResetOverflow_point a.resetMotors.softResetRake
  have finish := (ControlRun.refl a.resetMotors.softResetRake.softResetOverflow).finishStcReset
  have beacon (t : Station) : t.redriveBeacon.ofm = t.ofm ∧ t.redriveBeacon.alt = t.alt ∧ t.redriveBeacon.rpq = t.rpq :=
    ⟨rfl, rfl, rfl⟩
  obtain ⟨bo, ba, bq⟩ := beacon a.resetMotors.softResetRake.softResetOverflow.finishStcReset
  have time' := (records.trans finish.recordsAdded).stationTime
  rw [Station.softReset_stages, bo, ba, bq, finish.keepsOuter.ofm, finish.points (k := Alarm.overflow) (by unfold controlPoint; decide), time']
  rw [ofm, time] at closed
  rw [ofm] at counter
  exact ⟨quiet, counter, closed, point, time⟩

/-- The pumps after the reset. -/
theorem softReset_pumps (a : Station) (n : PumpNo) : a.softReset.ctu.pumpRun[n] = false ∧
    a.softReset.pumps[n] = a.pumps[n].softReset (a.settled (.runFb n)) a.uptime ∧
    a.softReset.queued (.pump n) = false ∧ a.softReset.stc.shedPumps[n] = false := by
  obtain ⟨-, -, -, -, pumpRun, ⟨queue, shed, -⟩, pumps⟩ := resetMotors_resets a
  obtain ⟨only, -⟩ := softReset_served a
  refine ⟨by rw [only.pumpRun, pumpRun]; simp, by rw [only.pumps, pumps], ?_, by rw [only.shedPumps, shed]; simp⟩
  have rakes := only.queue (by simp [queue])
  simp only [Station.queued, List.any_eq_false, beq_iff_eq]
  intro e he
  rw [rakes e he]
  simp

/-- The rake after the reset: at rest as R133 leaves it, or waiting in the queue, or granted at this uptime. -/
theorem softReset_rake (a : Station) :
    (¬a.rakeQueues → a.softReset.rkc = a.rkc.softReset a.uptime ∧ a.softReset.ctu.drive = a.ctu.drive.softReset a.clock) ∧
    (a.rakeQueues → (a.softReset.rkc.state = .waiting ∧ a.softReset.queued .rake = true ∧ a.softReset.rkc.demand = a.rkc.demand ∧
      a.softReset.rkc.homing = a.rkc.homing ∧ a.softReset.ctu.drive = a.ctu.drive.softReset a.clock) ∨
      a.softReset.stc.lastGrant = some a.uptime) := by
  have motors := resetMotors_resets a
  obtain ⟨queue, -⟩ := motors.stc
  obtain ⟨-, outcome, idle⟩ := softReset_served a
  have same : a.resetMotors.rakeQueues ↔ a.rakeQueues := by
    unfold Station.rakeQueues
    rw [motors.rkc, motors.settled]
  constructor
  · intro hw
    obtain ⟨rkc, drive, none⟩ := softResetRake_rests motors.driveRests queue (mt same.mp hw)
    have stays := idle none
    rw [motors.rkc, motors.uptime] at rkc
    rw [motors.drive] at drive
    exact ⟨stays.rkc.trans rkc, stays.drive.trans drive⟩
  · intro hw
    obtain ⟨state, demand, homing, drive, queued⟩ := softResetRake_waits motors.driveRests queue (same.mpr hw)
    rw [motors.rkc] at demand homing
    rw [motors.drive] at drive
    refine outcome.imp_left fun stays => ?_
    rw [stays.queued, stays.rkc, stays.drive]
    exact ⟨state, queued, demand, homing, drive⟩

/-- The blocks that no motor is part of, after the reset. -/
theorem softReset_blocks (a : Station) : a.softReset.clock = a.clock ∧ a.softReset.consts = a.consts ∧ a.softReset.sst = a.sst ∧
    a.softReset.trb = a.trb ∧ (∀ i, a.softReset.ctu.input i = a.ctu.input i) ∧
    a.softReset.lve = { a.lve with ring := [], disagreeRun := 0, nextCycle := a.uptime + 10, fresh := true } ∧
    (∀ id, a.softReset.crv.curve id = { a.crv.curve id with mark := none }) ∧ a.softReset.dty = a.softResetDuty.dty ∧
    RecordsAdded (a.rpq.create (.station .softReset)) a.softReset.rpq ∧ a.softReset.ctu.beacon = a.softReset.alt.beaconDemand ∧
    (∀ k, ¬controlPoint k → k ≠ Alarm.overflow → a.softReset.alt.points[k] = a.alt.points[k]) ∧
    ∀ q, a.softReset.port q = a.resetLevels.port q := by
  have begun := resetOutputs_begun a
  have keeps := softReset_keeps a
  refine ⟨keeps.clock.trans begun.clock, keeps.consts.trans begun.consts, keeps.sst.trans begun.sst, keeps.trb.trans begun.trb,
    fun i => (keeps.inputs i).trans (begun.inputs i), keeps.lve.trans begun.lve, fun id => ?_,
    (keeps.duty (by rw [begun.duty]; rfl)).trans begun.duty, begun.records ▸ keeps.records, ?_,
    fun k hc ho => (keeps.points k hc ho).trans (by rw [begun.points]), fun q => ?_⟩
  · rw [keeps.crv, begun.crv]
    cases id <;> rfl
  · have beacon (t : Station) : t.redriveBeacon.ctu.beacon = t.redriveBeacon.alt.beaconDemand := rfl
    rw [Station.softReset_stages, beacon]
  · rw [← begun.ports]
    cases q
    · exact keeps.portA
    · exact keeps.portB

/-! ### The request -/

theorem exec_stationReset {s : State} {p : PortId} {rest ps : List Byte} (h : s.st.admits p .configure (.fixed 0) rest ps) :
    exec (.stationReset p rest) s =
      .next { s with st := (s.st.rise p (1 + rest.length)).softReset.putReply p 0x6A (.done []) } :=
  State.on_intake_admits (k := ⟨0x6A, .configure, .fixed 0⟩) (fun _ st => (.done [], st.softReset)) h

theorem levelPoints_kept {k : PointNo} (hk : k ∈ [Alarm.highLevel, Alarm.floatHigh, Alarm.lowLevel, Alarm.levelDisagree,
    Alarm.wellAFailed, Alarm.wellBFailed, Alarm.sourceFloat, Alarm.inletFailed, Alarm.weirFailed, Alarm.curveRange,
    Alarm.arithSaturated, Alarm.settingsDefault]) : ¬controlPoint k ∧ k ≠ Alarm.overflow := by
  unfold controlPoint
  revert k
  decide

/-- A port whose reply is PENDING is not the one the request came in by. -/
theorem softReset_answers {s : State} {p q : PortId} {rest ps : List Byte} {id : CurveId}
    (h : s.st.admits p .configure (.fixed 0) rest ps) (hm : (s.st.crv.curve id).mark = some q)
    (hs : (s.st.port q).slot.status = .pending) (ha : (s.st.port q).awaits = some (.commit id)) :
    let t := (s.st.rise p (1 + rest.length)).softReset.putReply p 0x6A (.done [])
    (t.port q).slot = ⟨.refusedState, (s.st.port q).slot.code, byte id.code ++ flagByte true⟩ ∧ (t.port q).readInd = false := by
  intro t
  have hne : p ≠ q := by
    rintro rfl
    have idle := h.1.2
    simp [Station.slotPending, hs] at idle
  have risen : (s.st.rise p (1 + rest.length)).port q = s.st.port q := Station.setPort_other _ _ _ _ hne
  have answered := Station.resetLevels_answers (st := s.st.rise p (1 + rest.length)) (id := id) (q := q)
    (by rw [Station.rise_crv]; exact hm) (by rw [risen]; exact hs) (by rw [risen]; exact ha)
  obtain ⟨-, -, -, -, -, -, -, -, -, -, -, ports⟩ := softReset_blocks (s.st.rise p (1 + rest.length))
  have kept : t.port q = (s.st.rise p (1 + rest.length)).resetLevels.port q :=
    (Station.setPort_other _ _ _ _ hne).trans (ports q)
  rwa [kept, ← risen]

/-- Settles O9: the blocks' handling stage by stage, each moving what it owns. -/
theorem stationResetHandlesEveryBlock : Obligations.StationResetHandlesEveryBlock := by
  intro s p rest ps h
  obtain ⟨clock, consts, sst, trb, inputs, lve, crv, duty, records, beacon, points, -⟩ :=
    softReset_blocks (s.st.rise p (1 + rest.length))
  have pumps := softReset_pumps (s.st.rise p (1 + rest.length))
  obtain ⟨quiet, counter, closed, point, time⟩ := softReset_overflow (s.st.rise p (1 + rest.length))
  obtain ⟨only, -⟩ := softReset_served (s.st.rise p (1 + rest.length))
  obtain ⟨-, -, -, -, -, ⟨-, -, shedRake, capacity⟩, -⟩ := resetMotors_resets (s.st.rise p (1 + rest.length))
  have rake := softReset_rake (s.st.rise p (1 + rest.length))
  have answers := fun id q => @softReset_answers s p q rest ps id h
  have shed := only.shedRake shedRake
  have held := only.capacity capacity
  refine ⟨_, exec_stationReset h, rfl, ?_⟩
  generalize (s.st.rise p (1 + rest.length)).softReset = t at *
  simp only [Station.rise_clock, Station.rise_consts, Station.rise_sst, Station.rise_trb, Station.rise_ctu, Station.rise_lve,
    Station.rise_crv, Station.rise_rpq, Station.rise_alt, Station.rise_pumps, Station.rise_ofm, Station.rise_rkc,
    Station.rakeQueues, Station.settled, Station.uptime, Station.queued] at *
  simp only [Station.putReply_clock, Station.putReply_consts, Station.putReply_sst, Station.putReply_trb, Station.putReply_ctu,
    Station.putReply_lve, Station.putReply_crv, Station.putReply_rpq, Station.putReply_alt, Station.putReply_pumps,
    Station.putReply_ofm, Station.putReply_rkc, Station.putReply_stc, Station.putReply_dty]
  obtain ⟨rests, waits⟩ := rake
  refine ⟨by rw [Station.putReply, Station.setPort_self]; rfl, clock, consts, sst, trb, inputs, by rw [lve], by rw [lve],
    by rw [lve], by rw [lve], by rw [lve], by rw [lve], by rw [lve], by rw [lve], by rw [lve], crv, answers, fun n => ?_, shed,
    held, ?_, records, beacon, fun k hk => points k (levelPoints_kept hk).1 (levelPoints_kept hk).2, ⟨fun hj => ?_,
    fun hj hd hw => ?_, fun hd hw => ?_, fun hw => ?_, waits⟩, quiet, counter, closed, point, time⟩
  · obtain ⟨run, rec, queued, shedPump⟩ := pumps n
    rw [rec]
    exact ⟨run, rfl, rfl, rfl, rfl, rfl, rfl, rfl, rfl, rfl, queued, shedPump⟩
  · rw [duty, Station.softResetDuty, Station.rise_dty]
  · rw [(rests fun w => w.1 hj).1, Rake.softReset, hj]
  · rw [(rests hw).1, Rake.softReset]
    cases hs : s.st.rkc.state <;> simp_all
  · rw [(rests hw).1, Rake.softReset, hd]
    rfl
  · rw [(rests hw).2]
    cases hs : s.st.ctu.drive <;> rfl

end Sys2Proof.Machine
end

section
/-! PROOFS. The stages of a measurement cycle (R1): what each makes of the Level Engine. -/

namespace Sys2Proof.Machine

/-! ### A stage of the Level Engine -/

/-- From `a` to `b` the Level Engine becomes `l`; points are reported, those of the sticky flags or any, and nothing else moves. -/
structure LevelStage (l : LevelEngine) (a b : Station) : Prop where
  shape : ∃ t q x, b = { a with lve := l, alt := t, rpq := q, ctu := { a.ctu with beacon := x } }
  summary : b.rpq.summary = a.rpq.summary
  stationTime : b.rpq.stationTime = a.rpq.stationTime

namespace LevelStage

variable {l m : LevelEngine} {a b c : Station}

theorem refl (a : Station) : LevelStage a.lve a a := ⟨⟨a.alt, a.rpq, a.ctu.beacon, rfl⟩, rfl, rfl⟩

theorem assign (a : Station) (l : LevelEngine) : LevelStage l a { a with lve := l } :=
  ⟨⟨a.alt, a.rpq, a.ctu.beacon, rfl⟩, rfl, rfl⟩

theorem trans (h : LevelStage l a b) (k : LevelStage m b c) : LevelStage m a c where
  shape := by
    obtain ⟨_, _, _, h⟩ := h.shape
    obtain ⟨t, q, x, k⟩ := k.shape
    exact ⟨t, q, x, by rw [k, h]⟩
  summary := k.summary.trans h.summary
  stationTime := k.stationTime.trans h.stationTime

theorem lve (h : LevelStage l a b) : b.lve = l := by obtain ⟨t, q, x, h⟩ := h.shape; rw [h]
theorem clock (h : LevelStage l a b) : b.clock = a.clock := by obtain ⟨t, q, x, h⟩ := h.shape; rw [h]
theorem crv (h : LevelStage l a b) : b.crv = a.crv := by obtain ⟨t, q, x, h⟩ := h.shape; rw [h]
theorem dty (h : LevelStage l a b) : b.dty = a.dty := by obtain ⟨t, q, x, h⟩ := h.shape; rw [h]
theorem stc (h : LevelStage l a b) : b.stc = a.stc := by obtain ⟨t, q, x, h⟩ := h.shape; rw [h]
theorem pumps (h : LevelStage l a b) : b.pumps = a.pumps := by obtain ⟨t, q, x, h⟩ := h.shape; rw [h]
theorem rkc (h : LevelStage l a b) : b.rkc = a.rkc := by obtain ⟨t, q, x, h⟩ := h.shape; rw [h]
theorem ofm (h : LevelStage l a b) : b.ofm = a.ofm := by obtain ⟨t, q, x, h⟩ := h.shape; rw [h]
theorem trb (h : LevelStage l a b) : b.trb = a.trb := by obtain ⟨t, q, x, h⟩ := h.shape; rw [h]
theorem consts (h : LevelStage l a b) : b.consts = a.consts := by obtain ⟨t, q, x, h⟩ := h.shape; rw [h]
theorem sst (h : LevelStage l a b) : b.sst = a.sst := by obtain ⟨t, q, x, h⟩ := h.shape; rw [h]
theorem pumpRun (h : LevelStage l a b) : b.ctu.pumpRun = a.ctu.pumpRun := by obtain ⟨t, q, x, h⟩ := h.shape; rw [h]
theorem drive (h : LevelStage l a b) : b.ctu.drive = a.ctu.drive := by obtain ⟨t, q, x, h⟩ := h.shape; rw [h]
theorem port (h : LevelStage l a b) (p : PortId) : b.port p = a.port p := by
  obtain ⟨t, q, x, h⟩ := h.shape; rw [h]; cases p <;> rfl
theorem input (h : LevelStage l a b) (i : Input) : b.ctu.input i = a.ctu.input i := by
  obtain ⟨t, q, x, h⟩ := h.shape; rw [h]; cases i <;> rfl
theorem settled (h : LevelStage l a b) (i : Input) : b.settled i = a.settled i := by simp only [Station.settled, h.input]
theorem uptime (h : LevelStage l a b) : b.uptime = a.uptime := by simp only [Station.uptime, h.clock]

theorem report (h : LevelStage l a b) (k : PointNo) (on : Bool) : LevelStage l a (b.report k on) where
  shape := by
    obtain ⟨_, _, _, h⟩ := h.shape
    obtain ⟨t, q, x, k⟩ := b.report_shape k on
    exact ⟨t, q, x, by rw [k, h]⟩
  summary := by rw [Station.report_summary, h.summary]
  stationTime := by rw [Station.report_stationTime, h.stationTime]

theorem judgeArith (h : LevelStage l a b) : LevelStage l a b.judgeArith := (h.report _ _).report _ _

end LevelStage

/-- The Level Engine with flags set. -/
def LevelEngine.raised (l : LevelEngine) (f : FlagSet) : LevelEngine := { l with arith := { l.arith with flags := l.arith.flags.or f } }

theorem LevelEngine.raised_clear (l : LevelEngine) : l.raised .clear = l := by
  simp [LevelEngine.raised, FlagSet.or, FlagSet.clear]

theorem raiseFlags_stage (st : Station) (f : FlagSet) : LevelStage (st.lve.raised f) st (st.raiseFlags f) :=
  (LevelStage.assign st _).judgeArith

/-- Flags raised on a condition that holds when there is one to raise. -/
theorem raiseFlags_when (st : Station) (f : FlagSet) {c : Prop} [Decidable c] (h : ¬c → f = .clear) :
    LevelStage (st.lve.raised f) st (if c then st.raiseFlags f else st) := by
  split
  · exact raiseFlags_stage st f
  next hc =>
    rw [h hc, LevelEngine.raised_clear]
    exact .refl st

/-- Both points of the sticky flags aside, raising flags reports nothing. -/
theorem raiseFlags_when_others (st : Station) (f : FlagSet) {c : Prop} [Decidable c] {k : PointNo} (hc : k ≠ Alarm.curveRange)
    (hs : k ≠ Alarm.arithSaturated) : (if c then st.raiseFlags f else st).alt.points[k] = st.alt.points[k] := by
  split
  · exact Station.raiseFlags_others st f hc hs
  · rfl

/-! ### Sampling and the vote -/

/-- The Level Engine with its four channels through a cycle. -/
def LevelEngine.sampled (l : LevelEngine) (a b i w : BitVec 12) : LevelEngine :=
  { l with
    wellA := l.wellA.cycle l.arith.mode a, wellB := l.wellB.cycle l.arith.mode b
    inlet := l.inlet.cycle l.arith.mode i, weir := l.weir.cycle l.arith.mode w }

theorem sampleStage_stage (st : Station) (a b i w : BitVec 12) :
    LevelStage ((st.lve.sampled a b i w).raised { FlagSet.clear with scaleClamp := (st.lve.sampled a b i w).anyClamped }) st
      (st.sampleStage a b i w) := by
  have raised (t : Station) : LevelStage (t.lve.raised { FlagSet.clear with scaleClamp := t.lve.anyClamped }) t
      (if t.lve.anyClamped then t.raiseFlags { FlagSet.clear with scaleClamp := true } else t) := by
    split
    next h => rw [h]; exact raiseFlags_stage t _
    next h =>
      rw [Bool.eq_false_of_not_eq_true h, show { FlagSet.clear with scaleClamp := false } = FlagSet.clear from rfl,
        LevelEngine.raised_clear]
      exact .refl t
  exact (LevelStage.assign st (st.lve.sampled a b i w)).trans (raised { st with lve := st.lve.sampled a b i w })

theorem voteStage_stage (st : Station) (v : Vote) : LevelStage { st.lve with
    ring := if crossesFloat st.lve.lastSource v.source then [] else st.lve.ring
    disagreeRun := if v.disagreeing then min 30 (st.lve.disagreeRun + 1) else 0 } st (st.voteStage v) := by
  unfold Station.voteStage
  cases crossesFloat st.lve.lastSource v.source
  · exact .assign st _
  · exact .assign st _

/-! ### Readings of the curves -/

/-- The flags of a reading, none of an absent one. -/
def readingFlags (r : Option Interp) : FlagSet := { FlagSet.clear with curveLow := r.any (·.low), curveHigh := r.any (·.high) }

theorem readActive_stage (st : Station) (c : CurveCopy) (x : Option Nat) :
    (st.readActive c x).1 = (x.map (c.interp st.lve.arith.mode)).map (·.value) ∧
    LevelStage (st.lve.raised (readingFlags (x.map (c.interp st.lve.arith.mode)))) st (st.readActive c x).2 := by
  cases x with
  | none => exact ⟨rfl, by rw [show readingFlags _ = FlagSet.clear from rfl, LevelEngine.raised_clear]; exact .refl st⟩
  | some x =>
    refine ⟨rfl, raiseFlags_when st _ fun h => ?_⟩
    obtain ⟨hl, hh⟩ : (c.interp st.lve.arith.mode x).low = false ∧ (c.interp st.lve.arith.mode x).high = false := by simpa using h
    simp [readingFlags, hl, hh, FlagSet.clear]

/-! ### The inflow -/

theorem sum_filter_map {α : Type} (l : List α) (p : α → Bool) (f : α → Nat) :
    (l.map fun x => if p x then f x else 0).sum = ((l.filter p).map f).sum := by
  induction l with
  | nil => rfl
  | cons x l ih => cases h : p x <;> simp [h, ih]

/-- The flags of an inflow sum, none of an absent one (R22). -/
def sumFlags (z : Option Int) : FlagSet :=
  { FlagSet.clear with inflowNeg := z.any fun z => decide (z < 0), saturated := z.any fun z => decide (65535 < z) }

/-- The inflow sum over the ring as it stands. -/
def Station.inflowTotal (st : Station) (v : Option Nat) : Option Int :=
  inflowSum st.lve.arith.mode st.consts.inflowWindow v st.pumpsFlow st.lve.ring

theorem inflowStage_stage (st : Station) (v : Option Nat) : (st.inflowStage v).1 = (st.inflowTotal v).map inflowValue ∧
    LevelStage { st.lve.raised (sumFlags (st.inflowTotal v)) with ring := pushCycle st.lve.ring ⟨v, st.pumpsFlow⟩ } st
      (st.inflowStage v).2 := by
  have pushed {t : Station} {l : LevelEngine} (h : LevelStage l st t) (hr : l.ring = st.lve.ring) :
      LevelStage { l with ring := pushCycle st.lve.ring ⟨v, st.pumpsFlow⟩ } st
        { t with lve := { t.lve with ring := pushCycle t.lve.ring ⟨v, st.pumpsFlow⟩ } } := by
    rw [h.lve, hr]
    exact h.trans (.assign t _)
  refine ⟨rfl, ?_⟩
  unfold Station.inflowStage Station.inflowTotal
  dsimp only
  generalize inflowSum st.lve.arith.mode st.consts.inflowWindow v st.pumpsFlow st.lve.ring = sum
  cases sum with
  | none =>
    have clear : LevelStage (st.lve.raised (sumFlags none)) st st := by
      rw [show sumFlags none = FlagSet.clear from rfl, LevelEngine.raised_clear]
      exact .refl st
    exact pushed clear rfl
  | some z =>
    refine pushed (raiseFlags_when st (inflowFlags z) fun h => ?_) rfl
    simp only [not_or] at h
    simp [inflowFlags, FlagSet.clear, h.1, h.2]

/-! ### The alarm stage -/

/-- The conditions that the alarm stage reports, in point order (R27, R154). -/
def Station.levelReports (st : Station) (v : Vote) : List (PointNo × Bool) :=
  [(Alarm.highLevel, (st.levelConditions v.w).1)] ++
  (if st.lve.fresh then [(Alarm.floatHigh, st.settled .floatHigh)] else []) ++
  [(Alarm.lowLevel, (st.levelConditions v.w).2), (Alarm.levelDisagree, st.lve.disagreeRun == 30),
    (Alarm.wellAFailed, !st.lve.wellA.state.usable), (Alarm.wellBFailed, !st.lve.wellB.state.usable),
    (Alarm.sourceFloat, v.source == .float), (Alarm.inletFailed, !st.lve.inlet.state.usable),
    (Alarm.weirFailed, !st.lve.weir.state.usable)]

/-- Reports made in turn. -/
def Station.reports (st : Station) (l : List (PointNo × Bool)) : Station := l.foldl (fun t r => t.report r.1 r.2) st

/-- The Level Engine with its two level conditions judged. -/
def Station.levelled (st : Station) (v : Vote) : LevelEngine :=
  { st.lve with highLevel := (st.levelConditions v.w).1, lowLevel := (st.levelConditions v.w).2 }

theorem alarmStage_eq (st : Station) (v : Vote) :
    st.alarmStage v = (({ st with lve := st.levelled v }).reports (st.levelReports v)).judgeArith := by
  have settled (t : Station) (l : LevelEngine) (i : Input) : ({ t with lve := l } : Station).settled i = t.settled i := by
    cases i <;> rfl
  unfold Station.alarmStage Station.levelReports Station.reports Station.levelled
  cases hf : st.lve.fresh with
  | true =>
    simp only [Station.report_lve, Station.report_settled, hf, if_true, settled, List.foldl_append, List.foldl_cons, List.foldl_nil]
  | false =>
    simp only [Station.report_lve, Station.report_settled, hf, settled, List.foldl_append, List.foldl_cons, List.foldl_nil,
      Bool.false_eq_true, if_false]

theorem LevelStage.reports {l : LevelEngine} {a b : Station} (h : LevelStage l a b) (r : List (PointNo × Bool)) :
    LevelStage l a (b.reports r) := by
  induction r generalizing b with
  | nil => exact h
  | cons x r ih => exact ih (h.report _ _)

theorem alarmStage_stage (st : Station) (v : Vote) : LevelStage (st.levelled v) st (st.alarmStage v) := by
  rw [alarmStage_eq]
  exact ((LevelStage.assign st _).reports _).judgeArith

theorem reports_others {k : PointNo} {l : List (PointNo × Bool)} (h : k ∉ l.map (·.1)) (st : Station) :
    (st.reports l).alt.points[k] = st.alt.points[k] := by
  induction l generalizing st with
  | nil => rfl
  | cons r l ih =>
    obtain ⟨hk, hl⟩ : k ≠ r.1 ∧ k ∉ l.map (·.1) := by simpa using h
    exact (ih hl _).trans (Station.report_others _ _ hk)

/-- A condition reported once is the one the point holds. -/
theorem reports_condition {k : PointNo} {on : Bool} {l : List (PointNo × Bool)} (hd : (l.map (·.1)).Nodup) (hm : (k, on) ∈ l)
    (st : Station) : (st.reports l).alt.points[k].condition = on := by
  induction l generalizing st with
  | nil => cases hm
  | cons r l ih =>
    obtain ⟨hr, hl⟩ := List.nodup_cons.mp hd
    obtain rfl | hm := List.mem_cons.mp hm
    · show ((st.report k on).reports l).alt.points[k].condition = on
      rw [reports_others hr, Station.report_condition]
    · exact ih hl hm _

theorem levelReports_nodup (st : Station) (v : Vote) : ((st.levelReports v).map (·.1)).Nodup := by
  unfold Station.levelReports
  cases st.lve.fresh
  · exact show List.Nodup [Alarm.highLevel, Alarm.lowLevel, Alarm.levelDisagree, Alarm.wellAFailed, Alarm.wellBFailed,
      Alarm.sourceFloat, Alarm.inletFailed, Alarm.weirFailed] by decide
  · exact show List.Nodup [Alarm.highLevel, Alarm.floatHigh, Alarm.lowLevel, Alarm.levelDisagree, Alarm.wellAFailed,
      Alarm.wellBFailed, Alarm.sourceFloat, Alarm.inletFailed, Alarm.weirFailed] by decide

theorem alarmStage_judged (st : Station) (v : Vote) : (st.alarmStage v).arithJudged := by
  rw [alarmStage_eq]
  exact Station.judgeArith_judged _

/-- Every condition that the alarm stage reports stands at its point. -/
theorem alarmStage_condition {st : Station} {v : Vote} {k : PointNo} {on : Bool} (h : (k, on) ∈ st.levelReports v)
    (hc : k ≠ Alarm.curveRange) (hs : k ≠ Alarm.arithSaturated) : (st.alarmStage v).alt.points[k].condition = on := by
  rw [alarmStage_eq, Station.judgeArith_others _ hc hs]
  exact reports_condition (levelReports_nodup st v) h _

/-- FLOAT_HIGH is reported at the first cycle after a reset alone (R27). -/
theorem alarmStage_floatHigh (st : Station) (v : Vote) : (st.alarmStage v).alt.points[Alarm.floatHigh].condition =
    if st.lve.fresh then st.settled .floatHigh else st.alt.points[Alarm.floatHigh].condition := by
  cases hf : st.lve.fresh with
  | true => exact alarmStage_condition (by simp [Station.levelReports, hf]) (by decide) (by decide)
  | false =>
    have absent : Alarm.floatHigh ∉ (st.levelReports v).map (·.1) := by
      unfold Station.levelReports
      rw [hf]
      exact show Alarm.floatHigh ∉ [Alarm.highLevel, Alarm.lowLevel, Alarm.levelDisagree, Alarm.wellAFailed, Alarm.wellBFailed,
        Alarm.sourceFloat, Alarm.inletFailed, Alarm.weirFailed] by decide
    rw [alarmStage_eq, Station.judgeArith_others _ (by decide) (by decide), reports_others absent]
    rfl

/-! ### The earlier stages leave the points of the level conditions -/

/-- From `a` to `b` only the points of the sticky flags move. -/
def ArithPointsOnly (a b : Station) : Prop :=
  ∀ k, k ≠ Alarm.curveRange → k ≠ Alarm.arithSaturated → b.alt.points[k] = a.alt.points[k]

theorem ArithPointsOnly.trans {a b c : Station} (h : ArithPointsOnly a b) (k : ArithPointsOnly b c) : ArithPointsOnly a c :=
  fun j hc hs => (k j hc hs).trans (h j hc hs)

theorem sampleStage_points (st : Station) (a b i w : BitVec 12) : ArithPointsOnly st (st.sampleStage a b i w) :=
  fun _ hc hs => raiseFlags_when_others ({ st with lve := st.lve.sampled a b i w }) _ hc hs

theorem voteStage_points (st : Station) (v : Vote) : ArithPointsOnly st (st.voteStage v) := by
  intro k _ _
  unfold Station.voteStage
  cases crossesFloat st.lve.lastSource v.source <;> rfl

theorem readActive_points (st : Station) (c : CurveCopy) (x : Option Nat) : ArithPointsOnly st (st.readActive c x).2 := by
  intro k hc hs
  cases x with
  | none => rfl
  | some x => exact raiseFlags_when_others st _ hc hs

theorem inflowStage_points (st : Station) (v : Option Nat) : ArithPointsOnly st (st.inflowStage v).2 := by
  intro k hc hs
  unfold Station.inflowStage
  dsimp only
  split
  · rfl
  · exact raiseFlags_when_others st _ hc hs

end Sys2Proof.Machine
end

section
/-! PROOFS. The commit stage of a measurement cycle (R40 to R42). -/

namespace Sys2Proof.Machine

/-- A curve once its pending commit has been applied. -/
def Curve.committed (c : Curve) : Curve :=
  { active := if c.mark = none then c.active else c.shadow, shadow := c.shadow, mark := none }

theorem Curve.committed_unmarked {c : Curve} (h : c.mark = none) : c.committed = c := by
  unfold Curve.committed
  rw [if_pos h, ← h]

theorem Station.swap_shape (st : Station) (id : CurveId) :
    ∃ pa pb, st.swap id = { st with crv := st.crv.setCurve (st.crv.curve id).committed id, portA := pa, portB := pb } := by
  unfold Station.swap
  dsimp only
  split
  next h =>
    have same : st.crv.setCurve (st.crv.curve id).committed id = st.crv := by
      rw [Curve.committed_unmarked h]
      cases id <;> rfl
    exact ⟨st.portA, st.portB, by rw [same]⟩
  next q h =>
    have moved : (st.crv.curve id).committed = { st.crv.curve id with active := (st.crv.curve id).shadow, mark := none } := by
      simp [Curve.committed, h]
    rw [moved]
    exact Station.finalise_shape _ _ _ _ _

/-- The port that awaits a commit is answered (R40). -/
theorem Station.swap_answers {st : Station} {id : CurveId} {q : PortId} (hm : (st.crv.curve id).mark = some q)
    (hs : (st.port q).slot.status = .pending) (ha : (st.port q).awaits = some (.commit id)) :
    ((st.swap id).port q).slot = ⟨.done, (st.port q).slot.code,
      byte id.code ++ byte (st.crv.curve id).shadow.n ++ be 4 (shownUptime st.uptime)⟩ ∧
    ((st.swap id).port q).awaits = none ∧ ((st.swap id).port q).readInd = false := by
  have port (c : Curve) : (st.setCurve id c).port q = st.port q := by cases q <;> rfl
  unfold Station.swap
  dsimp only
  rw [hm]
  have := Station.finalise_answers (st := st.setCurve id
    { st.crv.curve id with active := (st.crv.curve id).shadow, mark := none }) .done
    (byte id.code ++ byte (st.crv.curve id).shadow.n ++ be 4 (shownUptime st.uptime))
    (by rw [port]; exact hs) (by rw [port]; exact ha)
  rwa [port] at this

theorem Station.swap_other {st : Station} {id : CurveId} {q : PortId} (ha : (st.port q).awaits ≠ some (.commit id)) :
    (st.swap id).port q = st.port q := by
  have port (c : Curve) : (st.setCurve id c).port q = st.port q := by cases q <;> rfl
  unfold Station.swap
  dsimp only
  split
  · rfl
  · rw [Station.finalise_other _ _ (by rwa [port]), port]

/-- The commit of VOLUME, and the ring that it empties. -/
def Station.commitVolume (st : Station) : Station := if st.crv.volume.mark.isSome then (st.swap .volume).emptyRing else st

/-- The commit of WEIR, and the notice of it. -/
def Station.commitWeir (st : Station) : Station := if st.crv.weir.mark.isSome then (st.swap .weir).curveNotice else st

theorem Station.commitStage_eq (st : Station) : st.commitStage = st.commitVolume.commitWeir := rfl

theorem Station.commitVolume_shape (st : Station) : ∃ pa pb, st.commitVolume = { st with
    lve := { st.lve with ring := if st.crv.volume.mark = none then st.lve.ring else [] }
    crv := { st.crv with volume := st.crv.volume.committed }, portA := pa, portB := pb } := by
  unfold Station.commitVolume
  cases h : st.crv.volume.mark with
  | none => exact ⟨st.portA, st.portB, by rw [Curve.committed_unmarked h]; rfl⟩
  | some q =>
    obtain ⟨pa, pb, e⟩ := st.swap_shape .volume
    exact ⟨pa, pb, by rw [e]; rfl⟩

theorem Station.curveNotice_shape (st : Station) : ∃ o, st.curveNotice = { st with ofm := o } := by
  unfold Station.curveNotice
  split
  · exact ⟨_, rfl⟩
  · exact ⟨_, rfl⟩
  · exact ⟨st.ofm, rfl⟩

theorem Station.curveNotice_port (st : Station) (q : PortId) : st.curveNotice.port q = st.port q := by
  obtain ⟨o, h⟩ := st.curveNotice_shape
  rw [h]
  cases q <;> rfl

theorem Station.curveNotice_ofm (st : Station) :
    (st.ofm.event = none ∨ st.ofm.state = .quiet ∨ st.ofm.state = .onset → st.curveNotice.ofm = st.ofm) ∧
    ∀ e, st.ofm.event = some e → st.ofm.state = .spilling ∨ st.ofm.state = .easing →
      st.curveNotice.ofm = { st.ofm with event := some { e with flags := { e.flags with curveChanged := true } } } := by
  unfold Station.curveNotice
  split
  next e hs he => exact ⟨by simp [hs, he], fun e' he' _ => by cases he.symm.trans he'; rfl⟩
  next e hs he => exact ⟨by simp [hs, he], fun e' he' _ => by cases he.symm.trans he'; rfl⟩
  next hn hn' =>
    refine ⟨fun _ => rfl, fun e he hs => ?_⟩
    obtain hs | hs := hs
    · exact (hn e hs he).elim
    · exact (hn' e hs he).elim

theorem Station.commitWeir_unmarked {st : Station} (h : st.crv.weir.mark = none) : st.commitWeir = st := by
  simp [Station.commitWeir, h]

theorem Station.commitWeir_marked {st : Station} (h : st.crv.weir.mark ≠ none) : st.commitWeir = (st.swap .weir).curveNotice := by
  rw [Station.commitWeir, if_pos (Option.isSome_iff_ne_none.mpr h)]

theorem Station.commitWeir_shape (st : Station) : ∃ o pa pb, st.commitWeir = { st with
    crv := { st.crv with weir := st.crv.weir.committed }, ofm := o, portA := pa, portB := pb } := by
  by_cases h : st.crv.weir.mark = none
  · exact ⟨st.ofm, st.portA, st.portB, by rw [Station.commitWeir_unmarked h, Curve.committed_unmarked h]⟩
  · obtain ⟨pa, pb, e⟩ := st.swap_shape .weir
    obtain ⟨o, e'⟩ := (st.swap .weir).curveNotice_shape
    exact ⟨o, pa, pb, by rw [Station.commitWeir_marked h, e', e]; rfl⟩

/-- What the commit stage leaves. -/
structure Committed (a b : Station) : Prop where
  shape : ∃ o pa pb, b = { a with
    lve := { a.lve with ring := if a.crv.volume.mark = none then a.lve.ring else [] }
    crv := ⟨a.crv.volume.committed, a.crv.weir.committed⟩, ofm := o, portA := pa, portB := pb }
  unnoticed : a.crv.weir.mark = none ∨ a.ofm.event = none ∨ a.ofm.state = .quiet ∨ a.ofm.state = .onset → b.ofm = a.ofm
  noticed : a.crv.weir.mark ≠ none → ∀ e, a.ofm.event = some e → a.ofm.state = .spilling ∨ a.ofm.state = .easing →
    b.ofm = { a.ofm with event := some { e with flags := { e.flags with curveChanged := true } } }
  answers : ∀ (id : CurveId) (q : PortId), (a.crv.curve id).mark = some q → (a.port q).slot.status = .pending →
    (a.port q).awaits = some (.commit id) → (b.port q).slot = ⟨.done, (a.port q).slot.code,
      byte id.code ++ byte (a.crv.curve id).shadow.n ++ be 4 (shownUptime a.uptime)⟩ ∧
    (b.port q).awaits = none ∧ (b.port q).readInd = false

theorem commitWeir_port {st : Station} {q : PortId} (ha : (st.port q).awaits ≠ some (.commit .weir)) :
    (st.commitWeir).port q = st.port q := by
  unfold Station.commitWeir
  split
  · rw [Station.curveNotice_port, Station.swap_other ha]
  · rfl

theorem commitStage_committed (a : Station) : Committed a a.commitStage := by
  rw [Station.commitStage_eq]
  obtain ⟨pa, pb, first⟩ := a.commitVolume_shape
  have mark : a.commitVolume.crv.weir = a.crv.weir := by rw [first]
  have ofm : a.commitVolume.ofm = a.ofm := by rw [first]
  have uptime : a.commitVolume.uptime = a.uptime := by rw [first]; rfl
  have swapped : a.crv.weir.mark ≠ none → a.commitVolume.commitWeir.ofm = (a.commitVolume.swap .weir).curveNotice.ofm := fun h => by
    rw [Station.commitWeir_marked (by rw [mark]; exact h)]
  have ofm' : (a.commitVolume.swap .weir).ofm = a.ofm := by
    obtain ⟨_, _, h⟩ := a.commitVolume.swap_shape .weir
    rw [h, ← ofm]
  obtain ⟨quiet, open_⟩ := (a.commitVolume.swap .weir).curveNotice_ofm
  rw [ofm'] at quiet open_
  refine ⟨?_, fun h => ?_, fun h => ?_, fun id q hm hs ha => ?_⟩
  · obtain ⟨o, pa', pb', h⟩ := a.commitVolume.commitWeir_shape
    exact ⟨o, pa', pb', by rw [h, first]⟩
  · by_cases hw : a.crv.weir.mark = none
    · rw [Station.commitWeir_unmarked (by rw [mark]; exact hw), ofm]
    · rw [swapped hw]
      exact quiet (h.resolve_left hw)
  · rw [swapped h]
    exact open_
  · cases id with
    | volume =>
      have vol : a.commitVolume.port q = (a.swap .volume).port q := by
        unfold Station.commitVolume
        rw [if_pos (by rw [show a.crv.volume.mark = some q from hm]; rfl)]
        cases q <;> rfl
      obtain ⟨slot, awaits, ind⟩ := Station.swap_answers hm hs ha
      rw [← vol] at slot awaits ind
      rw [commitWeir_port (by rw [awaits]; simp)]
      exact ⟨slot, awaits, ind⟩
    | weir =>
      have kept : a.commitVolume.port q = a.port q := by
        have other : (a.swap .volume).port q = a.port q := Station.swap_other (by rw [ha]; simp)
        unfold Station.commitVolume
        split
        · rw [← other]; cases q <;> rfl
        · rfl
      have marked : a.crv.weir.mark = some q := hm
      rw [Station.commitWeir_marked (by rw [mark, marked]; simp), Station.curveNotice_port]
      have marked' : (a.commitVolume.crv.curve .weir).mark = some q := (congrArg Curve.mark mark).trans marked
      have answered := Station.swap_answers marked' (by rw [kept]; exact hs)
        (by rw [kept]; exact ha)
      rw [kept, uptime, show a.commitVolume.crv.curve .weir = a.crv.curve .weir from mark] at answered
      exact answered

end Sys2Proof.Machine
end

section
/-! PROOFS. What a measurement cycle publishes (R1, R24). -/

namespace Sys2Proof.Machine

/-! ### The figures of a cycle -/

/-- What a cycle reckons from its four counts. -/
structure CycleFigures where
  sampled : LevelEngine
  vote    : Vote
  volume  : Option Interp
  flow    : Option Interp
  past    : List CycleRec
  qOut    : Nat
  inflow  : Option Int

/-- The figures of a cycle that begins at `st` (R3 to R6, R15, R18 to R23). -/
def Station.figures (st : Station) (a b i w : BitVec 12) : CycleFigures :=
  let sampled := st.lve.sampled a b i w
  let m := st.lve.arith.mode
  let vote := wellVote m st.consts.disagree sampled.wellA.offered sampled.wellB.offered
  let volume := vote.w.map (st.crv.volume.committed.active.interp m)
  let past := if st.crv.volume.mark ≠ none ∨ crossesFloat st.lve.lastSource vote.source = true then [] else st.lve.ring
  { sampled := sampled, vote := vote, volume := volume, past := past, qOut := st.pumpsFlow
    flow := sampled.weir.offered.map (st.crv.weir.committed.active.interp m)
    inflow := inflowSum m st.consts.inflowWindow (volume.map (·.value)) st.pumpsFlow past }

namespace CycleFigures

variable (f : CycleFigures)

/-- The sticky flags that the cycle sets (R11). -/
def flags : FlagSet where
  scaleClamp := f.sampled.anyClamped
  curveLow := f.volume.any (·.low) || f.flow.any (·.low)
  curveHigh := f.volume.any (·.high) || f.flow.any (·.high)
  inflowNeg := f.inflow.any fun z => decide (z < 0)
  saturated := f.inflow.any fun z => decide (65535 < z)

/-- The update that the cycle publishes. -/
def update (uptime time : Nat) : LevelUpdate :=
  ⟨uptime, time, f.vote.w, f.vote.source, f.volume.map (·.value), f.inflow.map inflowValue, f.sampled.inlet.offered,
    f.sampled.weir.state, f.sampled.weir.offered, f.flow.map (·.value)⟩

/-- The Level Engine at the end of the alarm stage. -/
def engine (levels : Bool × Bool) : LevelEngine :=
  { f.sampled with
    arith := { f.sampled.arith with flags := f.sampled.arith.flags.or f.flags }
    disagreeRun := if f.vote.disagreeing then min 30 (f.sampled.disagreeRun + 1) else 0
    ring := pushCycle f.past ⟨f.volume.map (·.value), f.qOut⟩
    highLevel := levels.1, lowLevel := levels.2 }

/-- The conditions that the cycle reports; `float` is the settled FLOAT_HIGH. -/
def reports (levels : Bool × Bool) (float : Bool) : List (PointNo × Bool) :=
  [(Alarm.highLevel, levels.1)] ++ (if f.sampled.fresh then [(Alarm.floatHigh, float)] else []) ++
  [(Alarm.lowLevel, levels.2), (Alarm.levelDisagree, (f.engine levels).disagreeRun == 30),
    (Alarm.wellAFailed, !f.sampled.wellA.state.usable), (Alarm.wellBFailed, !f.sampled.wellB.state.usable),
    (Alarm.sourceFloat, f.vote.source == .float), (Alarm.inletFailed, !f.sampled.inlet.state.usable),
    (Alarm.weirFailed, !f.sampled.weir.state.usable)]

end CycleFigures

/-- The flags of the stages, set one after another, are those of the cycle. -/
theorem CycleFigures.flags_collected (f : CycleFigures) (g : FlagSet) : g.or f.flags =
    (((g.or { FlagSet.clear with scaleClamp := f.sampled.anyClamped }).or (readingFlags f.volume)).or (readingFlags f.flow)).or
      (sumFlags f.inflow) := by
  simp [FlagSet.or, CycleFigures.flags, readingFlags, sumFlags, FlagSet.clear, Bool.or_assoc]

/-! ### The stages put together -/

theorem pumpsFlow_congr {a b : Station} (hp : b.pumps = a.pumps) (hs : ∀ i, b.settled i = a.settled i) :
    b.pumpsFlow = a.pumpsFlow := by
  simp only [Station.pumpsFlow, hp, hs]

theorem levelConditions_congr {a b : Station} (hd : b.dty = a.dty) (hs : ∀ i, b.settled i = a.settled i)
    (hh : b.lve.highLevel = a.lve.highLevel) (hl : b.lve.lowLevel = a.lve.lowLevel) (w : Option Nat) :
    b.levelConditions w = a.levelConditions w := by
  cases w <;> simp only [Station.levelConditions, hd, hs, hh, hl]

theorem Committed.kept {a c : Station} (h : Committed a c) : c.clock = a.clock ∧ c.dty = a.dty ∧ c.pumps = a.pumps ∧
    c.stc = a.stc ∧ c.rkc = a.rkc ∧ c.trb = a.trb ∧ c.consts = a.consts ∧ c.ctu = a.ctu ∧ c.rpq = a.rpq ∧ c.alt = a.alt ∧
    c.sst = a.sst ∧ c.crv = ⟨a.crv.volume.committed, a.crv.weir.committed⟩ ∧
    c.lve = { a.lve with ring := if a.crv.volume.mark = none then a.lve.ring else [] } := by
  obtain ⟨o, pa, pb, h⟩ := h.shape
  rw [h]
  exact ⟨rfl, rfl, rfl, rfl, rfl, rfl, rfl, rfl, rfl, rfl, rfl, rfl, rfl⟩

/-- The stages of a cycle after the commit stage: the stations, the vote, and the three figures that they pass on. -/
structure CycleStages (a b i w : BitVec 12) (c c₁ c₂ c₃ c₄ c₅ : Station) (v : Vote) (x y z : Option Nat) : Prop where
  sample : c₁ = c.sampleStage a b i w
  vote : v = c₁.vote
  voted : c₂ = c₁.voteStage v
  volume : c₂.readActive c₂.crv.volume.active v.w = (x, c₃)
  flow : c₃.readActive c₃.crv.weir.active c₃.lve.weir.offered = (y, c₄)
  inflow : c₄.inflowStage x = (z, c₅)

theorem formUpdate_stages (st : Station) (a b i w : BitVec 12) : ∃ c₁ c₂ c₃ c₄ c₅ v x y z,
    CycleStages a b i w st.commitStage c₁ c₂ c₃ c₄ c₅ v x y z ∧
    (st.formUpdate a b i w).2 = c₅.alarmStage v ∧
    (st.formUpdate a b i w).1 = ⟨(c₅.alarmStage v).uptime, (c₅.alarmStage v).rpq.stationTime, v.w, v.source, x, z,
      (c₅.alarmStage v).lve.inlet.offered, (c₅.alarmStage v).lve.weir.state, c₃.lve.weir.offered, y⟩ := by
  unfold Station.formUpdate
  extract_lets c₁ v c₂ volume c₃ head flow c₄ qIn c₅
  have stages : CycleStages a b i w st.commitStage c₁ c₂ c₃ c₄ qIn.2 v volume.1 flow.1 qIn.1 := by
    constructor
    case volume | flow | inflow => exact Prod.mk.eta.symm
    all_goals with_reducible rfl
  refine ⟨c₁, c₂, c₃, c₄, qIn.2, v, volume.1, flow.1, qIn.1, stages, ?_, ?_⟩
  · with_reducible rfl
  · with_reducible rfl

namespace CycleStages

variable {a b i w : BitVec 12} {c c₁ c₂ c₃ c₄ c₅ : Station} {v : Vote} {x y z : Option Nat}
  (h : CycleStages a b i w c c₁ c₂ c₃ c₄ c₅ v x y z)

include h

theorem stage₁ : LevelStage ((c.lve.sampled a b i w).raised
    { FlagSet.clear with scaleClamp := (c.lve.sampled a b i w).anyClamped }) c c₁ := h.sample ▸ sampleStage_stage c a b i w

theorem stage₂ : LevelStage { c₁.lve with
    ring := if crossesFloat c₁.lve.lastSource v.source then [] else c₁.lve.ring
    disagreeRun := if v.disagreeing then min 30 (c₁.lve.disagreeRun + 1) else 0 } c₁ c₂ := h.voted ▸ voteStage_stage c₁ v

theorem stage₃ : x = (v.w.map (c₂.crv.volume.active.interp c₂.lve.arith.mode)).map (·.value) ∧
    LevelStage (c₂.lve.raised (readingFlags (v.w.map (c₂.crv.volume.active.interp c₂.lve.arith.mode)))) c₂ c₃ := by
  have stage := readActive_stage c₂ c₂.crv.volume.active v.w
  rwa [h.volume] at stage

theorem stage₄ : y = (c₃.lve.weir.offered.map (c₃.crv.weir.active.interp c₃.lve.arith.mode)).map (·.value) ∧
    LevelStage (c₃.lve.raised (readingFlags (c₃.lve.weir.offered.map (c₃.crv.weir.active.interp c₃.lve.arith.mode)))) c₃ c₄ := by
  have stage := readActive_stage c₃ c₃.crv.weir.active c₃.lve.weir.offered
  rwa [h.flow] at stage

theorem stage₅ : z = (c₄.inflowTotal x).map inflowValue ∧
    LevelStage { c₄.lve.raised (sumFlags (c₄.inflowTotal x)) with ring := pushCycle c₄.lve.ring ⟨x, c₄.pumpsFlow⟩ } c₄ c₅ := by
  have stage := inflowStage_stage c₄ x
  rwa [h.inflow] at stage

theorem points : ArithPointsOnly c c₅ := by
  have p₁ : ArithPointsOnly c c₁ := h.sample ▸ sampleStage_points c a b i w
  have p₂ : ArithPointsOnly c₁ c₂ := h.voted ▸ voteStage_points c₁ v
  have p₃ := readActive_points c₂ c₂.crv.volume.active v.w
  have p₄ := readActive_points c₃ c₃.crv.weir.active c₃.lve.weir.offered
  have p₅ := inflowStage_points c₄ x
  rw [h.volume] at p₃
  rw [h.flow] at p₄
  rw [h.inflow] at p₅
  exact (((p₁.trans p₂).trans p₃).trans p₄).trans p₅

theorem kept : LevelStage c₄.lve c c₄ ∧ LevelStage c₅.lve c c₅ := by
  have t₄ := ((h.stage₁.trans h.stage₂).trans h.stage₃.2).trans h.stage₄.2
  have t₅ := t₄.trans h.stage₅.2
  rw [← h.stage₄.2.lve] at t₄
  rw [← h.stage₅.2.lve] at t₅
  exact ⟨t₄, t₅⟩

variable {st : Station} (k : Committed st c)

include k

theorem vote_eq : v = (st.figures a b i w).vote := by
  obtain ⟨-, -, -, -, -, -, consts, -, -, -, -, -, lve⟩ := k.kept
  rw [h.vote, Station.vote, h.stage₁.lve, h.stage₁.consts, consts, lve]
  rfl

theorem mode_eq : c₂.lve.arith.mode = st.lve.arith.mode ∧ c₃.lve.arith.mode = st.lve.arith.mode ∧
    c₄.lve.arith.mode = st.lve.arith.mode := by
  obtain ⟨-, -, -, -, -, -, -, -, -, -, -, -, lve⟩ := k.kept
  have m₂ : c₂.lve.arith.mode = st.lve.arith.mode := by rw [h.stage₂.lve, h.stage₁.lve, lve]; rfl
  have m₃ : c₃.lve.arith.mode = st.lve.arith.mode := by rw [h.stage₃.2.lve, ← m₂]; rfl
  exact ⟨m₂, m₃, by rw [h.stage₄.2.lve, ← m₃]; rfl⟩

theorem volume_eq : v.w.map (c₂.crv.volume.active.interp c₂.lve.arith.mode) = (st.figures a b i w).volume := by
  obtain ⟨-, -, -, -, -, -, -, -, -, -, -, crv, -⟩ := k.kept
  rw [(h.mode_eq k).1, h.stage₂.crv, h.stage₁.crv, crv, h.vote_eq k]
  rfl

/-- The channels as the sample stage left them. -/
theorem sampled_eq : c₃.lve.wellA = (st.figures a b i w).sampled.wellA ∧ c₃.lve.wellB = (st.figures a b i w).sampled.wellB ∧
    c₃.lve.inlet = (st.figures a b i w).sampled.inlet ∧ c₃.lve.weir = (st.figures a b i w).sampled.weir := by
  obtain ⟨-, -, -, -, -, -, -, -, -, -, -, -, lve⟩ := k.kept
  rw [h.stage₃.2.lve, h.stage₂.lve, h.stage₁.lve, lve]
  exact ⟨rfl, rfl, rfl, rfl⟩

theorem flow_eq : c₃.lve.weir.offered.map (c₃.crv.weir.active.interp c₃.lve.arith.mode) = (st.figures a b i w).flow := by
  obtain ⟨-, -, -, -, -, -, -, -, -, -, -, crv, -⟩ := k.kept
  rw [(h.mode_eq k).2.1, h.stage₃.2.crv, h.stage₂.crv, h.stage₁.crv, crv, (h.sampled_eq k).2.2.2]
  rfl

theorem past_eq : c₄.lve.ring = (st.figures a b i w).past := by
  obtain ⟨-, -, -, -, -, -, -, -, -, -, -, -, lve⟩ := k.kept
  have ring : c₄.lve.ring = if crossesFloat st.lve.lastSource v.source then [] else
      if st.crv.volume.mark = none then st.lve.ring else [] := by
    rw [h.stage₄.2.lve, LevelEngine.raised, h.stage₃.2.lve, LevelEngine.raised, h.stage₂.lve, h.stage₁.lve, lve]
    rfl
  rw [ring, h.vote_eq k, Station.figures]
  dsimp only
  split <;> split <;> simp_all

theorem qOut_eq : c₄.pumpsFlow = st.pumpsFlow := by
  obtain ⟨-, -, pumps, -, -, -, -, ctu, -⟩ := k.kept
  have settled (i : Input) : c.settled i = st.settled i := by simp only [Station.settled, ctu]
  exact (pumpsFlow_congr h.kept.1.pumps h.kept.1.settled).trans (pumpsFlow_congr pumps settled)

theorem inflow_eq : c₄.inflowTotal x = (st.figures a b i w).inflow := by
  obtain ⟨-, -, -, -, -, -, consts, -⟩ := k.kept
  rw [Station.inflowTotal, (h.mode_eq k).2.2, h.qOut_eq k, h.past_eq k, h.kept.1.consts, consts, h.stage₃.1, h.volume_eq k]
  rfl

theorem engine_eq : c₅.lve = (st.figures a b i w).engine (st.lve.highLevel, st.lve.lowLevel) := by
  obtain ⟨-, -, -, -, -, -, -, -, -, -, -, -, lve⟩ := k.kept
  have volume := h.volume_eq k
  have flow := h.flow_eq k
  have inflow := h.inflow_eq k
  have x_eq := h.stage₃.1
  rw [volume] at x_eq
  rw [h.stage₅.2.lve, inflow, h.past_eq k, h.qOut_eq k, x_eq, h.stage₄.2.lve, flow, h.stage₃.2.lve, volume, h.stage₂.lve,
    h.stage₁.lve, lve, h.vote_eq k,
    CycleFigures.engine, CycleFigures.flags_collected]
  rfl

theorem levels_eq : c₅.levelConditions v.w = st.levelConditions (st.figures a b i w).vote.w := by
  obtain ⟨-, dty, -, -, -, -, -, ctu, -⟩ := k.kept
  have settled (i : Input) : c.settled i = st.settled i := by simp only [Station.settled, ctu]
  rw [← h.vote_eq k]
  exact levelConditions_congr (h.kept.2.dty.trans dty) (fun i => (h.kept.2.settled i).trans (settled i))
    (by rw [h.engine_eq k]; rfl) (by rw [h.engine_eq k]; rfl) _

theorem levelled_eq : c₅.levelled v = (st.figures a b i w).engine (st.levelConditions (st.figures a b i w).vote.w) := by
  rw [Station.levelled, h.levels_eq k, h.engine_eq k]
  rfl

theorem reports_eq : c₅.levelReports v =
    (st.figures a b i w).reports (st.levelConditions (st.figures a b i w).vote.w) (st.settled .floatHigh) := by
  obtain ⟨-, -, -, -, -, -, -, ctu, -⟩ := k.kept
  have settled : c₅.settled .floatHigh = st.settled .floatHigh :=
    (h.kept.2.settled _).trans (by simp only [Station.settled, ctu])
  rw [Station.levelReports, h.levels_eq k, h.engine_eq k, settled, h.vote_eq k]
  rfl

end CycleStages

/-- What the formation of an update leaves, from the station that the commit stage left. -/
structure Formed (st : Station) (f : CycleFigures) (c d : Station) : Prop where
  committed : Committed st c
  stage : LevelStage (f.engine (st.levelConditions f.vote.w)) c d
  judged : d.arithJudged
  condition : ∀ k on, (k, on) ∈ f.reports (st.levelConditions f.vote.w) (st.settled .floatHigh) → k ≠ Alarm.curveRange →
    k ≠ Alarm.arithSaturated → d.alt.points[k].condition = on
  floatHigh : d.alt.points[Alarm.floatHigh].condition =
    if st.lve.fresh then st.settled .floatHigh else st.alt.points[Alarm.floatHigh].condition

theorem formUpdate_forms (st : Station) (a b i w : BitVec 12) :
    Formed st (st.figures a b i w) st.commitStage (st.formUpdate a b i w).2 ∧
    (st.formUpdate a b i w).1 = (st.figures a b i w).update st.uptime st.rpq.stationTime := by
  obtain ⟨c₁, c₂, c₃, c₄, c₅, v, x, y, z, h, formed, update⟩ := formUpdate_stages st a b i w
  have k := commitStage_committed st
  rw [formed, update]
  generalize st.commitStage = c at *
  obtain ⟨clock, -, -, -, -, -, -, ctu, rpq, alt, -⟩ := k.kept
  have alarm := alarmStage_stage c₅ v
  rw [h.levelled_eq k] at alarm
  have whole := h.kept.2.trans alarm
  refine ⟨⟨k, whole, alarmStage_judged _ _, fun j on hm => alarmStage_condition (h.reports_eq k ▸ hm), ?_⟩, ?_⟩
  · have settled : c₅.settled .floatHigh = st.settled .floatHigh :=
      (h.kept.2.settled _).trans (by simp only [Station.settled, ctu])
    rw [alarmStage_floatHigh, h.engine_eq k, settled, h.points _ (by decide) (by decide), alt]
    rfl
  · have x_eq := h.stage₃.1
    have y_eq := h.stage₄.1
    have z_eq := h.stage₅.1
    rw [h.volume_eq k] at x_eq
    rw [h.flow_eq k] at y_eq
    rw [h.inflow_eq k] at z_eq
    have uptime : (c₅.alarmStage v).uptime = st.uptime := by rw [whole.uptime, Station.uptime, clock]; rfl
    rw [uptime, whole.stationTime, rpq, whole.lve, (h.sampled_eq k).2.2.2, h.vote_eq k, x_eq, y_eq, z_eq]
    rfl

end Sys2Proof.Machine
end

section
/-! PROOFS. MEASUREMENT_CYCLE as a whole (R1, R24). -/

namespace Sys2Proof.Machine

/-! ### How each reader reacts -/

theorem raiseMax_none (h : Option Nat) : raiseMax h none = h := by cases h <;> rfl
theorem raiseMax_some (h : Option Nat) (v : Nat) : raiseMax h (some v) = some (max (h.getD v) v) := by cases h <;> simp [raiseMax]
theorem lowerMin_none (h : Option Nat) : lowerMin h none = h := by cases h <;> rfl
theorem lowerMin_some (h : Option Nat) (v : Nat) : lowerMin h (some v) = some (min (h.getD v) v) := by cases h <;> simp [lowerMin]

/-- Each reader takes the update by its own reaction; the Report Queue adds it to its summary (R168). -/
theorem readers_react (x : Station) (l : LevelUpdate) :
    let m := x.rpq.summary
    x.react l .duty = x.evaluate l ∧ x.react l .rake = x.rakeUpdate l ∧ x.react l .overflow = x.overflowUpdate l ∧
    x.react l .trace = x.traceUpdate l ∧
    ∃ m' : Summary, x.react l .reports = { x with rpq := { x.rpq with summary := m' } } ∧
      m' = { m with maxW := m'.maxW, minW := m'.minW, peakQin := m'.peakQin, floatSeconds := m'.floatSeconds } ∧
      (l.w = none → m'.maxW = m.maxW ∧ m'.minW = m.minW) ∧
      (∀ w, l.w = some w → m'.maxW = some (max (m.maxW.getD w) w) ∧ m'.minW = some (min (m.minW.getD w) w)) ∧
      (l.qIn = none → m'.peakQin = m.peakQin) ∧ (∀ q, l.qIn = some q → m'.peakQin = some (max (m.peakQin.getD q) q)) ∧
      m'.floatSeconds = (if l.source = .float then min 4294967295 (m.floatSeconds + 1) else m.floatSeconds) := by
  refine ⟨rfl, rfl, rfl, rfl, _, rfl, rfl, fun h => ?_, fun w h => ?_, fun h => ?_, fun q h => ?_, rfl⟩
  · rw [h]; exact ⟨raiseMax_none _, lowerMin_none _⟩
  · rw [h]; exact ⟨raiseMax_some _ _, lowerMin_some _ _⟩
  · rw [h]; exact raiseMax_none _
  · rw [h]; exact raiseMax_some _ _

/-! ### The station at the publication -/

/-- The station `x` as the readers find it, after a cycle with the figures `f` that began at `st` and publishes `l`. -/
structure Published (st : Station) (f : CycleFigures) (l : LevelUpdate) (x : Station) : Prop where
  blocks : x.dty = st.dty ∧ x.pumps = st.pumps ∧ x.stc = st.stc ∧ x.rkc = st.rkc ∧ x.trb = st.trb ∧ x.consts = st.consts ∧
    x.ctu.pumpRun = st.ctu.pumpRun ∧ x.ctu.drive = st.ctu.drive ∧ x.rpq.summary = st.rpq.summary ∧ x.clock = st.clock
  sst : x.sst = st.sst
  inputs : ∀ i, x.ctu.input i = st.ctu.input i
  lve : x.lve = { f.engine (st.levelConditions f.vote.w) with published := some l, nextCycle := st.uptime + 10, fresh := false }
  crv : x.crv = ⟨st.crv.volume.committed, st.crv.weir.committed⟩
  unnoticed : st.crv.weir.mark = none ∨ st.ofm.event = none ∨ st.ofm.state = .quiet ∨ st.ofm.state = .onset → x.ofm = st.ofm
  noticed : st.crv.weir.mark ≠ none → ∀ e, st.ofm.event = some e → st.ofm.state = .spilling ∨ st.ofm.state = .easing →
    x.ofm = { st.ofm with event := some { e with flags := { e.flags with curveChanged := true } } }
  answers : ∀ (id : CurveId) (q : PortId), (st.crv.curve id).mark = some q → (st.port q).slot.status = .pending →
    (st.port q).awaits = some (.commit id) → (x.port q).slot = ⟨.done, (st.port q).slot.code,
      byte id.code ++ byte (st.crv.curve id).shadow.n ++ be 4 (shownUptime st.uptime)⟩ ∧
    (x.port q).awaits = none ∧ (x.port q).readInd = false
  judged : x.arithJudged
  condition : ∀ k on, (k, on) ∈ f.reports (st.levelConditions f.vote.w) (st.settled .floatHigh) → k ≠ Alarm.curveRange →
    k ≠ Alarm.arithSaturated → x.alt.points[k].condition = on
  floatHigh : x.alt.points[Alarm.floatHigh].condition =
    if st.lve.fresh then st.settled .floatHigh else st.alt.points[Alarm.floatHigh].condition

theorem Formed.publish {st c d : Station} {f : CycleFigures} (h : Formed st f c d) (l : LevelUpdate) :
    Published st f l (d.publish l) := by
  obtain ⟨committed, stage, judged, condition, floatHigh⟩ := h
  obtain ⟨clock, dty, pumps, stc, rkc, trb, consts, ctu, rpq, -, sst, crv, -⟩ := committed.kept
  have uptime : d.uptime = st.uptime := by rw [stage.uptime, Station.uptime, clock]; rfl
  have port (q : PortId) : (d.publish l).port q = c.port q := by rw [← stage.port]; cases q <;> rfl
  refine ⟨⟨stage.dty.trans dty, stage.pumps.trans pumps, stage.stc.trans stc, stage.rkc.trans rkc, stage.trb.trans trb,
    stage.consts.trans consts, stage.pumpRun.trans (by rw [ctu]), stage.drive.trans (by rw [ctu]),
    stage.summary.trans (by rw [rpq]), stage.clock.trans clock⟩, stage.sst.trans sst,
    fun i => (stage.input i).trans (by rw [ctu]), ?_, stage.crv.trans crv, fun q => stage.ofm.trans (committed.unnoticed q),
    fun n e he hs => stage.ofm.trans (committed.noticed n e he hs), fun id q hm hs ha => ?_, judged, condition, floatHigh⟩
  · rw [Station.publish, uptime, stage.lve]
  · rw [port]
    exact committed.answers id q hm hs ha

/-- A cycle publishes its update, and the readers take it in order. -/
theorem runCycle_publishes (st : Station) (a b i w : BitVec 12) (order : List Reader) :
    ∃ x, Published st (st.figures a b i w) ((st.figures a b i w).update st.uptime st.rpq.stationTime) x ∧
      st.runCycle a b i w order =
        order.foldl (Station.react ((st.figures a b i w).update st.uptime st.rpq.stationTime)) x := by
  obtain ⟨formed, update⟩ := formUpdate_forms st a b i w
  refine ⟨_, formed.publish _, ?_⟩
  rw [Station.runCycle, update]

theorem exec_measurementCycle {s : State} {a b i w : BitVec 12} {order : List Reader} {u : Station} (ho : orderOk order = true)
    (hu : s.st.comesDue (some s.st.lve.nextCycle) u) :
    exec (.measurementCycle a b i w order) s = .next { s with st := u.runCycle a b i w order } := by
  show execMeasurementCycle a b i w order s = _
  rw [execMeasurementCycle, if_pos ho, State.on_eq]
  exact congrArg (fun x : Station => Host.Outcome.next (State.mk x s.pending))
    (Station.comesDue_live (fun t => t.runCycle a b i w order) hu)

/-! ### The obligation's figures -/

/-- The source moves into or out of FLOAT; before the first update it counts as FLOAT (assumption 27). -/
theorem crossesFloat_iff (l : LevelEngine) (v : Source) : crossesFloat l.lastSource v = true ↔
    ¬((l.published = none ∨ ∃ k, l.published = some k ∧ k.source = .float) ↔ v = .float) := by
  have crosses (a b : Source) : crossesFloat a b = true ↔ ¬(a = .float ↔ b = .float) := by
    cases a <;> cases b <;> decide
  rw [crosses, LevelEngine.lastSource]
  cases l.published <;> simp

theorem pumpsFlow_eq (st : Station) : st.pumpsFlow = ((allPumps.filter fun n => st.pumps[n].settings.installed &&
    st.settled (.runFb n)).map fun n => st.pumps[n].settings.ratedFlow).sum := sum_filter_map _ _ _

theorem pushCycle_eq (ring : List CycleRec) (r : CycleRec) :
    pushCycle ring r = ring.drop (if ring.length < 16 then 0 else 1) ++ [r] := by
  rw [pushCycle]
  split
  next h => rw [if_pos (show ring.length < 16 from h), List.drop_zero]
  next h => rw [if_neg (show ¬ring.length < 16 from h)]

theorem anyClamped_eq (l : LevelEngine) :
    l.anyClamped = [l.wellA, l.wellB, l.inlet, l.weir].any fun c => c.sample == .clamped := by
  simp [LevelEngine.anyClamped, Bool.or_assoc]

theorem levelPoint_of_mem {k : PointNo} (h : k ∈ [Alarm.highLevel, Alarm.floatHigh, Alarm.lowLevel, Alarm.levelDisagree,
    Alarm.wellAFailed, Alarm.wellBFailed, Alarm.sourceFloat, Alarm.inletFailed, Alarm.weirFailed]) : levelPoint k := by
  unfold levelPoint controlPoint
  revert k
  decide

/-- Settles O27: the figures of the cycle carried through its stages, then kept by the readers. -/
theorem cycleCommitsAndPublishes : Obligations.CycleCommitsAndPublishes := by
  refine ⟨readers_react, fun s a b i w order u ho hu => ?_⟩
  have taken := exec_measurementCycle (a := a) (b := b) (i := i) (w := w) ho hu
  obtain ⟨-, due, -, reached⟩ := hu
  obtain ⟨clock, rfl⟩ := Station.reach_clock reached
  obtain ⟨x, ⟨blocks, sst, inputs, lve, crv, unnoticed, noticed, answers, judged, condition, floatHigh⟩, run⟩ :=
    runCycle_publishes { s.st with clock := clock } a b i w order
  have keeps := (ReaderRun.reacts (.refl (a := x)) ((({ s.st with clock := clock } : Station).figures a b i w).update
    ({ s.st with clock := clock } : Station).uptime s.st.rpq.stationTime) order).keepsLevels
  rw [run] at taken
  intro e m chA chB chInlet chWeir vote active volume flow floatBefore past running qOut inflow levels l flagged
  obtain ⟨F, hF⟩ : ∃ F, F = ({ s.st with clock := clock } : Station).figures a b i w := ⟨_, rfl⟩
  rw [← hF] at lve condition taken keeps
  have sampled_eq : F.sampled = e.sampled a b i w := by rw [hF]; rfl
  have chA_eq : F.sampled.wellA = chA := by rw [sampled_eq]; rfl
  have chB_eq : F.sampled.wellB = chB := by rw [sampled_eq]; rfl
  have chInlet_eq : F.sampled.inlet = chInlet := by rw [sampled_eq]; rfl
  have chWeir_eq : F.sampled.weir = chWeir := by rw [sampled_eq]; rfl
  have vote_eq : F.vote = vote := by rw [hF]; rfl
  have volume_eq : F.volume = volume := by rw [hF]; rfl
  have flow_eq : F.flow = flow := by rw [hF]; rfl
  have past_eq : F.past = past := by
    rw [hF]
    exact if_congr (or_congr_right (crossesFloat_iff e vote.source)) rfl rfl
  have qOut_eq : F.qOut = qOut := by rw [hF]; exact pumpsFlow_eq _
  have inflow_eq : F.inflow = inflow := by
    have formed : F.inflow = inflowSum m s.st.consts.inflowWindow (F.volume.map (·.value)) F.qOut F.past := by rw [hF]; rfl
    rw [formed, volume_eq, qOut_eq, past_eq]
  have update_eq : F.update ({ s.st with clock := clock } : Station).uptime s.st.rpq.stationTime = l := by
    rw [CycleFigures.update, sampled_eq, vote_eq, volume_eq, flow_eq, inflow_eq]
    rfl
  have flags_eq : e.arith.flags.or F.flags = flagged := by
    rw [CycleFigures.flags, sampled_eq, volume_eq, flow_eq, inflow_eq, anyClamped_eq]
    rfl
  clear hF
  clear_value flagged l inflow past qOut
  rw [update_eq] at taken keeps lve
  rw [vote_eq] at lve condition
  obtain ⟨top, engine, kept_top⟩ := keeps.lve
  have x_lve : x.lve = { wellA := chA, wellB := chB, inlet := chInlet, weir := chWeir, arith := { e.arith with flags := flagged }
                         disagreeRun := if vote.disagreeing then min 30 (e.disagreeRun + 1) else 0
                         ring := past.drop (if past.length < 16 then 0 else 1) ++ [⟨volume.map (·.value), qOut⟩]
                         published := some l, highLevel := levels.1, lowLevel := levels.2
                         nextCycle := ({ s.st with clock := clock } : Station).uptime + 10, fresh := false } := by
    rw [lve, CycleFigures.engine, sampled_eq, vote_eq, volume_eq, qOut_eq, past_eq, pushCycle_eq, ← flags_eq]
    rfl
  have points (k : PointNo) (on : Bool) (hk : levelPoint k) (hm : (k, on) ∈ F.reports levels (s.st.settled .floatHigh)) :
      (order.foldl (Station.react l) x).alt.points[k].condition = on := by
    rw [keeps.points k hk]
    exact condition k on hm hk.2.2.1 hk.2.2.2
  have run_eq : (order.foldl (Station.react l) x).lve.disagreeRun = (F.engine levels).disagreeRun := by
    rw [engine, lve]
    rfl
  refine ⟨_, taken, rfl, keeps.clock.trans blocks.2.2.2.2.2.2.2.2.2, ⟨x, ?_⟩, ?_, keeps.consts.trans blocks.2.2.2.2.2.1,
    keeps.items.trans (by rw [sst]), fun j => (keeps.inputs j).trans (inputs j), fun id => ?_⟩
  · obtain ⟨dty, pumps, stc, rkc, trb, consts, pumpRun, drive, summary, time⟩ := blocks
    refine ⟨dty, pumps, stc, rkc, trb, consts, pumpRun, drive, summary, time, x_lve, unnoticed, noticed, rfl, top, ?_, ?_⟩
    · rw [engine, x_lve]
      rfl
    · rw [x_lve] at kept_top
      exact kept_top
  · obtain ⟨curves, saturated⟩ := keeps.judged judged
    refine ⟨points _ _ (levelPoint_of_mem (by simp)) (by simp [CycleFigures.reports]),
      points _ _ (levelPoint_of_mem (by simp)) (by simp [CycleFigures.reports]),
      points _ _ (levelPoint_of_mem (by simp)) (by rw [run_eq]; simp [CycleFigures.reports]),
      points _ _ (levelPoint_of_mem (by simp)) (by rw [← chA_eq]; simp [CycleFigures.reports]),
      points _ _ (levelPoint_of_mem (by simp)) (by rw [← chB_eq]; simp [CycleFigures.reports]),
      points _ _ (levelPoint_of_mem (by simp)) (by rw [← chInlet_eq]; simp [CycleFigures.reports]),
      points _ _ (levelPoint_of_mem (by simp)) (by rw [← chWeir_eq]; simp [CycleFigures.reports]),
      points _ _ (levelPoint_of_mem (by simp)) (by rw [← vote_eq]; simp [CycleFigures.reports]), curves, saturated, ?_⟩
    show (order.foldl (Station.react l) x).alt.points[Alarm.floatHigh].condition = _
    rw [keeps.points _ (levelPoint_of_mem (k := Alarm.floatHigh) (by simp))]
    exact floatHigh
  · have curve : (order.foldl (Station.react l) x).crv.curve id = (s.st.crv.curve id).committed := by
      rw [keeps.crv, crv]
      cases id <;> rfl
    have port (q : PortId) : (order.foldl (Station.react l) x).port q = x.port q := by
      cases q
      · exact keeps.portA
      · exact keeps.portB
    refine ⟨fun h => by rw [curve, Curve.committed_unmarked h], fun q hm => ⟨?_, fun hs ha => ?_⟩⟩
    · rw [curve, Curve.committed, hm]
      rfl
    · rw [port]
      exact answers id q hm hs ha

end Sys2Proof.Machine
end

section
/-! PROOFS. What a curve copy's validity says, and what each operation makes of the curves (R28 to R44). -/

namespace Sys2Proof.Machine

/-! ### Safe curves -/

/-- A valid copy has from 2 to 16 points (R29, test 1). -/
theorem CurveCopy.valid_count {id : CurveId} {c : CurveCopy} (h : c.valid id = true) : 2 ≤ c.n ∧ c.n ≤ 16 := by
  unfold CurveCopy.valid CurveCopy.fault at h
  split at h
  · cases h
  · omega

theorem CurveCopy.valid_iff {id : CurveId} {c : CurveCopy} : c.valid id = true ↔ c.fault id = none := Option.isNone_iff_eq_none

/-- A curve whose mark is clear. -/
theorem Curve.safe_unmarked {c : Curve} {id : CurveId} (hm : c.mark = none) (ha : c.active.valid id = true)
    (hn : c.shadow.n ≤ 16) : c.safe id :=
  ⟨ha, fun h => absurd hm h, hn⟩

/-- A curve after a power-up, over a valid copy (R43). -/
theorem Curve.powerUp_safe {c : CurveCopy} {id : CurveId} (h : c.valid id = true) : (Curve.powerUp c).safe id :=
  safe_unmarked rfl h (CurveCopy.valid_count h).2

/-- The swap puts a valid shadow in place of the active copy (R40). -/
theorem Curve.committed_safe {c : Curve} {id : CurveId} (h : c.safe id) : c.committed.safe id := by
  obtain ⟨active, shadow, count⟩ := h
  refine safe_unmarked rfl ?_ count
  unfold Curve.committed
  dsimp only
  split
  · exact active
  next hm => exact shadow hm

theorem Station.curvesSafe_iff {st : Station} : st.curvesSafe ↔ ∀ id, (st.crv.curve id).safe id :=
  ⟨fun h id => by
    cases id with
    | volume => exact h.1
    | weir => exact h.2, fun h => ⟨h .volume, h .weir⟩⟩

/-- From `a` to `b` the curves stay safe. -/
def KeepsCurves (a b : Station) : Prop := a.curvesSafe → b.curvesSafe

theorem KeepsCurves.trans {a b c : Station} (h : KeepsCurves a b) (k : KeepsCurves b c) : KeepsCurves a c := k ∘ h

/-- An operation that does not touch the Curve Store keeps the curves safe. -/
theorem KeepsCurves.of_crv {a b : Station} (h : b.crv = a.crv) : KeepsCurves a b := fun hs => by
  unfold Station.curvesSafe at hs ⊢
  rwa [h]

/-- One curve replaced by a safe one. -/
theorem setCurve_keepsCurves (st : Station) {id : CurveId} {c : Curve} (hc : (st.crv.curve id).safe id → c.safe id) :
    KeepsCurves st (st.setCurve id c) := by
  intro h
  have safe := hc (Station.curvesSafe_iff.mp h id)
  cases id with
  | volume => exact ⟨safe, h.2⟩
  | weir => exact ⟨h.1, safe⟩

theorem ControlRun.crv {a b : Station} (h : ControlRun a b) : b.crv = a.crv := h.keepsOuter.crv

theorem ReaderRun.crv {a b : Station} (h : ReaderRun a b) : b.crv = a.crv := h.keepsLevels.crv

/-! ### Requests that do not name a curve -/

theorem carriedOut_crv {st : Station} {r : Reply × Station} {after : Station → Station} (h : (after r.2).crv = st.crv) :
    (carriedOut st r after).2.crv = st.crv := by
  unfold carriedOut
  split
  · exact h
  · rfl

theorem readPump_crv (st : Station) (k : Nat) : (st.readPump k).2.crv = st.crv := by
  unfold Station.readPump
  split
  · rfl
  · exact ((ControlRun.refl st).prune _).judgeStartLimited.crv

theorem readTrace_crv (st : Station) (p : PortId) (form n : Nat) : (st.readTrace p form n).2.crv = st.crv := by
  unfold Station.readTrace
  by_cases hr : 1 < form ∨ n < 1 ∨ (if form = 0 then 12 else 8) < n
  · rw [if_pos hr]
  · rw [if_neg hr]
    exact Station.setPort_crv _ _ _

theorem setTraceWindow_crv (st : Station) (p : PortId) (s e : Nat) : (st.setTraceWindow p s e).2.crv = st.crv := by
  unfold Station.setTraceWindow
  split
  · rfl
  · exact Station.setPort_crv _ _ _

theorem ackPoint_crv (st : Station) (k : PointNo) : (st.ackPoint k).crv = st.crv := by
  unfold Station.ackPoint
  dsimp only
  split
  · rfl
  · exact (keeps_movePoint _ _ _).crv

theorem ackPoints_crv (l : List PointNo) (st : Station) : (Station.ackPoints l st).2.crv = st.crv := by
  induction l generalizing st with
  | nil => rfl
  | cons k l ih => exact (ih _).trans (ackPoint_crv st k)

theorem ackAlarm_crv (st : Station) (l : List Nat) : (st.ackAlarm l).2.crv = st.crv := by
  unfold Station.ackAlarm
  split
  · rfl
  · exact ackPoints_crv _ _

theorem clearAttention_crv (st : Station) (p : PortId) (l : List Nat) : (st.clearAttention p l).2.crv = st.crv := by
  unfold Station.clearAttention
  split <;> rfl

theorem releaseTrace_crv (st : Station) : st.releaseTrace.2.crv = st.crv := by
  unfold Station.releaseTrace
  split <;> rfl

theorem setSetpoints_crv (st : Station) (t : Setpoints) : (st.setSetpoints t).2.crv = st.crv := by
  unfold Station.setSetpoints
  split <;> rfl

theorem atPump_crv (st : Station) (k : Nat) {f : Station → PumpNo → Reply × Station} (hf : ∀ n, ControlRun st (f st n).2) :
    (st.atPump k f).2.crv = st.crv := by
  unfold Station.atPump
  split
  · rfl
  · exact carriedOut_crv ((hf _).reportPump _).settleStc.crv

theorem writeChannel_crv (st : Station) (code : Nat) (c : ChanSettings) : (st.writeChannel code c).2.crv = st.crv := by
  unfold Station.writeChannel
  split
  · rfl
  · split <;> rfl

theorem uninstall_crv (st : Station) (n : PumpNo) (c : PumpSettings) : (st.uninstall n c).crv = st.crv := by
  have removed (p : PumpRec) := ((((ControlRun.refl st).clearDemand n).setPump n p).enter n .uninstalled).crv
  exact removed _

theorem install_crv (st : Station) (n : PumpNo) (c : PumpSettings) : (st.install n c).crv = st.crv := by
  unfold Station.install
  dsimp only
  split
  · exact ((ControlRun.refl _).enterAuto n).crv
  · exact ((ControlRun.refl _).enter n _).crv
  · exact ((ControlRun.refl _).enter n _).crv

theorem writePumpRecord_crv (st : Station) (n : PumpNo) (fields : List Nat) : (st.writePumpRecord n fields).2.crv = st.crv := by
  have applied (t : Station) : ((t.applyMaxStarts n).ring).crv = t.crv := (((ControlRun.refl t).applyMaxStarts n).ring).crv
  unfold Station.writePumpRecord
  split
  · rfl
  · dsimp only
    split
    · split
      case' h_5 | h_6 | h_7 | h_8 | h_9 | h_10 | h_11 => rfl
      all_goals exact (applied _).trans (uninstall_crv _ _ _)
    · split
      · split
        · rfl
        · exact (applied _).trans (install_crv _ _ _)
      · exact applied _

theorem writePump_crv (st : Station) (k : Nat) (fields : List Nat) : (st.writePump k fields).2.crv = st.crv := by
  unfold Station.writePump
  split
  · rfl
  next n _ =>
    have pruned := (ControlRun.refl st).prune n
    refine (carriedOut_crv ?_).trans pruned.judgeStartLimited.crv
    calc _ = ((st.prune n).writePumpRecord n fields).2.crv := ((ControlRun.refl _).reportPump n).settleStc.crv
      _ = st.crv := (writePumpRecord_crv _ _ _).trans pruned.crv
      _ = _ := pruned.judgeStartLimited.crv.symm

theorem writeRotation_crv (st : Station) (mode : Nat) (l : List Nat) : (st.writeRotation mode l).2.crv = st.crv := by
  unfold Station.writeRotation
  split
  · split
    · exact (ControlRun.refl _).settleStc.crv
    · rfl
  · rfl

theorem writeConstants_crv (st : Station) (c : Constants) : (st.writeConstants c).2.crv = st.crv := by
  unfold Station.writeConstants
  split
  · rfl
  · exact (((ControlRun.refl _).stcConstants st.consts).rakeConstants st.consts).crv

theorem setArithControl_crv (st : Station) (mode : Nat) (m c : FlagSet) : (st.setArithControl mode m c).2.crv = st.crv := by
  unfold Station.setArithControl
  split
  · rfl
  · simp [Station.judgeArith]

theorem saveSettings_crv (st : Station) (p : PortId) : (st.saveSettings p).crv = st.crv := by
  obtain ⟨x, h, -⟩ := st.storeTrigger_shape
  unfold Station.saveSettings
  rw [h]

theorem takeReport_crv (st : Station) (seq : Nat) : (st.takeReport seq).2.crv = st.crv := by
  unfold Station.takeReport
  split
  · rfl
  · split <;> rfl

theorem clockNotice_crv (st : Station) : st.clockNotice.crv = st.crv := by
  unfold Station.clockNotice
  split <;> rfl

theorem setClock_crv (st : Station) (t : Nat) : (st.setClock t).2.crv = st.crv := by
  have noted : ReaderRun st (st.setSummary { st.rpq.summary with clockChanged := true }) := ReaderRun.setSummary .refl _
  unfold Station.setClock
  refine (clockNotice_crv _).trans ?_
  split
  · exact noted.dailyClose.crv
  · exact noted.crv

/-! ### Requests to the Curve Store -/

theorem copyCurve_keepsCurves (st : Station) (code : Nat) : KeepsCurves st (st.copyCurve code).2 := by
  unfold Station.copyCurve
  split
  · exact id
  next cid _ =>
    dsimp only
    split
    · exact id
    next hm =>
      exact setCurve_keepsCurves st fun h => Curve.safe_unmarked (by simpa using hm) h.1 (CurveCopy.valid_count h.1).2

theorem writeCurvePoints_keepsCurves (st : Station) (code s : Nat) (l : List Point) :
    KeepsCurves st (st.writeCurvePoints code s l).2 := by
  unfold Station.writeCurvePoints
  split
  · exact id
  · dsimp only
    split
    · exact id
    · split
      · exact id
      next hm => exact setCurve_keepsCurves st fun h => Curve.safe_unmarked (by simpa using hm) h.1 h.2.2

theorem setCurveCount_keepsCurves (st : Station) (code n : Nat) : KeepsCurves st (st.setCurveCount code n).2 := by
  unfold Station.setCurveCount
  split
  · exact id
  · dsimp only
    split
    · exact id
    next hn =>
      split
      · exact id
      next hm => exact setCurve_keepsCurves st fun h => Curve.safe_unmarked (by simpa using hm) h.1 (Nat.le_of_not_lt hn)

/-- The mark is set over a shadow that has been judged valid (R38). -/
theorem commitCurve_keepsCurves (st : Station) (p : PortId) (code : Nat) : KeepsCurves st (st.commitCurve p code).2 := by
  unfold Station.commitCurve
  split
  · exact id
  · dsimp only
    split
    · exact id
    · split
      · exact id
      next hf => exact setCurve_keepsCurves st fun h => ⟨h.1, fun _ => CurveCopy.valid_iff.mpr hf, h.2.2⟩

/-! ### The cycle, the store and the resets -/

/-- The commit stage swaps both curves (R40); no later stage and no reader touches them. -/
theorem runCycle_keepsCurves (st : Station) (a b i w : BitVec 12) (order : List Reader) :
    KeepsCurves st (st.runCycle a b i w order) := by
  obtain ⟨x, published, run⟩ := runCycle_publishes st a b i w order
  have readers := (ReaderRun.reacts (a := x) .refl ((st.figures a b i w).update st.uptime st.rpq.stationTime) order).crv
  rw [run]
  refine KeepsCurves.trans (fun h => ?_) (.of_crv readers)
  unfold Station.curvesSafe
  rw [published.crv]
  exact ⟨Curve.committed_safe h.1, Curve.committed_safe h.2⟩

theorem finaliseSave_crv (st : Station) (sound : Bool) (p : PortId) : (st.finaliseSave sound p).crv = st.crv := by
  have finalised (x : ReplyStatus) (d : List Byte) : (st.finalise p .save x d).crv = st.crv := by
    obtain ⟨pa, pb, h⟩ := st.finalise_shape p .save x d
    rw [h]
  unfold Station.finaliseSave
  split
  · dsimp only
    split <;> exact finalised _ _
  · rfl
  · rfl

theorem endWrite_crv (st : Station) (w : StoreWrite) (defect : BitVec 16) : (st.endWrite w defect).crv = st.crv := by
  have saves (t : Station) (x : Bool) : ((t.finaliseSave x .a).finaliseSave x .b).crv = t.crv :=
    (finaliseSave_crv _ x .b).trans (finaliseSave_crv t x .a)
  have follow (t : Station) : (if t.sst.followUp then
      ({ t with sst := { t.sst with
        followUp := false, coverA := t.sst.coverA.promote, coverB := t.sst.coverB.promote } }).beginWrite
      else { t with sst := { t.sst with inFlight := none } }).crv = t.crv := by
    split <;> rfl
  unfold Station.endWrite
  refine (follow _).trans ((saves _ _).trans ?_)
  split
  · exact Station.report_crv _ _ _
  · rfl

/-- A soft reset clears both marks and leaves both copies (R44). -/
theorem softReset_keepsCurves (st : Station) : KeepsCurves st st.softReset := by
  obtain ⟨-, -, -, -, -, -, curves, -⟩ := softReset_blocks st
  intro h
  rw [Station.curvesSafe_iff] at h ⊢
  intro id
  rw [curves]
  exact Curve.safe_unmarked rfl (h id).1 (h id).2.2

/-- A restored curve is valid, for its default is (R43). -/
theorem CurveCopy.mend_valid (c : CurveCopy) {id : CurveId} {default : CurveCopy} (h : default.valid id = true) :
    (c.mend id default).valid id = true := by
  unfold CurveCopy.mend
  split
  · assumption
  · exact h

/-- After a power-up both curves are as the store gave them, or the defaults, whatever they were before (R43). -/
theorem powerUp_curvesSafe (st : Station) : st.powerUp.curvesSafe := by
  have start (t : StoredItems) (b : Bool) : (st.fromItems t b).curvesSafe :=
    ⟨Curve.powerUp_safe (CurveCopy.mend_valid _ (by decide)), Curve.powerUp_safe (CurveCopy.mend_valid _ (by decide))⟩
  unfold Station.powerUp
  split
  · exact start st.sst.image.items false
  · exact KeepsCurves.of_crv (Station.report_crv _ _ _) (start .defaults true)

/-! ### Every command, every step -/

/-- An intake keeps the curves safe when its owner does. -/
theorem request_keepsCurves {s t : State} {p : PortId} {k : Kind} {owner : List Byte → Station → Reply × Station}
    {rest : List Byte} (h : s.on (fun st => st.intake p k owner rest) = .next t)
    (ho : ∀ ps u, KeepsCurves u (owner ps u).2) : KeepsCurves s.st t.st := by
  cases h
  show KeepsCurves s.st (s.st.intake p k owner rest)
  obtain h | h | ⟨r, -, -, h⟩ | ⟨ps, -, h⟩ := s.st.intake_cases p k owner rest
  · rw [h]; exact id
  · exact .of_crv (by simp [h])
  · exact .of_crv (by simp [h])
  · rw [h]
    exact (KeepsCurves.trans (.of_crv (s.st.rise_crv p _)) (ho ps _)).trans (.of_crv (Station.putReply_crv _ _ _ _))

/-- A request whose owner does not touch the Curve Store. -/
theorem request_crv {s t : State} {p : PortId} {k : Kind} {owner : List Byte → Station → Reply × Station}
    {rest : List Byte} (h : s.on (fun st => st.intake p k owner rest) = .next t) (ho : ∀ ps u, (owner ps u).2.crv = u.crv) :
    KeepsCurves s.st t.st := request_keepsCurves h fun ps u => .of_crv (ho ps u)

/-- What acts on a running part alone. -/
theorem live_keepsCurves {s t : State} {f : Station → Station} (h : s.on (fun st => st.live f) = .next t)
    (hf : ∀ u, KeepsCurves u (f u)) : KeepsCurves s.st t.st := by
  cases h
  show KeepsCurves s.st (s.st.live f)
  unfold Station.live
  split
  · exact id
  · exact hf _

/-- A timed event, at its moment or not at all. -/
theorem event_keepsCurves {s t : State} {due : Station → Option Nat} {f : Station → Station}
    (h : s.on (fun st => st.live fun u => u.atStep (due u) f) = .next t) (hf : ∀ u, KeepsCurves u (f u)) :
    KeepsCurves s.st t.st := by
  refine live_keepsCurves h fun u => ?_
  unfold Station.atStep
  split
  · exact id
  · split
    · exact id
    next hr =>
      obtain ⟨c, rfl⟩ := u.reach_clock hr
      exact hf { u with clock := c }

theorem expiry_keepsCurves {s t : State} {expiry : Station → Option Nat} {f : Station → Station}
    (h : s.on (fun st => st.live fun u => u.atTick (expiry u) f) = .next t) (hf : ∀ u, KeepsCurves u (f u)) :
    KeepsCurves s.st t.st :=
  event_keepsCurves (due := fun u => (expiry u).map (10 * ·)) h hf

/-- An expiry at which pumps, rake or Start Controller act. -/
theorem expiry_control {s t : State} {expiry : Station → Option Nat} {f : Station → Station}
    (h : s.on (fun st => st.live fun u => u.atTick (expiry u) f) = .next t) (hf : ∀ u, ControlRun u (f u)) :
    KeepsCurves s.st t.st := expiry_keepsCurves h fun u => .of_crv (hf u).crv

theorem emptyPeriod_keepsCurves {s t : State} {p : PortId} {k : Nat} (h : execEmptyPeriod p k s = .next t) :
    KeepsCurves s.st t.st := by
  unfold execEmptyPeriod at h
  split at h
  · cases h
  · exact live_keepsCurves h fun u => .of_crv (by simp)

theorem requestNotTaken_keepsCurves {s t : State} {p : PortId} {bytes : List Byte}
    (h : execRequestNotTaken p bytes s = .next t) : KeepsCurves s.st t.st := by
  unfold execRequestNotTaken at h
  split at h
  · cases h
  · split at h
    · cases h
    · refine live_keepsCurves h fun u => .of_crv ?_
      split <;> simp

theorem unknownRequest_keepsCurves {s t : State} {p : PortId} {code : Byte} {rest : List Byte}
    (h : execUnknownRequest p code rest s = .next t) : KeepsCurves s.st t.st := by
  unfold execUnknownRequest at h
  split at h
  · cases h
  · refine live_keepsCurves h fun u => .of_crv ?_
    dsimp only
    split <;> simp

theorem measurementCycle_keepsCurves {s t : State} {a b i w : BitVec 12} {order : List Reader}
    (h : execMeasurementCycle a b i w order s = .next t) : KeepsCurves s.st t.st := by
  unfold execMeasurementCycle at h
  split at h
  · exact expiry_keepsCurves (expiry := fun u => some u.lve.nextCycle) h fun u => runCycle_keepsCurves u a b i w order
  · cases h

theorem storeWriteEnd_keepsCurves {s t : State} {defect : BitVec 16} (h : execStoreWriteEnd defect s = .next t) :
    KeepsCurves s.st t.st := by
  refine live_keepsCurves h fun u => .of_crv ?_
  split
  · rfl
  · exact endWrite_crv _ _ _

/-- Every command keeps the curves safe. -/
theorem exec_keepsCurves {c : Instr} {s t : State} (h : exec c s = .next t) : KeepsCurves s.st t.st := by
  have pump (n : PumpNo) {f : Station → Station} (hf : ∀ u, ControlRun u (f u)) (u : Station) :
      ControlRun u (u.pumpEvent n f) := ControlRun.pumpEvent (hf u)
  cases c with
  | powerUp => cases h; exact fun _ => powerUp_curvesSafe s.st
  | resetHold => cases h; exact id
  | selectFall p => exact live_keepsCurves h fun u => .of_crv (u.latch_crv p)
  | emptyPeriod p k => exact emptyPeriod_keepsCurves h
  | requestNotTaken p bytes => exact requestNotTaken_keepsCurves h
  | unknownRequest p code rest => exact unknownRequest_keepsCurves h
  | portClear p => exact live_keepsCurves h fun u => .of_crv (Station.setPort_crv _ _ _)
  | readStatus p rest => exact request_crv h fun _ _ => rfl
  | readChannels p rest => exact request_crv h fun _ _ => rfl
  | readWell p rest => exact request_crv h fun _ _ => rfl
  | readPump p rest => exact request_crv h fun _ u => readPump_crv u _
  | readRake p rest => exact request_crv h fun _ _ => rfl
  | readOverflow p rest => exact request_crv h fun _ _ => rfl
  | readAlarms p rest => exact request_crv h fun _ _ => rfl
  | readCurve p rest => exact request_crv h fun _ _ => rfl
  | setTraceWindow p rest => exact request_crv h fun _ u => setTraceWindow_crv u _ _ _
  | readTrace p rest => exact request_crv h fun _ u => readTrace_crv u _ _ _
  | peekReport p rest => exact request_crv h fun _ _ => rfl
  | readArith p rest => exact request_crv h fun _ _ => rfl
  | readSettings p rest => exact request_crv h fun _ _ => rfl
  | ackAlarm p rest => exact request_crv h fun _ u => ackAlarm_crv u _
  | clearAttention p rest => exact request_crv h fun _ u => clearAttention_crv u _ _
  | setAttentionMasks p rest => exact request_crv h fun _ _ => rfl
  | releaseTrace p rest => exact request_crv h fun _ u => releaseTrace_crv u
  | setSetpoints p rest => exact request_crv h fun _ u => setSetpoints_crv u _
  | inhibitPump p rest => exact request_crv h fun _ u => atPump_crv u _ (ControlRun.refl u).inhibitPump
  | releasePump p rest => exact request_crv h fun _ u => atPump_crv u _ (ControlRun.refl u).releasePump
  | resetPumpFault p rest => exact request_crv h fun _ u => atPump_crv u _ (ControlRun.refl u).resetPumpFault
  | requestRakeCycle p rest => exact request_crv h fun _ u => (ControlRun.refl u).rakeSetDemand.settleStc.crv
  | resetRake p rest => exact request_crv h fun _ u => carriedOut_crv (ControlRun.refl u).resetRake.settleStc.crv
  | writeChannel p rest => exact request_crv h fun _ u => writeChannel_crv u _ _
  | writePumpRecord p rest => exact request_crv h fun _ u => writePump_crv u _ _
  | writeRotation p rest => exact request_crv h fun _ u => writeRotation_crv u _ _
  | writeStationConstants p rest => exact request_crv h fun _ u => writeConstants_crv u _
  | copyCurve p rest => exact request_keepsCurves h fun _ u => copyCurve_keepsCurves u _
  | writeCurvePoints p rest => exact request_keepsCurves h fun _ u => writeCurvePoints_keepsCurves u _ _ _
  | setCurveCount p rest => exact request_keepsCurves h fun _ u => setCurveCount_keepsCurves u _ _
  | commitCurve p rest => exact request_keepsCurves h fun _ u => commitCurve_keepsCurves u _ _
  | setArithControl p rest => exact request_crv h fun _ u => setArithControl_crv u _ _ _
  | saveSettings p rest => exact request_crv h fun _ u => saveSettings_crv u p
  | stationReset p rest => exact request_keepsCurves h fun _ u => softReset_keepsCurves u
  | takeReport p rest => exact request_crv h fun _ u => takeReport_crv u _
  | setClock p rest => exact request_crv h fun _ u => setClock_crv u _
  | measurementCycle a b i w order => exact measurementCycle_keepsCurves h
  | rawLevelChange i level => cases h; exact id
  | debounceExpiry i swapped =>
    exact event_keepsCurves (due := fun u => (u.ctu.input i).dueWhen true) h fun u =>
      .of_crv (deliver_keepsBlocks (u.withChange i) i _ swapped).crv
  | firstSettling i swapped =>
    exact event_keepsCurves (due := fun u => (u.ctu.input i).dueWhen false) h fun u =>
      .of_crv (notice_keepsBlocks (u.withSettling i) i swapped).crv
  | spacingExpiry => exact expiry_control h fun u => (ControlRun.refl u).spacingExpired
  | budgetExpiry => exact expiry_control h fun u => (ControlRun.refl u).budgetExpired
  | confirmExpiry n => exact expiry_control h (pump n fun u => (ControlRun.refl u).confirmExpired n)
  | minRunExpiry n => exact expiry_control h (pump n fun u => (ControlRun.refl u).minRunExpired n)
  | stopConfirmExpiry n => exact expiry_control h (pump n fun u => (ControlRun.refl u).stopConfirmExpired n)
  | minOffExpiry n => exact expiry_control h (pump n fun u => (ControlRun.refl u).endRest n)
  | pruneExpiry n => exact expiry_control h (pump n fun u => (ControlRun.refl u).prune n)
  | deadIntervalExpiry =>
    exact event_keepsCurves (due := fun u => u.ctu.drive.deadExpiry) h fun u => .of_crv (ControlRun.refl u).deadExpired.crv
  | lowerTimerExpiry => exact expiry_control h fun u => (ControlRun.refl u).lowerExpired
  | raiseTimerExpiry => exact expiry_control h fun u => (ControlRun.refl u).raiseExpired
  | reverseTimerExpiry => exact expiry_control h fun u => (ControlRun.refl u).reverseExpired
  | dwellExpiry => exact expiry_control h fun u => (ControlRun.refl u).dwellExpired
  | restTimerExpiry => exact expiry_control h fun u => (ControlRun.refl u).restExpired
  | intervalExpiry => exact expiry_control h fun u => (ControlRun.refl u).intervalExpired.settleStc
  | stationTimeAdvance first =>
    exact expiry_keepsCurves h fun u => .of_crv (ReaderRun.advanceSecond (a := u) .refl first).crv
  | storeWriteEnd defect => exact storeWriteEnd_keepsCurves h

/-- Settles O59: a command keeps the curves safe, and the passing of time does not touch them. -/
theorem activeCurvesStayValid : Obligations.ActiveCurvesStayValid := by
  intro s t hs h
  unfold step at h
  split at h
  · unfold idle at h
    split at h
    · exact exec_keepsCurves h hs
    · cases h
      show s.st.pass.curvesSafe
      unfold Station.pass
      split <;> exact hs
  next rest _ => exact exec_keepsCurves (s := { s with pending := rest }) h hs

end Sys2Proof.Machine
end

section
/-! PROOFS. The judgement of a curve copy by the tests of Table 2-2 (R29), and the interpolation of a valid one (R30, R31). -/

namespace Sys2Proof.Machine

/-! ### The tests on one point -/

/-- The condition under which each of the tests 2 to 5 is the first to fail on a point (Table 2-2). -/
def FailsAt (yTop : Nat) (prev : Option Point) (p : Point) : CurveFault → Prop
  | .count => False
  | .xRange => 30000 < p.x
  | .yRange => p.x ≤ 30000 ∧ yTop < p.y
  | .xOrder => p.x ≤ 30000 ∧ p.y ≤ yTop ∧ ∃ q, prev = some q ∧ p.x ≤ q.x
  | .yOrder => p.x ≤ 30000 ∧ p.y ≤ yTop ∧ ∃ q, prev = some q ∧ q.x < p.x ∧ p.y < q.y

theorem pointFault_fails {yTop : Nat} {prev : Option Point} {p : Point} {f : CurveFault} (h : pointFault yTop prev p = some f) :
    FailsAt yTop prev p f := by
  unfold pointFault at h
  split at h
  next hx => cases h; exact hx
  next hx =>
    split at h
    next hy => cases h; exact ⟨by omega, hy⟩
    next hy =>
      cases prev with
      | none => cases h
      | some q =>
        dsimp only at h
        split at h
        next ho => cases h; exact ⟨by omega, by omega, q, rfl, ho⟩
        next ho =>
          split at h
          next hd => cases h; exact ⟨by omega, by omega, q, rfl, by omega, hd⟩
          · cases h

theorem pointFault_none_iff {yTop : Nat} {prev : Option Point} {p : Point} : pointFault yTop prev p = none ↔
    p.x ≤ 30000 ∧ p.y ≤ yTop ∧ ∀ q, prev = some q → q.x < p.x ∧ q.y ≤ p.y := by
  unfold pointFault
  cases prev with
  | none =>
    simp only [reduceCtorEq, false_imp_iff, implies_true, and_true]
    split_ifs <;> simp <;> omega
  | some q =>
    simp only [Option.some.injEq, forall_eq']
    split_ifs <;> simp <;> omega

/-! ### The tests on a list of points -/

/-- What the tests find on the point at index `j`, its predecessor before it; `prev` stands before the list. -/
def faultAt (yTop : Nat) (prev : Option Point) (ps : List Point) (j : Nat) : Option CurveFault :=
  ps[j]?.bind (pointFault yTop (if j = 0 then prev else ps[j - 1]?))

theorem faultAt_zero (yTop : Nat) (prev : Option Point) (p : Point) (ps : List Point) :
    faultAt yTop prev (p :: ps) 0 = pointFault yTop prev p := rfl

theorem faultAt_succ (yTop : Nat) (prev : Option Point) (p : Point) (ps : List Point) (j : Nat) :
    faultAt yTop prev (p :: ps) (j + 1) = faultAt yTop (some p) ps j := by
  cases j <;> rfl

theorem pointsFault_none_iff {yTop : Nat} {ps : List Point} {i : Nat} {prev : Option Point} :
    pointsFault yTop i prev ps = none ↔ ∀ j, faultAt yTop prev ps j = none := by
  induction ps generalizing i prev with
  | nil => exact ⟨fun _ _ => rfl, fun _ => rfl⟩
  | cons p ps ih =>
    rw [← Nat.and_forall_add_one, pointsFault]
    simp only [faultAt_zero, faultAt_succ]
    cases hp : pointFault yTop prev p with
    | none => simp [ih]
    | some f => simp

/-- The tests stop at the first point that fails. -/
theorem pointsFault_some {yTop : Nat} {ps : List Point} {i : Nat} {prev : Option Point} {f : CurveFault} {k : Nat}
    (h : pointsFault yTop i prev ps = some (f, k)) :
    ∃ j, k = i + j ∧ faultAt yTop prev ps j = some f ∧ ∀ m, m < j → faultAt yTop prev ps m = none := by
  induction ps generalizing i prev with
  | nil => cases h
  | cons p ps ih =>
    rw [pointsFault] at h
    cases hp : pointFault yTop prev p with
    | some g =>
      rw [hp] at h
      cases h
      exact ⟨0, rfl, hp, fun m hm => absurd hm (Nat.not_lt_zero m)⟩
    | none =>
      rw [hp] at h
      obtain ⟨j, hk, hf, before⟩ := ih h
      refine ⟨j + 1, by omega, (faultAt_succ ..).trans hf, fun m hm => ?_⟩
      cases m with
      | zero => exact hp
      | succ m => exact (faultAt_succ ..).trans (before m (by omega))

/-! ### The judgement of a copy -/

/-- The point in slot `i`. -/
def CurveCopy.point (c : CurveCopy) (i : Nat) : Point := c.slots.toList.getD i ⟨0, 0⟩

/-- The point in slot `i` passes the tests 2 to 5. -/
def CurveCopy.passes (c : CurveCopy) (id : CurveId) (i : Nat) : Prop :=
  (c.point i).x ≤ 30000 ∧ (c.point i).y ≤ id.yTop ∧
    (i ≠ 0 → (c.point (i - 1)).x < (c.point i).x ∧ (c.point (i - 1)).y ≤ (c.point i).y)

theorem CurveCopy.points_get {c : CurveCopy} (hn : c.n ≤ 16) {i : Nat} (hi : i < c.n) : c.points[i]? = some (c.point i) := by
  have hl : i < c.slots.toList.length := by simp; omega
  rw [points, List.getElem?_take_of_lt hi, point, List.getD_eq_getElem?_getD, List.getElem?_eq_getElem hl]
  rfl

theorem CurveCopy.points_end {c : CurveCopy} {i : Nat} (hi : c.n ≤ i) : c.points[i]? = none :=
  List.getElem?_take_eq_none hi

theorem CurveCopy.points_length {c : CurveCopy} (hn : c.n ≤ 16) : c.points.length = c.n := by simp [points, hn]

/-- What the tests find in slot `i`. -/
theorem CurveCopy.faultAt_eq {c : CurveCopy} (id : CurveId) (hn : c.n ≤ 16) {i : Nat} (hi : i < c.n) :
    faultAt id.yTop none c.points i = pointFault id.yTop (if i = 0 then none else some (c.point (i - 1))) (c.point i) := by
  rw [faultAt, points_get hn hi, points_get hn (show i - 1 < c.n by omega)]
  rfl

theorem CurveCopy.faultAt_none_iff {c : CurveCopy} {id : CurveId} (hn : c.n ≤ 16) {i : Nat} (hi : i < c.n) :
    faultAt id.yTop none c.points i = none ↔ c.passes id i := by
  rw [faultAt_eq id hn hi, pointFault_none_iff, passes]
  split <;> simp_all

theorem CurveCopy.fault_counted {c : CurveCopy} (id : CurveId) (h2 : 2 ≤ c.n) (hn : c.n ≤ 16) :
    c.fault id = pointsFault id.yTop 0 none c.points := if_neg (by omega)

theorem CurveCopy.fault_none_iff {c : CurveCopy} {id : CurveId} (h2 : 2 ≤ c.n) (hn : c.n ≤ 16) :
    c.fault id = none ↔ ∀ i, i < c.n → c.passes id i := by
  rw [fault_counted id h2 hn, pointsFault_none_iff]
  refine ⟨fun h i hi => (faultAt_none_iff hn hi).mp (h i), fun h i => ?_⟩
  obtain hi | hi := Nat.lt_or_ge i c.n
  · exact (faultAt_none_iff hn hi).mpr (h i hi)
  · rw [faultAt, points_end hi]; rfl

/-- A fault of a copy with a good count: the first slot that fails, and the first test that fails there. -/
theorem CurveCopy.fault_some {c : CurveCopy} {id : CurveId} {f : CurveFault} {i : Nat} (h2 : 2 ≤ c.n) (hn : c.n ≤ 16)
    (h : c.fault id = some (f, i)) :
    i < c.n ∧ ¬c.passes id i ∧ (∀ j, j < i → c.passes id j) ∧
      FailsAt id.yTop (if i = 0 then none else some (c.point (i - 1))) (c.point i) f := by
  rw [fault_counted id h2 hn] at h
  obtain ⟨j, rfl, hf, before⟩ := pointsFault_some h
  rw [Nat.zero_add]
  have hj : j < c.n := by
    by_contra hj
    rw [faultAt, points_end (by omega)] at hf
    cases hf
  refine ⟨hj, fun hp => ?_, fun m hm => (faultAt_none_iff hn (hm.trans hj)).mp (before m hm), ?_⟩
  · rw [(faultAt_none_iff hn hj).mpr hp] at hf
    cases hf
  · rw [faultAt_eq id hn hj] at hf
    exact pointFault_fails hf

theorem CurveCopy.fault_count_iff {c : CurveCopy} {id : CurveId} : c.fault id = some (.count, 255) ↔ c.n < 2 ∨ 16 < c.n := by
  refine ⟨fun h => ?_, fun h => if_pos h⟩
  by_contra hc
  obtain ⟨-, -, -, fails⟩ := fault_some (by omega) (by omega) h
  exact fails

theorem CurveCopy.valid_iff_passes {c : CurveCopy} {id : CurveId} :
    c.valid id = true ↔ 2 ≤ c.n ∧ c.n ≤ 16 ∧ ∀ i, i < c.n → c.passes id i := by
  rw [valid_iff]
  refine ⟨fun h => ?_, fun ⟨h2, hn, hp⟩ => (fault_none_iff h2 hn).mpr hp⟩
  obtain ⟨h2, hn⟩ := valid_count (valid_iff.mpr h)
  exact ⟨h2, hn, (fault_none_iff h2 hn).mp h⟩

/-- Settles O29. -/
theorem curveJudgementFollowsItsTests : Obligations.CurveJudgementFollowsItsTests := by
  intro id c pt passes
  refine ⟨CurveCopy.valid_iff_passes, CurveCopy.fault_count_iff, rfl, fun f i h2 hn h => ?_⟩
  obtain ⟨hi, fail, before, fails⟩ := CurveCopy.fault_some h2 hn h
  refine ⟨hi, fail, before, ?_⟩
  cases f with
  | count => exact fails
  | xRange => exact fails
  | yRange => exact fails
  | xOrder =>
    obtain ⟨hx, hy, q, hq, ho⟩ := fails
    split at hq <;> cases hq
    next h0 => exact ⟨hx, hy, h0, ho⟩
  | yOrder =>
    obtain ⟨hx, hy, q, hq, ho, hd⟩ := fails
    split at hq <;> cases hq
    next h0 => exact ⟨hx, hy, h0, ho, hd⟩

/-! ### Interpolation -/

/-- A point at or past the first of a list whose x rises lies in the segment of the two points that bound it. -/
theorem interpFrom_segment (mode : RoundMode) {x : Nat} {ps : List Point} {p : Point}
    (hp : (p :: ps).Pairwise fun a b => a.x < b.x) {i : Nat} {a b : Point} (ha : (p :: ps)[i]? = some a)
    (hb : (p :: ps)[i + 1]? = some b) (hl : a.x ≤ x) (hr : x < b.x) :
    interpFrom mode x p ps = ⟨segmentValue mode a b x, false, false⟩ := by
  induction ps generalizing p i with
  | nil => cases hb
  | cons q ps ih =>
    obtain ⟨-, hq⟩ := List.pairwise_cons.mp hp
    rw [interpFrom]
    cases i with
    | zero =>
      cases ha
      cases hb
      exact if_pos hr
    | succ i =>
      have hqa : q.x ≤ a.x := by
        obtain rfl | hm := List.mem_cons.mp (List.mem_of_getElem? (l := q :: ps) ha)
        · exact le_rfl
        · exact ((List.pairwise_cons.mp hq).1 a hm).le
      rw [if_neg (by omega)]
      exact ih hq ha hb

/-- At the last point and past it the last point's y is given. -/
theorem interpFrom_last (mode : RoundMode) {x : Nat} {ps : List Point} {p : Point}
    (hp : (p :: ps).Pairwise fun a b => a.x < b.x) {z : Point} (hz : (p :: ps)[ps.length]? = some z) (hx : z.x ≤ x) :
    interpFrom mode x p ps = ⟨z.y, false, decide (z.x < x)⟩ := by
  induction ps generalizing p with
  | nil => cases hz; rfl
  | cons q ps ih =>
    obtain ⟨-, hq⟩ := List.pairwise_cons.mp hp
    have hqz : q.x ≤ z.x := by
      obtain rfl | hm := List.mem_cons.mp (List.mem_of_getElem? (l := q :: ps) hz)
      · exact le_rfl
      · exact ((List.pairwise_cons.mp hq).1 z hm).le
    rw [interpFrom, if_neg (by omega)]
    exact ih hq hz

/-- The segment value lies between the y of the two points, and is the first one's at the first (R31). -/
theorem segmentValue_between (mode : RoundMode) {p q : Point} {x : Nat} (hl : p.x ≤ x) (hr : x < q.x) (hy : p.y ≤ q.y) :
    p.y ≤ segmentValue mode p q x ∧ segmentValue mode p q x ≤ q.y ∧ (x = p.x → segmentValue mode p q x = p.y) ∧
    (segmentValue mode p q x : Int) = p.y + roundDiv mode (((q.y : Int) - p.y) * ((x : Int) - p.x)) (q.x - p.x) := by
  have den : 0 < q.x - p.x := by omega
  have rise : (0 : Int) ≤ (q.y : Int) - p.y := by omega
  have low : 0 ≤ roundDiv mode (((q.y : Int) - p.y) * ((x : Int) - p.x)) (q.x - p.x) :=
    roundDiv_nonneg mode den (mul_nonneg rise (by omega))
  have high : roundDiv mode (((q.y : Int) - p.y) * ((x : Int) - p.x)) (q.x - p.x) ≤ (q.y : Int) - p.y :=
    roundDiv_le mode den (mul_le_mul_of_nonneg_left (by omega) rise)
  have start (h : x = p.x) : roundDiv mode (((q.y : Int) - p.y) * ((x : Int) - p.x)) (q.x - p.x) = 0 := by
    simpa [h] using roundDiv_mul mode 0 den
  have value : (segmentValue mode p q x : Int) =
      p.y + roundDiv mode (((q.y : Int) - p.y) * ((x : Int) - p.x)) (q.x - p.x) := Int.toNat_of_nonneg (by omega)
  refine ⟨by omega, by omega, fun h => ?_, value⟩
  have := start h
  omega

/-- The x of a valid copy's points rises (R29, test 4). -/
theorem CurveCopy.points_rise {c : CurveCopy} {id : CurveId} (h : c.valid id = true) :
    c.points.Pairwise fun a b => a.x < b.x := by
  obtain ⟨-, hn, passes⟩ := valid_iff_passes.mp h
  have chain : (c.points.map Point.x).IsChain (· < ·) := by
    rw [List.isChain_iff_getElem]
    intro i hi
    rw [List.length_map, points_length hn] at hi
    have get {j : Nat} (hj : j < c.points.length) (hc : j < c.n) : c.points[j] = c.point j :=
      Option.some.inj ((List.getElem?_eq_getElem hj).symm.trans (points_get hn hc))
    rw [List.getElem_map, List.getElem_map, get _ (by omega), get _ hi]
    obtain ⟨-, -, order⟩ := passes (i + 1) hi
    exact (order (by omega)).1
  exact List.pairwise_map.mp (List.isChain_iff_pairwise.mp chain)

/-- Settles O30. -/
theorem interpolationStaysInItsSegment : Obligations.InterpolationStaysInItsSegment := by
  intro id c mode x h pt r
  obtain ⟨h2, hn, passes⟩ := CurveCopy.valid_iff_passes.mp h
  have rises := CurveCopy.points_rise h
  have get {i : Nat} (hi : i < c.n) : c.points[i]? = some (pt i) := CurveCopy.points_get hn hi
  have length := CurveCopy.points_length hn
  have result : r = interpPoints mode x c.points := rfl
  cases hps : c.points with
  | nil =>
    rw [hps, List.length_nil] at length
    omega
  | cons p ps =>
    rw [hps] at rises get length result
    rw [List.length_cons] at length
    have first : p = pt 0 := Option.some.inj (get (i := 0) (by omega))
    have start {i : Nat} (hi : i < c.n) : p.x ≤ (pt i).x := by
      obtain e | hm := List.mem_cons.mp (List.mem_of_getElem? (get hi))
      · rw [e]
      · exact ((List.pairwise_cons.mp rises).1 _ hm).le
    have inside (hx : p.x ≤ x) : r = interpFrom mode x p ps := by rw [result, interpPoints, if_neg (by omega)]
    have last (hx : (pt (c.n - 1)).x ≤ x) : r = ⟨(pt (c.n - 1)).y, false, decide ((pt (c.n - 1)).x < x)⟩ := by
      rw [inside ((start (by omega)).trans hx)]
      refine interpFrom_last mode rises ?_ hx
      rw [show ps.length = c.n - 1 by omega]
      exact get (by omega)
    refine ⟨fun hx => ?_, fun hx => ?_, fun hx => ?_, fun i hi hl hr => ?_⟩
    · rw [result, interpPoints, first, if_pos hx]
    · rw [last (by omega), hx, decide_eq_false (lt_irrefl _)]
    · rw [last (by omega), decide_eq_true hx]
    · obtain ⟨-, -, order⟩ := passes (i + 1) hi
      have value : r = ⟨segmentValue mode (pt i) (pt (i + 1)) x, false, false⟩ := by
        rw [inside ((start (by omega)).trans hl)]
        exact interpFrom_segment mode rises (get (i := i) (by omega)) (get hi) hl hr
      rw [value]
      exact ⟨rfl, rfl, segmentValue_between mode hl hr (order (by omega)).2⟩

end Sys2Proof.Machine
end

section
/-! PROOFS. The requests that name a curve (R32 to R39): what their owner does in each case, and the requests as presented. -/

namespace Sys2Proof.Machine

/-! ### Codes and parameters -/

@[simp] theorem CurveId.ofCode_code (id : CurveId) : CurveId.ofCode id.code = some id := by cases id <;> rfl

theorem CurveId.ofCode_none {k : Nat} (h : 1 < k) : CurveId.ofCode k = none := by
  unfold CurveId.ofCode
  split
  · omega
  · omega
  · rfl

theorem CurveId.code_named {k : Nat} {id : CurveId} (h : CurveId.ofCode k = some id) : ¬1 < k := fun hk => by
  rw [ofCode_none hk] at h
  cases h

@[simp] theorem byte_toNat (b : Byte) : byte b.toNat = [b] := by simp [byte, be]

theorem params_one (c : Byte) : nth (params [1] [c]) 0 = c.toNat := congrArg (nth · 0) (params_bytes [c])

/-- Three bytes ahead of the rest. -/
theorem params_three (c a k : Byte) (more : List Byte) :
    params [1, 1, 1] (c :: a :: k :: more) = [c.toNat, a.toNat, k.toNat] := by
  simp [params, readFields, ofBe_singleton]

/-! ### The owner's four operations on a shadow -/

section
variable (st : Station) (id : CurveId) {code : Nat}

theorem Station.copyCurve_unnamed (h : 1 < code) : st.copyCurve code = (.range, st) := by
  rw [Station.copyCurve, CurveId.ofCode_none h]

theorem Station.copyCurve_busy (h : (st.crv.curve id).mark ≠ none) : st.copyCurve id.code = (.final .refusedBusy [], st) := by
  simp [Station.copyCurve, Option.isSome_iff_ne_none.mpr h]

theorem Station.copyCurve_free (h : (st.crv.curve id).mark = none) : st.copyCurve id.code =
    (.done (byte id.code ++ byte (st.crv.curve id).active.n),
      st.setCurve id { st.crv.curve id with shadow := (st.crv.curve id).active }) := by
  simp [Station.copyCurve, h]

theorem Station.setCurveCount_range {n : Nat} (h : 1 < code ∨ 16 < n) : st.setCurveCount code n = (.range, st) := by
  unfold Station.setCurveCount
  split
  · rfl
  next hc => exact if_pos (h.resolve_left (CurveId.code_named hc))

theorem Station.setCurveCount_busy {n : Nat} (h : (st.crv.curve id).mark ≠ none) (hn : n ≤ 16) :
    st.setCurveCount id.code n = (.final .refusedBusy [], st) := by
  simp [Station.setCurveCount, Option.isSome_iff_ne_none.mpr h, hn]

theorem Station.setCurveCount_free {n : Nat} (h : (st.crv.curve id).mark = none) (hn : n ≤ 16) :
    st.setCurveCount id.code n = (.done (byte id.code ++ byte n),
      st.setCurve id { st.crv.curve id with shadow := { (st.crv.curve id).shadow with n := n } }) := by
  simp [Station.setCurveCount, h, hn]

theorem Station.writeCurvePoints_range {a : Nat} {ps : List Point}
    (h : 1 < code ∨ 15 < a ∨ ps.length < 1 ∨ 16 < ps.length ∨ 16 < a + ps.length) :
    st.writeCurvePoints code a ps = (.range, st) := by
  unfold Station.writeCurvePoints
  split
  · rfl
  next hc => exact if_pos (h.resolve_left (CurveId.code_named hc))

theorem Station.writeCurvePoints_busy {a : Nat} {ps : List Point} (h : (st.crv.curve id).mark ≠ none) (h1 : 1 ≤ ps.length)
    (ha : a ≤ 15) (hk : a + ps.length ≤ 16) : st.writeCurvePoints id.code a ps = (.final .refusedBusy [], st) := by
  have inRange : ¬(15 < a ∨ ps.length < 1 ∨ 16 < ps.length ∨ 16 < a + ps.length) := by omega
  rw [Station.writeCurvePoints, CurveId.ofCode_code]
  dsimp only
  rw [if_neg inRange, if_pos (Option.isSome_iff_ne_none.mpr h)]

theorem Station.writeCurvePoints_free {a : Nat} {ps : List Point} (h : (st.crv.curve id).mark = none) (h1 : 1 ≤ ps.length)
    (ha : a ≤ 15) (hk : a + ps.length ≤ 16) : st.writeCurvePoints id.code a ps =
      (.done (byte id.code ++ byte (a + ps.length)), st.setCurve id { st.crv.curve id with
        shadow := { (st.crv.curve id).shadow with slots := writePoints ps a (st.crv.curve id).shadow.slots } }) := by
  have inRange : ¬(15 < a ∨ ps.length < 1 ∨ 16 < ps.length ∨ 16 < a + ps.length) := by omega
  rw [Station.writeCurvePoints, CurveId.ofCode_code]
  dsimp only
  rw [if_neg inRange, if_neg (by simp [h])]

theorem Station.commitCurve_unnamed (p : PortId) (h : 1 < code) : st.commitCurve p code = (.range, st) := by
  rw [Station.commitCurve, CurveId.ofCode_none h]

theorem Station.commitCurve_busy (p : PortId) (h : (st.crv.curve id).mark ≠ none) :
    st.commitCurve p id.code = (.final .refusedBusy [], st) := by
  simp [Station.commitCurve, Option.isSome_iff_ne_none.mpr h]

theorem Station.commitCurve_faulty (p : PortId) (h : (st.crv.curve id).mark = none) {f : CurveFault} {i : Nat}
    (hf : (st.crv.curve id).shadow.fault id = some (f, i)) :
    st.commitCurve p id.code = (.final .refusedRange (byte id.code ++ byte f.code ++ byte i), st) := by
  simp [Station.commitCurve, h, hf]

theorem Station.commitCurve_valid (p : PortId) (h : (st.crv.curve id).mark = none)
    (hv : (st.crv.curve id).shadow.valid id = true) : st.commitCurve p id.code =
      (⟨.pending, byte id.code, some (.commit id)⟩, st.setCurve id { st.crv.curve id with mark := some p }) := by
  simp [Station.commitCurve, h, CurveCopy.valid_iff.mp hv]

end

/-! ### The requests as presented -/

section
variable {s : State} {p : PortId} {rest : List Byte}

theorem exec_copyCurve {c : Byte} (h : s.st.admits p .configure (.fixed 1) rest [c]) : exec (.copyCurve p rest) s =
    .next { s with st := Station.answer p 0x64 ((s.st.rise p (1 + rest.length)).copyCurve c.toNat) } := by
  refine (State.on_intake_admits (k := ⟨0x64, .configure, .fixed 1⟩) _ h).trans ?_
  rw [params_one]

theorem exec_commitCurve {c : Byte} (h : s.st.admits p .configure (.fixed 1) rest [c]) : exec (.commitCurve p rest) s =
    .next { s with st := Station.answer p 0x67 ((s.st.rise p (1 + rest.length)).commitCurve p c.toNat) } := by
  refine (State.on_intake_admits (k := ⟨0x67, .configure, .fixed 1⟩) _ h).trans ?_
  rw [params_one]

theorem exec_setCurveCount {c n : Byte} (h : s.st.admits p .configure (.fixed 2) rest [c, n]) :
    exec (.setCurveCount p rest) s =
      .next { s with st := Station.answer p 0x66 ((s.st.rise p (1 + rest.length)).setCurveCount c.toNat n.toNat) } := by
  obtain ⟨first, second⟩ := params_pair c n
  refine (State.on_intake_admits (k := ⟨0x66, .configure, .fixed 2⟩) _ h).trans ?_
  rw [first, second]

theorem exec_writeCurvePoints {c a k : Byte} {more : List Byte}
    (h : s.st.admits p .configure (.counted 2 5) rest (c :: a :: k :: more)) :
    let r := (s.st.rise p (1 + rest.length)).writeCurvePoints c.toNat a.toNat (pointsOf k.toNat more)
    exec (.writeCurvePoints p rest) s = .next { s with st := Station.answer p 0x65 r } := by
  refine (State.on_intake_admits (k := ⟨0x65, .configure, .counted 2 5⟩) _ h).trans ?_
  rw [params_three]
  rfl

end

theorem rise_curve (st : Station) (p : PortId) (k : Nat) (id : CurveId) : (st.rise p k).crv.curve id = st.crv.curve id := by
  rw [Station.rise_crv]

/-- Settles O31. -/
theorem copyAndCountOfAShadow : Obligations.CopyAndCountOfAShadow := by
  refine ⟨fun s p rest c id h => ⟨fun hc => ?_, fun hc hm => ?_⟩,
    fun s p rest c n id h => ⟨fun hr => ?_, fun hc hm hn => ?_, fun hn => if_pos (.inl hn)⟩⟩
  · rw [exec_copyCurve h, Station.copyCurve_unnamed _ hc]
    rfl
  · rw [exec_copyCurve h, hc, Station.copyCurve_free _ _ (by rwa [rise_curve]), rise_curve, ← hc, byte_toNat]
    simp only [State.replied, Station.answer, rise_curve]
  · rw [exec_setCurveCount h, Station.setCurveCount_range _ hr]
    rfl
  · rw [exec_setCurveCount h, hc, Station.setCurveCount_free _ _ (by rwa [rise_curve]) hn, ← hc, byte_toNat, byte_toNat]
    rfl

/-! ### Points written into the shadow -/

theorem pointsOf_length (k : Nat) (bs : List Byte) : (pointsOf k bs).length = k := by
  induction k generalizing bs with
  | zero => rfl
  | succ k ih => rw [pointsOf, List.length_cons, ih]

/-- The m-th point carried: x in 2 bytes, y in 3. -/
theorem pointsOf_get {k m : Nat} (bs : List Byte) (hm : m < k) :
    (pointsOf k bs)[m]? = some ⟨ofBe ((bs.drop (5 * m)).take 2), ofBe ((bs.drop (5 * m + 2)).take 3)⟩ := by
  induction k generalizing bs m with
  | zero => omega
  | succ k ih =>
    rw [pointsOf]
    cases m with
    | zero => rfl
    | succ m =>
      rw [List.getElem?_cons_succ, ih _ (by omega), List.drop_drop, List.drop_drop, show 5 * (m + 1) = 5 + 5 * m by omega,
        Nat.add_assoc]

/-- Points written stand in consecutive slots, and every other slot keeps its point (R33). -/
theorem writePoints_get {ps : List Point} {i : Nat} {v : Vector Point 16} (h : i + ps.length ≤ 16) (j : Nat) :
    (writePoints ps i v).toList[j]? = if i ≤ j ∧ j < i + ps.length then ps[j - i]? else v.toList[j]? := by
  induction ps generalizing i v with
  | nil => rw [writePoints, if_neg (by simp)]
  | cons p ps ih =>
    rw [List.length_cons] at h ⊢
    rw [writePoints, ih (by omega)]
    obtain hlt | rfl | hgt := lt_trichotomy j i
    · rw [if_neg (by omega), if_neg (by omega)]
      simp [Vector.toList_setIfInBounds, show i ≠ j by omega]
    · rw [if_neg (by omega), if_pos (by omega), Nat.sub_self]
      simp [Vector.toList_setIfInBounds, show j < 16 by omega]
    · have next : j - i = j - (i + 1) + 1 := by omega
      rw [next, List.getElem?_cons_succ]
      split
      · rw [if_pos (by omega)]
      · rw [if_neg (by omega)]
        simp [Vector.toList_setIfInBounds, show i ≠ j by omega]

/-- Settles O32. -/
theorem writeCurvePointsFillsSlots : Obligations.WriteCurvePointsFillsSlots := by
  intro s p rest more c a k id h
  have length := pointsOf_length k.toNat more
  refine ⟨fun hr => ?_, fun hc hm ha h1 hk hs =>
    ⟨writePoints (pointsOf k.toNat more) a.toNat (s.st.crv.curve id).shadow.slots, fun j => ?_, ?_⟩⟩
  · rw [exec_writeCurvePoints h, Station.writeCurvePoints_range _ (by rwa [length])]
    rfl
  · rw [List.getD_eq_getElem?_getD, writePoints_get (by rwa [length]), length]
    split
    next hj => rw [pointsOf_get more (by omega)]; rfl
    · rw [List.getD_eq_getElem?_getD]
  · rw [exec_writeCurvePoints h, hc, Station.writeCurvePoints_free _ _ (by rwa [rise_curve]) (by rwa [length]) ha
      (by rwa [length]), length, rise_curve, ← hc, byte_toNat]
    simp only [State.replied, Station.answer, rise_curve]

/-- Settles O33. -/
theorem commitCurveJudgesTheShadow : Obligations.CommitCurveJudgesTheShadow := by
  refine ⟨fun s p rest c h => ⟨fun hc => ⟨?_, ?_⟩,
      fun id hc => ⟨fun hm => ⟨?_, ?_⟩, fun hm => ⟨fun f i hf => ?_, fun hv => ?_⟩⟩⟩,
    fun s p rest c n id h hc hm => ?_, fun s p rest more c a k id h hc hm => ?_⟩
  · rw [exec_commitCurve h, Station.commitCurve_unnamed _ _ hc]
    rfl
  · rw [exec_copyCurve h, Station.copyCurve_unnamed _ hc]
    rfl
  · rw [exec_commitCurve h, hc, Station.commitCurve_busy _ _ _ (by rwa [rise_curve])]
    rfl
  · rw [exec_copyCurve h, hc, Station.copyCurve_busy _ _ (by rwa [rise_curve])]
    rfl
  · rw [exec_commitCurve h, hc, Station.commitCurve_faulty _ _ _ (by rwa [rise_curve]) (by rwa [rise_curve]), ← hc, byte_toNat]
    rfl
  · rw [exec_commitCurve h, hc, Station.commitCurve_valid _ _ _ (by rwa [rise_curve]) (by rwa [rise_curve]), ← hc, byte_toNat]
    rfl
  · rw [exec_setCurveCount h]
    split
    next hn => rw [hc, Station.setCurveCount_busy _ _ (by rwa [rise_curve]) hn]; rfl
    next hn => rw [Station.setCurveCount_range _ (.inr (by omega))]; rfl
  · have length := pointsOf_length k.toNat more
    rw [exec_writeCurvePoints h]
    split
    next hr =>
      obtain ⟨ha, h1, hk⟩ := hr
      rw [hc, Station.writeCurvePoints_busy _ _ (by rwa [rise_curve]) (by rwa [length]) ha (by rwa [length])]
      rfl
    next hr =>
      rw [Station.writeCurvePoints_range _ (code := c.toNat) (a := a.toNat) (ps := pointsOf k.toNat more) (by omega)]
      rfl

/-! ### READ CURVE -/

/-- Downward from slot `i` there is room for `i + 1` points. -/
theorem readSlots_down {i k : Nat} (hk : 1 ≤ k) :
    readSlots true i k = ((List.range (min k (i + 1))).map fun j => i - j, decide (k ≤ i + 1)) := by
  induction k generalizing i with
  | zero => omega
  | succ k ih =>
    unfold readSlots
    by_cases h0 : k = 0
    · subst h0
      simp
    · cases i with
      | zero => simp [h0]
      | succ i =>
        rw [if_neg h0, if_pos rfl, if_neg (by omega), Nat.add_sub_cancel, ih (by omega), Nat.add_min_add_right,
          List.range_succ_eq_map, List.map_cons, List.map_map]
        simp [Function.comp_def]

/-- Upward from slot `i` there is room for `16 - i` points. -/
theorem readSlots_up {i k : Nat} (hi : i ≤ 15) (hk : 1 ≤ k) :
    readSlots false i k = ((List.range (min k (16 - i))).map fun j => i + j, decide (k ≤ 16 - i)) := by
  induction k generalizing i with
  | zero => omega
  | succ k ih =>
    unfold readSlots
    by_cases h0 : k = 0
    · subst h0
      simp [show 1 ≤ 16 - i by omega]
    · by_cases h15 : 15 ≤ i
      · obtain rfl : i = 15 := by omega
        simp [h0]
      · rw [if_neg h0, if_neg (by decide), if_neg h15, ih (by omega) (by omega),
          show 16 - i = 16 - (i + 1) + 1 by omega, Nat.add_min_add_right, List.range_succ_eq_map, List.map_cons, List.map_map]
        simp only [Function.comp_def, Nat.add_zero, Nat.succ_eq_add_one, Nat.add_le_add_iff_right, ← Nat.add_assoc,
          Nat.add_right_comm i 1]

/-- A point of a reply in the form asked for (R37). -/
theorem pointBytes_form (form : Nat) (c : CurveCopy) : pointBytes (form == 1) c = fun i =>
    byte i ++ be 2 (c.slots.toList.getD i ⟨0, 0⟩).x ++ (if form = 1 then be 3 (c.slots.toList.getD i ⟨0, 0⟩).y else
      be 2 (min 65535 (c.slots.toList.getD i ⟨0, 0⟩).y)) := by
  funext i
  simp only [pointBytes, beq_iff_eq, Config.top16]

theorem exec_readCurve {s : State} {p : PortId} {rest : List Byte} {cv cp start k dir form : Byte} {reply : Reply}
    (h : s.st.admits p .view (.fixed 6) rest [cv, cp, start, k, dir, form])
    (hr : s.st.readCurve cv.toNat cp.toNat start.toNat k.toNat dir.toNat form.toNat = reply) :
    exec (.readCurve p rest) s = .next (s.answered p rest 0x08 reply) := by
  refine State.on_intake_reading (k := ⟨0x08, .view, .fixed 6⟩) h ?_
  have values : params [1, 1, 1, 1, 1, 1] [cv, cp, start, k, dir, form] =
    [cv.toNat, cp.toNat, start.toNat, k.toNat, dir.toNat, form.toNat] := params_bytes [cv, cp, start, k, dir, form]
  rw [values, ← hr]
  simp only [Station.readCurve, Station.rise_crv]
  rfl

/-- Settles O18. -/
theorem readCurveWalksTheSlots : Obligations.ReadCurveWalksTheSlots := by
  refine ⟨fun down i k hi hk => ?_, fun s p rest cv cp start k dir form h => ⟨fun hr => exec_readCurve h ?_,
    fun id hc hp hs h1 hk hd hf => exec_readCurve h ?_⟩⟩
  · cases down with
    | true => exact readSlots_down hk
    | false => exact readSlots_up hi hk
  · unfold Station.readCurve
    split
    · rfl
    next hc =>
      have named := CurveId.code_named hc
      exact if_pos (by omega)
  · have operands : ¬(1 < cp.toNat ∨ 1 < dir.toNat ∨ 1 < form.toNat ∨ 15 < start.toNat ∨ k.toNat < 1 ∨ 16 < k.toNat) := by
      omega
    simp only [Station.readCurve, operands, if_false, byte_toNat, pointBytes_form, beq_iff_eq, Config.top16]
    rw [hc, CurveId.ofCode_code]
    rfl

end Sys2Proof.Machine
end

section
/-! PROOFS. The restore of the store image at a power-up (R43, R62, R66, R186), and the invariants at the reset state. -/

namespace Sys2Proof.Machine

/-! ### Settings one by one -/

/-- The restored values against the stored ones: a value that fails its test takes its default, every other is kept (R186). -/
def Mended (checks : List Bool) (stored defaults restored : List Nat) : Prop :=
  restored.length = defaults.length ∧
    ∀ j, j < defaults.length → restored.getD j 0 = if checks.getD j false then stored.getD j 0 else defaults.getD j 0

section
variable {checks : List Bool} {stored defaults : List Nat}

theorem mendValues_length (hc : checks.length = defaults.length) (hs : stored.length = defaults.length) :
    (mendValues checks stored defaults).length = defaults.length := by
  simp [mendValues, hc, hs]

theorem mendValues_mended (hc : checks.length = defaults.length) (hs : stored.length = defaults.length) :
    Mended checks stored defaults (mendValues checks stored defaults) := by
  refine ⟨mendValues_length hc hs, fun j hj => ?_⟩
  have hj' : j < (mendValues checks stored defaults).length := by rwa [mendValues_length hc hs]
  rw [List.getD_eq_getElem _ _ hj', List.getD_eq_getElem _ _ (hc ▸ hj), List.getD_eq_getElem _ _ (hs ▸ hj),
    List.getD_eq_getElem _ _ hj]
  simp [mendValues]

/-- Values that all pass are all kept. -/
theorem mendValues_fit (hc : checks.length = defaults.length) (hs : stored.length = defaults.length)
    (h : checks.all id = true) : mendValues checks stored defaults = stored := by
  refine List.ext_getElem (by rw [mendValues_length hc hs, hs]) fun j _ hj => ?_
  have passes : checks[j]'(by omega) = true := List.all_eq_true.mp h _ (List.getElem_mem _)
  simp [mendValues, passes]

end

/-- A list is its fields in order. -/
theorem fields_read (v : List Nat) : (List.range v.length).map (nth v) = v := by
  refine List.ext_getElem (by simp) fun j h _ => ?_
  simp [nth, List.getElem?_eq_getElem (show j < v.length by simpa using h)]

/-! ### Channel settings -/

theorem ChanSettings.ofValues_values (c : ChanSettings) : ofValues c.values = c := rfl

theorem ChanSettings.values_ofValues {v : List Nat} (h : v.length = 3) : (ofValues v).values = v := by
  conv_rhs => rw [← fields_read v, h]
  rfl

theorem ChanSettings.lengths (c : ChanSettings) : c.checks.length = ChanSettings.default.values.length ∧
    c.values.length = ChanSettings.default.values.length := ⟨rfl, rfl⟩

theorem ChanSettings.mend_mended (c : ChanSettings) :
    Mended c.checks c.values ChanSettings.default.values c.mend.values := by
  obtain ⟨checks, values⟩ := c.lengths
  rw [mend, values_ofValues (mendValues_length checks values)]
  exact mendValues_mended checks values

theorem ChanSettings.mend_fit {c : ChanSettings} (h : c.checks.all id = true) : c.mend = c := by
  obtain ⟨checks, values⟩ := c.lengths
  rw [mend, mendValues_fit checks values h, ofValues_values]

/-! ### Pump record settings -/

theorem PumpSettings.ofValues_values (c : PumpSettings) : ofValues c.values = c := by
  obtain ⟨installed⟩ := c
  cases installed <;> rfl

theorem PumpSettings.values_ofValues {v : List Nat} (h : v.length = 8) (h0 : nth v 0 ≤ 1) : (ofValues v).values = v := by
  have first : (if (nth v 0 == 1) = true then 1 else 0) = nth v 0 := by
    obtain h0 | h0 : nth v 0 = 0 ∨ nth v 0 = 1 := by omega
    · rw [h0]; rfl
    · rw [h0]; rfl
  conv_rhs => rw [← fields_read v, h]
  show (if (nth v 0 == 1) = true then 1 else 0) :: _ = _
  rw [first]
  rfl

/-- What a stored pump record has in its first place is a yes or a no, and is kept (assumption 35). -/
theorem PumpSettings.mended_installed (c : PumpSettings) :
    nth (mendValues (pumpFieldChecks c.values) c.values (default c.installed).values) 0 = if c.installed then 1 else 0 := by
  obtain ⟨installed⟩ := c
  cases installed <;> rfl

theorem PumpSettings.mend_installed (c : PumpSettings) : c.mend.installed = c.installed := by
  show (nth (mendValues (pumpFieldChecks c.values) c.values (default c.installed).values) 0 == 1) = c.installed
  rw [mended_installed]
  cases c.installed <;> rfl

theorem PumpSettings.lengths (c : PumpSettings) :
    (pumpFieldChecks c.values).length = (default c.installed).values.length ∧
    c.values.length = (default c.installed).values.length := ⟨rfl, rfl⟩

theorem PumpSettings.mend_mended (c : PumpSettings) :
    Mended (pumpFieldChecks c.values) c.values (default c.installed).values c.mend.values := by
  obtain ⟨checks, values⟩ := c.lengths
  have first : nth (mendValues (pumpFieldChecks c.values) c.values (default c.installed).values) 0 ≤ 1 := by
    rw [mended_installed]
    split <;> omega
  rw [mend, values_ofValues (mendValues_length checks values) first]
  exact mendValues_mended checks values

theorem PumpSettings.mend_fit {c : PumpSettings} (h : (pumpFieldChecks c.values).all id = true) : c.mend = c := by
  obtain ⟨checks, values⟩ := c.lengths
  rw [mend, mendValues_fit checks values h, ofValues_values]

/-! ### Station constants -/

theorem Constants.values_length (c : Constants) : c.values.length = 58 := by simp [values]

theorem Constants.lengths (c : Constants) : c.checks.length = Constants.default.values.length ∧
    c.values.length = Constants.default.values.length := by
  rw [values_length, values_length]
  exact ⟨by simp [checks], rfl⟩

theorem Constants.ofValues_values (c : Constants) : ofValues c.values = c := by
  have priorities : (Vector.ofFn fun k : Fin 32 => nth c.values (24 + k.val)) = c.priorities := by
    ext k hk
    rw [Vector.getElem_ofFn, nth, values, List.append_assoc, List.getD_append_right _ _ _ _ (Nat.le_add_right 24 k)]
    simp [List.getElem?_append_left, hk]
  have thresholds : nth c.values 56 = c.thresholdA ∧ nth c.values 57 = c.thresholdB := by
    constructor <;> rw [nth, values, List.getD_append_right _ _ _ _ (by simp)] <;> simp
  unfold ofValues
  rw [priorities, thresholds.1, thresholds.2]
  rfl

theorem Constants.values_ofValues {v : List Nat} (h : v.length = 58) : (ofValues v).values = v := by
  have priorities : (ofValues v).priorities.toList = (List.range 32).map fun k => nth v (24 + k) := by
    refine List.ext_getElem (by simp) fun k _ _ => ?_
    simp [ofValues]
  conv_rhs => rw [← fields_read v, h]
  rw [values, priorities]
  rfl

theorem Constants.mend_mended (c : Constants) :
    Mended c.checks c.values Constants.default.values c.mend.values := by
  obtain ⟨checks, values⟩ := c.lengths
  rw [mend, values_ofValues ((mendValues_length checks values).trans Constants.default.values_length)]
  exact mendValues_mended checks values

theorem Constants.mend_fit {c : Constants} (h : c.checks.all id = true) : c.mend = c := by
  obtain ⟨checks, values⟩ := c.lengths
  rw [mend, mendValues_fit checks values h, ofValues_values]

/-! ### Lists, tables, codes -/

/-- The pump settings as restored. -/
def StoredItems.mendedPumps (t : StoredItems) : Vector PumpSettings 6 := Vector.ofFn fun n : Fin 6 => t.pumps[n].mend

theorem StoredItems.mendedPumps_get (t : StoredItems) (n : PumpNo) : t.mendedPumps[n] = t.pumps[n].mend := by
  simp [mendedPumps]

theorem StoredItems.installedList_mended (t : StoredItems) : installedList t.mendedPumps = installedList t.pumps := by
  unfold installedList
  simp only [mendedPumps_get, PumpSettings.mend_installed]

theorem mem_installedList {pumps : Vector PumpSettings 6} {n : PumpNo} :
    n ∈ installedList pumps ↔ pumps[n].installed = true := by
  simp [installedList, allPumps]

theorem installedList_nodup (pumps : Vector PumpSettings 6) : (installedList pumps).Nodup := (List.nodup_finRange 6).filter _

/-- The test of R62 holds of the lists that name each installed pump once and no other (R60). -/
theorem rotation_test_iff {pumps : Vector PumpSettings 6} {l : List PumpNo} :
    (l.length = (installedList pumps).length ∧ l.all (fun n => pumps[n].installed) = true ∧ l.Nodup) ↔
      l.Nodup ∧ ∀ n : PumpNo, n ∈ l ↔ pumps[n].installed = true := by
  constructor
  · rintro ⟨length, all, nodup⟩
    have within : l ⊆ installedList pumps := fun n hn => mem_installedList.mpr (List.all_eq_true.mp all n hn)
    have perm : l.Perm (installedList pumps) := (nodup.subperm within).perm_of_length_le length.ge
    exact ⟨nodup, fun n => perm.mem_iff.trans mem_installedList⟩
  · rintro ⟨nodup, same⟩
    have perm : l.Perm (installedList pumps) :=
      (List.perm_ext_iff_of_nodup nodup (installedList_nodup pumps)).mpr fun n => (same n).trans mem_installedList.symm
    exact ⟨perm.length_eq, List.all_eq_true.mpr fun n hn => (same n).mp hn, nodup⟩

/-- A stored list of the installed pumps is restored (R62). -/
theorem restoreRotation_fit {pumps : Vector PumpSettings 6} {numbers : List Nat} {l : List PumpNo}
    (hl : pumpList numbers = some l) (h : l.Nodup ∧ ∀ n : PumpNo, n ∈ l ↔ pumps[n].installed = true) :
    restoreRotation pumps numbers = l := by
  rw [restoreRotation, hl]
  exact if_pos (rotation_test_iff.mpr h)

/-- Any other is rebuilt in ascending order (R62). -/
theorem restoreRotation_unfit {pumps : Vector PumpSettings 6} {numbers : List Nat}
    (h : ¬∃ l, pumpList numbers = some l ∧ l.Nodup ∧ ∀ n : PumpNo, n ∈ l ↔ pumps[n].installed = true) :
    restoreRotation pumps numbers = installedList pumps := by
  unfold restoreRotation
  split
  · rfl
  next l hl => exact if_neg fun ht => h ⟨l, hl, rotation_test_iff.mp ht⟩

theorem pumpList_numbers {numbers : List Nat} {l : List PumpNo} (h : pumpList numbers = some l) :
    l.map (fun n => n.val + 1) = numbers := by
  induction numbers generalizing l with
  | nil => cases h; rfl
  | cons k ks ih =>
    rw [pumpList] at h
    split at h
    next n ns hn hns =>
      cases h
      rw [List.map_cons, ih hns]
      unfold pumpOfNumber at hn
      split at hn
      · cases hn
        congr 1
        show k - 1 + 1 = k
        omega
      · cases hn
    · cases h

theorem restoreSetpoints_eq (pumps : Vector PumpSettings 6) (t : Setpoints) :
    restoreSetpoints pumps t = if t.failing (installedList pumps).length = none then t else .default := by
  unfold restoreSetpoints
  cases t.failing (installedList pumps).length <;> rfl

/-- The judgement of list and table hangs on which pumps are installed alone. -/
theorem StoredItems.restore_mended (t : StoredItems) :
    restoreRotation t.mendedPumps t.rotation = restoreRotation t.pumps t.rotation ∧
    restoreSetpoints t.mendedPumps t.setpoints = restoreSetpoints t.pumps t.setpoints := by
  simp only [restoreRotation, restoreSetpoints_eq, installedList_mended, mendedPumps_get, PumpSettings.mend_installed, and_self]

theorem AltMode.code_restored (k : Nat) : ((AltMode.ofCode k).getD .onCycle).code = if k ≤ 2 then k else 0 := by
  match k with
  | 0 => rfl
  | 1 => rfl
  | 2 => rfl
  | k + 3 => rw [if_neg (by omega)]; rfl

theorem RoundMode.code_restored (k : Nat) : ((RoundMode.ofCode k).getD .nearestAway).code = if k ≤ 2 then k else 0 := by
  match k with
  | 0 => rfl
  | 1 => rfl
  | 2 => rfl
  | k + 3 => rw [if_neg (by omega)]; rfl

/-! ### The power-up over a sound image -/

theorem exec_powerUp_sound {s : State} (h : s.st.sst.image.sound = true) : exec .powerUp s =
    .next { s with st := (s.st.fromItems s.st.sst.image.items false).record (.station .powerUp) } := by
  show s.on Station.powerUp = _
  rw [State.on_eq, Station.powerUp, if_pos h]

theorem fromItems_pumps (st : Station) (t : StoredItems) (b : Bool) (n : PumpNo) :
    (st.fromItems t b).pumps[n] = .powerUp t.pumps[n].mend t.startsTotal[n] t.runTotal[n] := by
  simp [Station.fromItems]

theorem fromItems_npos (st : Station) (t : StoredItems) (b : Bool) :
    (st.fromItems t b).npos = (installedList t.pumps).length := by
  rw [Station.npos, List.countP_eq_length_filter, installedList]
  simp only [fromItems_pumps, PumpRec.powerUp, PumpSettings.mend_installed]

theorem fromItems_rotation (st : Station) (t : StoredItems) (b : Bool) :
    (st.fromItems t b).dty.rotation = restoreRotation t.pumps t.rotation := t.restore_mended.1

theorem fromItems_setpoints (st : Station) (t : StoredItems) (b : Bool) : (st.fromItems t b).dty.setpoints =
    if t.setpoints.failing (st.fromItems t b).npos = none then t.setpoints else .default := by
  rw [fromItems_npos, ← restoreSetpoints_eq]
  exact t.restore_mended.2

theorem ofFn_get {α : Type} {v : Vector α 6} {f : PumpNo → α} (h : ∀ n : PumpNo, f n = v[n]) : Vector.ofFn f = v := by
  ext k hk
  rw [Vector.getElem_ofFn, h]
  rfl

/-- Items that are all fit are restored as they are stored (R186). -/
theorem fromItems_fit (st : Station) {t : StoredItems} (h : t.fit) (b : Bool) : (st.fromItems t b).storedItems = t := by
  obtain ⟨channels, pumps, constants, ⟨l, numbers, rotation⟩, alt, round, setpoints, volume, weir⟩ := h
  have channel {c : ChanSettings} (hc : c ∈ [t.wellA, t.wellB, t.inlet, t.weir]) : c.mend = c :=
    ChanSettings.mend_fit (channels c hc)
  have mended (n : PumpNo) : t.pumps[n].mend = t.pumps[n] := PumpSettings.mend_fit (pumps n)
  have order : (st.fromItems t b).dty.rotation.map (fun n => n.val + 1) = t.rotation := by
    rw [fromItems_rotation, restoreRotation_fit numbers rotation, pumpList_numbers numbers]
  have table : (st.fromItems t b).dty.setpoints = t.setpoints := by rw [fromItems_setpoints, fromItems_npos, if_pos setpoints]
  have mode : (st.fromItems t b).dty.mode.code = t.altMode := (AltMode.code_restored _).trans (if_pos alt)
  have rounding : (st.fromItems t b).lve.arith.mode.code = t.roundMode := (RoundMode.code_restored _).trans (if_pos round)
  have curves : t.volumeCurve.mend .volume .defaultVolume = t.volumeCurve ∧ t.weirCurve.mend .weir .defaultWeir = t.weirCurve :=
    ⟨if_pos volume, if_pos weir⟩
  have settings : (Vector.ofFn fun n : PumpNo => (st.fromItems t b).pumps[n].settings) = t.pumps :=
    ofFn_get fun n => (congrArg PumpRec.settings (fromItems_pumps st t b n)).trans (mended n)
  have starts : (Vector.ofFn fun n : PumpNo => (st.fromItems t b).pumps[n].startsTotal) = t.startsTotal :=
    ofFn_get fun n => congrArg PumpRec.startsTotal (fromItems_pumps st t b n)
  have runs : (Vector.ofFn fun n : PumpNo => (st.fromItems t b).pumps[n].runTotal) = t.runTotal :=
    ofFn_get fun n => congrArg PumpRec.runTotal (fromItems_pumps st t b n)
  unfold Station.storedItems
  rw [order, table, mode, rounding, settings, starts, runs]
  show StoredItems.mk t.wellA.mend t.wellB.mend t.inlet.mend t.weir.mend t.pumps t.rotation t.altMode t.setpoints t.constants.mend
    t.roundMode t.masks (t.volumeCurve.mend .volume .defaultVolume) (t.weirCurve.mend .weir .defaultWeir) t.startsTotal t.runTotal
    t.cyclesTotal t.eventCounter = t
  rw [channel (by simp), channel (by simp), channel (by simp), channel (by simp), Constants.mend_fit constants,
    curves.1, curves.2]

/-- Settles O7. -/
theorem powerUpRestoresFitItems : Obligations.PowerUpRestoresFitItems := by
  refine ⟨fun s h => ?_, fun s h fit => ?_⟩
  · intro i mended channel curve
    refine ⟨_, exec_powerUp_sound h, rfl, i.constants.mend_mended, fun n => ?_, i.wellA.mend_mended, i.wellB.mend_mended,
      i.inlet.mend_mended, i.weir.mend_mended, rfl, rfl, fromItems_setpoints s.st i false, fun l hl hr => ?_, fun hr => ?_,
      AltMode.code_restored _, RoundMode.code_restored _, rfl, rfl, rfl, rfl⟩
    · rw [Station.record_pumps, fromItems_pumps]
      exact ⟨PumpSettings.mend_installed _, PumpSettings.mend_mended _, rfl, rfl⟩
    · exact (fromItems_rotation s.st i false).trans (restoreRotation_fit hl hr)
    · exact (fromItems_rotation s.st i false).trans (restoreRotation_unfit hr)
  · refine ⟨_, exec_powerUp_sound h, rfl, fromItems_fit s.st fit false, rfl, rfl, rfl, Nat.zero_div 10, rfl, fun n => ?_⟩
    rw [Station.record_pumps, fromItems_pumps]
    exact ⟨by simp [Station.fromItems, ContactUnit.powerUp], rfl, rfl⟩

/-! ### The invariants at the reset state -/

/-- Settles O5: the bounds from what a power-up starts with, the rest by evaluation. -/
theorem resetMeetsTheInvariants : Obligations.ResetMeetsTheInvariants := by
  refine ⟨?_, ?_, ?_, ?_, ?_, powerUp_reset ▸ powerUp_curvesSafe Station.reset, ?_,
    ⟨Trace.powerUp_safe, Port.powerUp_safe, Port.powerUp_safe⟩, ?_⟩
  · unfold Station.pumpsSafe PumpRec.safe
    decide +kernel
  · unfold Station.loadSafe Station.rotationSafe
    decide +kernel
  · unfold Station.tableSafe
    decide +kernel
  · exact ⟨List.nodup_nil, by simp [Station.reset, StartControl.powerUp]⟩
  · unfold Station.alarmsSafe PointRec.safe
    decide +kernel
  · unfold Station.reportsSafe
    decide +kernel
  · unfold Station.levelSafe Channel.safe
    decide +kernel

end Sys2Proof.Machine
end

section
/-! PROOFS. The power-up over an unsound image (R186, R187, R174). -/

namespace Sys2Proof.Machine

/-- The defaults lie in their ranges, so a restore from them hands them over as they are (R186): the station of `Station.reset` but
for what the fallback reports (R174). -/
theorem fromItems_defaults (st : Station) : st.fromItems .defaults true = { Station.reset with
    ctu := st.ctu.powerUp .default, sst := .powerUp st.sst.image true, draws := st.draws, alt := .powerUp, rpq := .powerUp } := by
  have constants : Constants.default.mend = .default := by decide +kernel
  have channel : ChanSettings.default.mend = .default := by decide +kernel
  have volume : CurveCopy.mend .defaultVolume .volume .defaultVolume = .defaultVolume := by decide +kernel
  have weir : CurveCopy.mend .defaultWeir .weir .defaultWeir = .defaultWeir := by decide +kernel
  have pumps : (Vector.ofFn fun n : Fin 6 => PumpSettings.defaults[n].mend) = PumpSettings.defaults := by decide +kernel
  have duty : Duty.powerUp (restoreRotation PumpSettings.defaults [1, 2]) ((AltMode.ofCode 0).getD .onCycle)
      (restoreSetpoints PumpSettings.defaults .default) = .powerUp [0, 1] .onCycle .default := by decide +kernel
  have mode : (RoundMode.ofCode 0).getD .nearestAway = .nearestAway := by decide +kernel
  have records : (Vector.ofFn fun n : Fin 6 => PumpRec.powerUp PumpSettings.defaults[n] (Vector.replicate 6 0)[n]
      (Vector.replicate 6 0)[n]) = Station.reset.pumps := by decide +kernel
  simp only [Station.fromItems, StoredItems.defaults, constants, channel, volume, weir, pumps, duty, mode, records]
  rfl

/-- A report that differs from the condition held moves the point, in the table, the queue and the beacon (R154, R155, R158, R159). -/
theorem Station.report_moves {st : Station} {k : PointNo} {on : Bool} (h : st.alt.points[k].condition ≠ on) : st.report k on =
    let p := st.alt.points[k].reported on st.rpq.stationTime
    let points := st.alt.points.set k p
    let demand := beaconJudged points st.consts.priorities
    { st with
      alt := ⟨points, st.alt.attnA.qualify k on, st.alt.attnB.qualify k on, demand⟩
      rpq := st.rpq.create (.alarmChange k p.state)
      ctu := { st.ctu with beacon := if demand = st.alt.beaconDemand then st.ctu.beacon else demand } } := by
  rw [Station.report, if_neg h]
  rfl

/-- The fallback is reported to the Report Queue and then to the Alarm Table: three records, and point 32 raised (R174, R186). -/
theorem fallback_reported {st : Station} (ha : st.alt = .powerUp) (hr : st.rpq = .powerUp) (hc : st.consts = .default) :
    ((st.record (.station .powerUp)).record (.station .settingsDefault)).report Alarm.settingsDefault true =
      { st with alt := Station.reset.alt, rpq := Station.reset.rpq } := by
  rw [Station.report_moves (by simp [ha, AlarmTable.powerUp, PointRec.powerUp])]
  simp only [Station.record_alt, Station.record_rpq, Station.record_consts, Station.record_ctu, ha, hr, hc]
  have quiet : beaconJudged (AlarmTable.powerUp.points.set Alarm.settingsDefault
      (AlarmTable.powerUp.points[Alarm.settingsDefault].reported true
        ((ReportQueue.powerUp.create (.station .powerUp)).create (.station .settingsDefault)).stationTime))
      Constants.default.priorities = AlarmTable.powerUp.beaconDemand := by decide +kernel
  rw [if_pos quiet]
  rfl

/-- Every input begins its first settling against its raw level (R45, R48). -/
theorem ContactUnit.powerUp_input (c : ContactUnit) (k : Constants) (i : Input) :
    (c.powerUp k).input i = .powerUp (k.debounce i) (c.input i).raw := by
  cases i <;> simp [ContactUnit.powerUp, ContactUnit.input, Constants.debounce]

/-- Settles O6. -/
theorem powerUpFallsBackToDefaults : Obligations.PowerUpFallsBackToDefaults := by
  refine fun s h => ⟨?_, ContactUnit.powerUp_input _ _⟩
  show s.on Station.powerUp = _
  rw [State.on_eq, Station.powerUp, if_neg (by simp [h]), fromItems_defaults, fallback_reported rfl rfl rfl]

end Sys2Proof.Machine
end

section
/-! PROOFS. What the pump units leave to the rake and the Start Controller: the rake record, the rake drive, the last grant. -/

namespace Sys2Proof.Machine

/-- What no pump unit touches of the rake and the grants. -/
def Station.rakeSide (st : Station) : Rake × Drive × Option Nat := (st.rkc, st.ctu.drive, st.stc.lastGrant)

/-! ### Elementary updates -/

section
variable (st : Station) (n : PumpNo)

@[simp] theorem Station.setPump_rakeSide (p : PumpRec) : (st.setPump n p).rakeSide = st.rakeSide := rfl
@[simp] theorem Station.setPumpRun_rakeSide (on : Bool) : (st.setPumpRun n on).rakeSide = st.rakeSide := rfl
@[simp] theorem Station.setDeferred_rakeSide (d : Deferred) : (st.setDeferred n d).rakeSide = st.rakeSide := rfl
@[simp] theorem Station.setInhibit_rakeSide (on : Bool) : (st.setInhibit n on).rakeSide = st.rakeSide := rfl
@[simp] theorem Station.setPumpDemand_rakeSide : (st.setPumpDemand n).rakeSide = st.rakeSide := rfl
@[simp] theorem Station.prune_rakeSide : (st.prune n).rakeSide = st.rakeSide := rfl
@[simp] theorem Station.ring_rakeSide : st.ring.rakeSide = st.rakeSide := rfl
@[simp] theorem Station.resort_rakeSide : st.resort.rakeSide = st.rakeSide := rfl
@[simp] theorem Station.dequeue_rakeSide (m : Motor) : (st.dequeue m).rakeSide = st.rakeSide := rfl
@[simp] theorem Station.withdraw_rakeSide (m : Motor) : (st.withdraw m).rakeSide = st.rakeSide := rfl
@[simp] theorem Station.reportUnshed_rakeSide : (st.reportUnshed n).rakeSide = st.rakeSide := rfl
@[simp] theorem Station.setRotation_rakeSide (l : List PumpNo) : (st.setRotation l).rakeSide = st.rakeSide := rfl
@[simp] theorem Station.withDuty_rakeSide (d : Duty) : ({ st with dty := d } : Station).rakeSide = st.rakeSide := rfl
@[simp] theorem Station.report_rakeSide (k : PointNo) (on : Bool) : (st.report k on).rakeSide = st.rakeSide := by
  simp [Station.rakeSide]

theorem Station.enqueue_rakeSide_add (m : Motor) : ({ st with stc := { st.stc with
    queue := st.stc.queue ++ [(⟨m, st.uptime, .none⟩ : QEntry)] } } : Station).rakeSide = st.rakeSide := rfl

@[simp] theorem Station.enqueue_rakeSide (m : Motor) : (st.enqueue m).rakeSide = st.rakeSide := by
  simp [Station.enqueue, apply_ite Station.rakeSide, Station.enqueue_rakeSide_add]

@[simp] theorem Station.testPumpDown_rakeSide : st.testPumpDown.rakeSide = st.rakeSide := by
  unfold Station.testPumpDown Station.alternate
  split
  · split <;> simp
  · rfl

/-! ### Moves of a pump -/

@[simp] theorem Station.reportPump_rakeSide : (st.reportPump n).rakeSide = st.rakeSide := by
  simp [Station.reportPump, Station.judgeStartLimited]

@[simp] theorem Station.enter_rakeSide (s : PumpState) : (st.enter n s).rakeSide = st.rakeSide := by
  simp [Station.enter, apply_ite Station.rakeSide]

@[simp] theorem Station.clearDemand_rakeSide : (st.clearDemand n).rakeSide = st.rakeSide := by
  simp [Station.clearDemand, apply_ite Station.rakeSide]

@[simp] theorem Station.enterWaiting_rakeSide : (st.enterWaiting n).rakeSide = st.rakeSide := by simp [Station.enterWaiting]

@[simp] theorem Station.withdrawPump_rakeSide : (st.withdrawPump n).rakeSide = st.rakeSide := by
  simp [Station.withdrawPump, apply_ite Station.rakeSide]

@[simp] theorem Station.enterFaulted_rakeSide (c : PumpCause) : (st.enterFaulted n c).rakeSide = st.rakeSide := by
  simp [Station.enterFaulted]

@[simp] theorem Station.endRest_rakeSide : (st.endRest n).rakeSide = st.rakeSide := by
  simp [Station.endRest, apply_ite Station.rakeSide]

@[simp] theorem Station.enterResting_rakeSide : (st.enterResting n).rakeSide = st.rakeSide := by
  simp [Station.enterResting, apply_ite Station.rakeSide]

@[simp] theorem Station.stopNow_rakeSide : (st.stopNow n).rakeSide = st.rakeSide := by simp [Station.stopNow]

/-! ### Orders, grants, sheds -/

theorem Station.orderStart_rakeSide : (st.orderStart n).rakeSide = st.rakeSide := by
  unfold Station.orderStart
  split <;> simp [apply_ite Station.rakeSide]

theorem Station.orderStop_rakeSide : (st.orderStop n).rakeSide = st.rakeSide := by
  unfold Station.orderStop
  split <;> simp [apply_ite Station.rakeSide]

theorem Station.orderCutoff_rakeSide : (st.orderCutoff n).rakeSide = st.rakeSide := by
  unfold Station.orderCutoff
  split <;> simp

@[simp] theorem Station.order_rakeSide (o : Order) : (st.order n o).rakeSide = st.rakeSide := by
  cases o with
  | start => exact st.orderStart_rakeSide n
  | keep => exact st.orderStart_rakeSide n
  | stop => exact st.orderStop_rakeSide n
  | withdraw => exact st.orderStop_rakeSide n
  | cutoffStop => exact st.orderCutoff_rakeSide n

@[simp] theorem Station.grantPump_rakeSide : (st.grantPump n).rakeSide = st.rakeSide := by
  simp [Station.grantPump, apply_ite Station.rakeSide]

@[simp] theorem Station.shedPump_rakeSide : (st.shedPump n).rakeSide = st.rakeSide := by
  simp [Station.shedPump, apply_ite Station.rakeSide]

/-! ### Contacts, timers -/

@[simp] theorem Station.uncommandedRun_rakeSide : (st.uncommandedRun n).rakeSide = st.rakeSide := by simp [Station.uncommandedRun]

@[simp] theorem Station.motorFault_rakeSide : (st.motorFault n).rakeSide = st.rakeSide := by simp [Station.motorFault]

@[simp] theorem Station.runConfirmed_rakeSide : (st.runConfirmed n).rakeSide = st.rakeSide := by
  unfold Station.runConfirmed
  dsimp only
  split <;> simp [apply_ite Station.rakeSide]

@[simp] theorem Station.lostRun_rakeSide : (st.lostRun n).rakeSide = st.rakeSide := by simp [Station.lostRun]

@[simp] theorem Station.pumpFeedback_rakeSide (on : Bool) : (st.pumpFeedback n on).rakeSide = st.rakeSide := by
  unfold Station.pumpFeedback
  split <;> simp [apply_ite Station.rakeSide]

@[simp] theorem Station.pumpFaultChange_rakeSide (on : Bool) : (st.pumpFaultChange n on).rakeSide = st.rakeSide := by
  simp [Station.pumpFaultChange, apply_ite Station.rakeSide]

@[simp] theorem Station.enterAuto_rakeSide : (st.enterAuto n).rakeSide = st.rakeSide := by
  simp [Station.enterAuto, apply_ite Station.rakeSide]

@[simp] theorem Station.leaveAuto_rakeSide (s : PumpState) : (st.leaveAuto n s).rakeSide = st.rakeSide := by simp [Station.leaveAuto]

@[simp] theorem Station.selectorChange_rakeSide (pos : Position) : (st.selectorChange n pos).rakeSide = st.rakeSide := by
  unfold Station.selectorChange
  split <;> simp

@[simp] theorem Station.pumpNotice_rakeSide : (st.pumpNotice n).rakeSide = st.rakeSide := by
  simp [Station.pumpNotice, apply_ite Station.rakeSide]

@[simp] theorem Station.confirmExpired_rakeSide : (st.confirmExpired n).rakeSide = st.rakeSide := by simp [Station.confirmExpired]

@[simp] theorem Station.minRunExpired_rakeSide : (st.minRunExpired n).rakeSide = st.rakeSide := by
  unfold Station.minRunExpired
  split <;> simp

@[simp] theorem Station.stopConfirmExpired_rakeSide : (st.stopConfirmExpired n).rakeSide = st.rakeSide := by
  simp [Station.stopConfirmExpired, apply_ite Station.rakeSide]

/-! ### Requests -/

@[simp] theorem Station.inhibitPump_rakeSide : (st.inhibitPump n).2.rakeSide = st.rakeSide := by
  unfold Station.inhibitPump
  split <;> simp

@[simp] theorem Station.releasePump_rakeSide : (st.releasePump n).2.rakeSide = st.rakeSide := by
  unfold Station.releasePump
  split
  case h_2 | h_3 | h_4 => split <;> simp
  all_goals simp

@[simp] theorem Station.resetPumpFault_rakeSide : (st.resetPumpFault n).2.rakeSide = st.rakeSide := by
  unfold Station.resetPumpFault
  split
  · rfl
  · dsimp only
    split <;> simp

@[simp] theorem Station.applyMaxStarts_rakeSide : (st.applyMaxStarts n).rakeSide = st.rakeSide := by
  simp [Station.applyMaxStarts, apply_ite Station.rakeSide]

end

end Sys2Proof.Machine
end

section
/-! PROOFS. How grants and the rake drive move within an event (R53, R81): pumps leave both, the rake asks the drive, the Start
Controller grants. -/

namespace Sys2Proof.Machine

/-! ### The drive under requests (Table 3-4) -/

/-- The drive `y` is `x` after requests at the 10 ms step `now`. -/
abbrev Drive.Asked (now : Nat) : Drive → Drive → Prop := Relation.ReflTransGen fun x y => ∃ req, y = x.request now req

/-- A driven direction stays driven, or its turn-off has begun a dead interval. -/
theorem Drive.Asked.of_driven {now : Nat} {d : Dir} {y : Drive} (h : Drive.Asked now (.driven d) y) :
    y = .driven d ∨ ∃ w, y = .dead (now + 50) w := by
  induction h with
  | refl => exact .inl rfl
  | tail _ step ih =>
    obtain ⟨req, rfl⟩ := step
    obtain rfl | ⟨w, rfl⟩ := ih
    · cases req with
      | none => exact .inr ⟨none, rfl⟩
      | some d' =>
        by_cases hd : d = d'
        · exact .inl (if_pos hd)
        · exact .inr ⟨some d', if_neg hd⟩
    · exact .inr ⟨req, rfl⟩

/-- A dead interval goes on to its end, whatever is asked for. -/
theorem Drive.Asked.of_dead {now e : Nat} {w : Option Dir} {y : Drive} (h : Drive.Asked now (.dead e w) y) :
    ∃ w', y = .dead e w' := by
  induction h with
  | refl => exact ⟨w, rfl⟩
  | tail _ step ih =>
    obtain ⟨req, rfl⟩ := step
    obtain ⟨w', rfl⟩ := ih
    exact ⟨req, rfl⟩

/-- Turning the drive off at a soft reset is a request for OFF (R53). -/
theorem Drive.softReset_eq (now : Nat) (x : Drive) : x.softReset now = x.request now none := by cases x <;> rfl

/-! ### Events -/

/-- From `a` to `b` no time passes and the constants stay; the last grant stays or one comes START_SPACING or more behind it (R81);
the drive answers requests alone (R53). -/
structure Paced (a b : Station) : Prop where
  clock : b.clock = a.clock
  consts : b.consts = a.consts
  grant : ∀ g, a.stc.lastGrant = some g → b.stc.lastGrant = some g ∨
    (b.stc.lastGrant = some a.uptime ∧ g + 10 * a.consts.startSpacing ≤ a.uptime)
  drive : Drive.Asked a.clock a.ctu.drive b.ctu.drive

namespace Paced

theorem of_same {a b : Station} (c : b.clock = a.clock) (k : b.consts = a.consts) (d : b.ctu.drive = a.ctu.drive)
    (g : b.stc.lastGrant = a.stc.lastGrant) : Paced a b :=
  ⟨c, k, fun _ h => .inl (g.trans h), d ▸ .refl⟩

theorem refl (a : Station) : Paced a a := of_same rfl rfl rfl rfl

theorem trans {a b c : Station} (h : Paced a b) (k : Paced b c) : Paced a c where
  clock := k.clock.trans h.clock
  consts := k.consts.trans h.consts
  grant g hg := by
    have uptime : b.uptime = a.uptime := by simp only [Station.uptime, h.clock]
    obtain hb | ⟨hb, spaced⟩ := h.grant g hg
    · have := k.grant g hb
      rwa [uptime, h.consts] at this
    · obtain hc | ⟨hc, -⟩ := k.grant _ hb
      · exact .inr ⟨hc, spaced⟩
      · exact .inr ⟨hc.trans (by rw [uptime]), spaced⟩
  drive := Relation.ReflTransGen.trans h.drive (h.clock ▸ k.drive)

/-- What no pump unit touches has stayed. -/
theorem of_rakeSide {a b : Station} (k : KeepsOuter a b) (h : b.rakeSide = a.rakeSide) : Paced a b := by
  obtain ⟨-, drive, grant⟩ := by simpa only [Station.rakeSide, Prod.mk.injEq] using h
  exact of_same k.clock k.consts drive grant

/-- A run of control moves that leaves it. -/
theorem of_run {a b : Station} (r : ControlRun a b) (h : b.rakeSide = a.rakeSide) : Paced a b := of_rakeSide r.keepsOuter h

variable {a st : Station} (h : Paced a st)

include h

/-! ### The rake -/

theorem rkc (r : Rake) : Paced a { st with rkc := r } := h.trans (of_same rfl rfl rfl rfl)

theorem stc (c : StartControl) (g : c.lastGrant = st.stc.lastGrant := by rfl) : Paced a { st with stc := c } :=
  h.trans (of_same rfl rfl rfl g)

theorem ring : Paced a st.ring := h.stc _

theorem resort : Paced a st.resort := h.stc _

theorem report (k : PointNo) (on : Bool) : Paced a (st.report k on) := h.trans (of_same (by simp) (by simp) (by simp) (by simp))

theorem enqueue (m : Motor) : Paced a (st.enqueue m) := h.trans (of_rakeSide (keeps_enqueue st m) (by simp))

theorem withdrawRake : Paced a st.withdrawRake := h.trans (of_same rfl rfl rfl rfl)

theorem askDrive (req : Option Dir) : Paced a (st.askDrive req) :=
  h.trans ⟨rfl, rfl, fun _ => .inl, .single ⟨req, rfl⟩⟩

theorem rakeEnter (s : RakeState) : Paced a (st.rakeEnter s) := by
  unfold Station.rakeEnter
  dsimp only
  split
  · exact (h.rkc _).askDrive _
  · exact ((h.rkc _).askDrive _).ring

theorem rakeTestWait : Paced a st.rakeTestWait := by
  unfold Station.rakeTestWait
  split
  · exact (h.rakeEnter _).enqueue _
  · exact h

theorem rakeIdle : Paced a st.rakeIdle := (h.rakeEnter _).rakeTestWait

theorem rakeSetDemand : Paced a st.rakeSetDemand := (h.rkc _).rakeTestWait

theorem rakeJam (c : JamCause) : Paced a (st.rakeJam c) := ((h.rakeEnter _).rkc _).report _ _

theorem rakeAtTop : Paced a st.rakeAtTop := by
  unfold Station.rakeAtTop
  split
  · exact (h.rkc _).rakeIdle
  · exact h.rakeEnter _

theorem rakeTrip : Paced a st.rakeTrip := by
  unfold Station.rakeTrip
  split
  · exact h.rakeJam _
  · exact (h.rkc _).rakeEnter _

theorem rakeBegin (limit : Nat) : Paced a (st.rakeBegin limit) := h.rkc _

theorem rakeDriven : Paced a st.rakeDriven := by
  unfold Station.rakeDriven
  split
  · dsimp only
    split
    · exact (h.rakeBegin _).rakeJam _
    · split
      · exact (h.rakeBegin _).rakeEnter _
      · exact h.rakeBegin _
  · dsimp only
    split
    · exact (h.rakeBegin _).rakeAtTop
    · split
      · exact (h.rakeBegin _).rakeTrip
      · exact h.rakeBegin _
  · dsimp only
    split
    · exact (h.rakeBegin _).rakeEnter _
    · exact h.rakeBegin _
  all_goals exact h

theorem driveReport : Paced a st.driveReport := by
  unfold Station.driveReport
  split
  · exact h.rakeDriven
  · exact h

theorem grantRake : Paced a st.grantRake := by
  unfold Station.grantRake
  split
  · dsimp only
    split
    · exact ((h.rkc _).rakeEnter _).driveReport
    · exact (((h.rkc _).rkc _).rakeEnter _).driveReport
  · exact h

theorem shedRake : Paced a st.shedRake := by
  unfold Station.shedRake
  split
  · exact ((h.rkc _).rakeEnter _).enqueue _
  · exact h.withdrawRake

theorem rakeContact (i : Input) (on : Bool) : Paced a (st.rakeContact i on) := by
  unfold Station.rakeContact
  split
  · exact h.rakeAtTop.driveReport
  · exact (h.rakeEnter _).driveReport
  · exact (h.rakeEnter _).driveReport
  · exact h.rakeJam _
  · exact h.rakeTrip.driveReport
  · exact h.rakeJam _
  · dsimp only
    split
    · split
      · exact (h.report _ _).withdrawRake.rakeEnter _
      · exact h.report _ _
    · exact (h.report _ _).rakeTestWait
  · exact h

theorem intervalExpired : Paced a st.intervalExpired := (h.rkc _).rakeSetDemand

theorem rearmInterval : Paced a st.rearmInterval := by
  unfold Station.rearmInterval
  split
  · exact h.intervalExpired
  · exact h

theorem countCycle : Paced a st.countCycle := h.rkc _

theorem rakeDifferential (u : LevelUpdate) : Paced a (st.rakeDifferential u) := by
  unfold Station.rakeDifferential
  dsimp only
  split
  · exact h.rkc _
  · split
    · exact (h.rkc _).rakeSetDemand
    · exact h.rkc _

theorem rakeInterval (u : LevelUpdate) : Paced a (st.rakeInterval u) := by
  unfold Station.rakeInterval
  split
  · exact h
  · exact (h.rkc _).rearmInterval

theorem rakeBlinding (u : LevelUpdate) : Paced a (st.rakeBlinding u) := by
  unfold Station.rakeBlinding
  dsimp only
  split
  · exact h.rkc _
  · exact ((h.rkc _).report _ _).resort.ring

theorem resetRake : Paced a st.resetRake.2 := by
  unfold Station.resetRake
  split
  · exact h
  · dsimp only
    split
    · exact ((h.rkc _).report _ _).rakeIdle
    · exact (((h.rkc _).report _ _).rkc _).rakeIdle

theorem softResetRake : Paced a st.softResetRake := by
  have rest {t : Station} (ht : Paced a t) (x y z : Bool) : Paced a
      (((t.report Alarm.rakeJammed x).report Alarm.skipFull y).report Alarm.screenBlinded z).resort.ring.rakeTestWait :=
    (((ht.report _ _).report _ _).report _ _).resort.ring.rakeTestWait
  unfold Station.softResetRake
  split
  case h_6 => exact rest (h.countCycle.rakeEnter _) _ _ _
  case h_7 | h_8 => exact rest h _ _ _
  all_goals exact rest (h.rakeEnter _) _ _ _

/-! ### The Start Controller -/

theorem shedMotor (m : Motor) : Paced a (st.shedMotor m) := by
  cases m with
  | pump n =>
    have ordered (t : Station) : Paced t ((t.shedPump n).reportPump n) :=
      of_run (((ControlRun.refl t).shedPump n).reportPump n) (by simp)
    exact (h.stc (st.stc.addShed (.pump n))).trans (ordered _)
  | rake => exact (h.stc (st.stc.addShed .rake)).shedRake

theorem shedMotors (l : List Motor) : Paced a (l.foldl Station.shedMotor st) := by
  induction l generalizing st with
  | nil => exact h
  | cons m l ih => exact ih (h.shedMotor m)

theorem shedPass : Paced a st.shedPass := by
  unfold Station.shedPass
  split
  · exact h
  · exact ((h.stc _).report _ _).shedMotors _

theorem shedPasses (k : Nat) : Paced a (Station.shedPasses k st) := by
  induction k generalizing st with
  | zero => exact h
  | succ k ih =>
    unfold Station.shedPasses
    split
    · exact ih h.shedPass
    · exact h

theorem hold (r : Hold) : Paced a (st.hold r) := h.stc _

theorem armSpacing : Paced a st.armSpacing := h.stc _

theorem deliverGrant (m : Motor) : Paced a (st.deliverGrant m) := by
  cases m with
  | pump n => exact h.trans (of_run ((ControlRun.refl st).grantPump n) (st.grantPump_rakeSide n))
  | rake => exact h.grantRake

theorem holdNewHead : Paced a st.holdNewHead := by
  unfold Station.holdNewHead
  split
  · exact h
  · exact h.hold _

/-- A grant is made when spacing is elapsed (R81, R82). -/
theorem grantAfterSpacing (m : Motor) (spaced : st.spacingElapsed = true) : Paced a (st.grant m) := by
  have stamped : Paced st { st.dequeue m with
      stc := { (st.dequeue m).stc.unshed m with lastGrant := some (st.dequeue m).uptime } } := by
    refine ⟨rfl, rfl, fun g hg => .inr ⟨rfl, ?_⟩, .refl⟩
    unfold Station.spacingElapsed at spaced
    rw [hg] at spaced
    exact of_decide_eq_true spaced
  exact (((h.trans stamped).armSpacing).deliverGrant m).holdNewHead

theorem grantTest : Paced a st.grantTest := by
  unfold Station.grantTest
  split
  · exact h
  · split
    · split
      next spaced => exact h.grantAfterSpacing _ spaced
      · exact h.hold _
    · exact h.hold _

theorem testLoadShed : Paced a st.testLoadShed := by
  unfold Station.testLoadShed
  split
  · exact (h.stc _).report _ _
  · exact h

theorem judgeBudget : Paced a st.judgeBudget := by
  unfold Station.judgeBudget
  split
  · split
    · exact h
    · exact h.stc _
  · exact (h.stc _).report _ _

theorem settleStc : Paced a st.settleStc := by
  unfold Station.settleStc
  split
  · exact ((h.shedPasses 8).grantTest.testLoadShed.judgeBudget).stc _
  · exact h

omit h in
/-- A PRU's handling with its reports and the Start Controller's event. -/
theorem pumpEvent {n : PumpNo} {f : Station → Station} (r : ControlRun st (f st)) (hf : (f st).rakeSide = st.rakeSide) :
    Paced st (st.pumpEvent n f) :=
  ((of_run r hf).trans (of_run ((ControlRun.refl _).reportPump n) (by simp))).settleStc

theorem formLimit : Paced a st.formLimit := (h.stc _).ring

theorem genChange : Paced a st.genChange := (h.formLimit.report _ _).settleStc

theorem stcFeedback (n : PumpNo) : Paced a (st.stcFeedback n) := ((h.stc _).ring).settleStc

theorem stcNotice : Paced a st.stcNotice := (h.stc _).genChange

theorem spacingExpired : Paced a st.spacingExpired := ((h.stc _).ring).settleStc

theorem budgetExpired : Paced a st.budgetExpired := (((h.stc _).report _ _).ring).settleStc

theorem softResetStc : Paced a st.softResetStc := (h.stc _).armSpacing

theorem finishStcReset : Paced a st.finishStcReset := ((((h.report _ _).report _ _).testLoadShed).ring).settleStc

/-! ### Orders and level updates -/

theorem send (orders : Vector (Option Order) 6) (n : PumpNo) : Paced a (st.send orders n) := by
  unfold Station.send
  split
  · exact h
  · exact h.trans (pumpEvent ((ControlRun.refl st).order n _) (by simp))

theorem sends (orders : Vector (Option Order) 6) (l : List PumpNo) : Paced a (l.foldl (fun s n => s.send orders n) st) := by
  induction l generalizing st with
  | nil => exact h
  | cons n l ih => exact ih (h.send orders n)

/-- A demand evaluation (R67). -/
theorem evaluate (u : LevelUpdate) : Paced a (st.evaluate u) := by
  have examined : Paced st st.pruneAll.judgeStartLimited := by
    have pruned (l : List PumpNo) (t : Station) : (l.foldl Station.prune t).rakeSide = t.rakeSide := by
      induction l generalizing t with
      | nil => rfl
      | cons n l ih => exact (ih _).trans (t.prune_rakeSide n)
    exact of_run (ControlRun.refl st).pruneAll.judgeStartLimited (by
      rw [Station.judgeStartLimited, Station.report_rakeSide]; exact pruned _ _)
  have noted (d : Duty) : Paced a { st.pruneAll.judgeStartLimited with dty := d } :=
    (h.trans examined).trans (of_same rfl rfl rfl rfl)
  have tested {t : Station} (ht : Paced a t) : Paced a t.testPumpDown :=
    ht.trans (of_rakeSide (keeps_testPumpDown t) (by simp))
  unfold Station.evaluate
  exact (tested ((noted _).sends _ _)).settleStc

theorem floatEvaluation : Paced a st.floatEvaluation := by
  unfold Station.floatEvaluation
  split
  · exact h
  · split
    · exact h.evaluate _
    · exact h

theorem rakeUpdate (u : LevelUpdate) : Paced a (st.rakeUpdate u) :=
  ((((h.rakeDifferential u).settleStc.rakeInterval u).settleStc).rakeBlinding u).settleStc

end Paced

end Sys2Proof.Machine
end

section
/-! PROOFS. What keeps the alarm table and the beacon sound (R55, R153, R154, R158). -/

namespace Sys2Proof.Machine

/-! ### Points -/

/-- A report that differs from the condition held keeps a point sound (R154). -/
theorem PointRec.reported_safe {p : PointRec} {on : Bool} (now : Nat) (h : p.safe) (hc : p.condition ≠ on) :
    (p.reported on now).safe := by
  obtain ⟨active, count, fresh⟩ := h
  cases on with
  | true =>
    have off : p.condition = false := by simpa using hc
    refine ⟨?_, by simp [PointRec.reported, satAdd], fun h0 => ?_⟩
    · cases hs : p.state <;> simp_all [PointRec.reported, PointState.turnOn]
    · simp only [PointRec.reported, satAdd, if_true] at h0
      omega
  | false =>
    have on' : p.condition = true := by simpa using hc
    refine ⟨?_, count, fun h0 => ?_⟩
    · cases hs : p.state <;> simp_all [PointRec.reported, PointState.turnOff]
    · obtain ⟨normal, -, -⟩ := fresh h0
      obtain hs | hs := active.mp on' <;> simp [hs] at normal

/-- An acknowledgement that changes the state of a point keeps it sound (R156). -/
theorem PointRec.acked_safe {p : PointRec} (now : Nat) (h : p.safe) (ha : p.state.ack ≠ p.state) :
    ({ p with state := p.state.ack, lastChange := now } : PointRec).safe := by
  obtain ⟨active, count, fresh⟩ := h
  refine ⟨?_, count, fun h0 => ?_⟩
  · cases hs : p.state <;> simp_all [PointState.ack]
  · rw [(fresh h0).1] at ha
    exact absurd rfl ha

/-! ### The table and the beacon -/

/-- The beacon demand is the one that the points and priorities call for (R158). -/
def Station.beaconCurrent (st : Station) : Prop := st.alt.beaconDemand = beaconJudged st.alt.points st.consts.priorities

/-- The BEACON output follows the demand while the part is not held in reset (R55, R187). -/
def Station.beaconDriven (st : Station) : Prop := st.held = false → st.ctu.beacon = st.alt.beaconDemand

/-- Every point stands as Table 9-2 allows. -/
def Station.pointsSafe (st : Station) : Prop := ∀ k : PointNo, st.alt.points[k].safe

/-- From `a` to `b` each part of the alarm invariant is kept. -/
structure KeepsAlarms (a b : Station) : Prop where
  points : a.pointsSafe → b.pointsSafe
  current : a.beaconCurrent → b.beaconCurrent
  driven : a.beaconDriven → b.beaconDriven

namespace KeepsAlarms

theorem trans {a b c : Station} (h : KeepsAlarms a b) (k : KeepsAlarms b c) : KeepsAlarms a c :=
  ⟨k.points ∘ h.points, k.current ∘ h.current, k.driven ∘ h.driven⟩

/-- An update that moves no point, no priority and no beacon. -/
theorem of_same {a b : Station} (p : b.alt.points = a.alt.points) (d : b.alt.beaconDemand = a.alt.beaconDemand)
    (k : b.consts = a.consts) (o : b.ctu.beacon = a.ctu.beacon) (h : b.held = a.held) : KeepsAlarms a b := by
  refine ⟨fun hs => ?_, fun hs => ?_, fun hs => ?_⟩
  · unfold Station.pointsSafe; rwa [p]
  · unfold Station.beaconCurrent; rwa [p, d, k]
  · unfold Station.beaconDriven; rwa [d, o, h]

theorem refl (a : Station) : KeepsAlarms a a := of_same rfl rfl rfl rfl rfl

theorem alarmsSafe {a b : Station} (h : KeepsAlarms a b) (ha : a.alarmsSafe) : b.alarmsSafe :=
  ⟨h.points ha.1, h.current ha.2.1, h.driven ha.2.2⟩

/-- The beacon judged anew is current, and drives the output when the demand changes (R158, R55). -/
theorem judgeBeacon (a : Station) : KeepsAlarms a a.judgeBeacon ∧ a.judgeBeacon.beaconCurrent := by
  refine ⟨⟨id, fun _ => rfl, fun hd held => ?_⟩, rfl⟩
  have hd := hd held
  simp only [Station.judgeBeacon]
  split
  next same => rw [hd, same]
  · rfl

/-- A point replaced by a sound one, with its record and the beacon (R155). -/
theorem movePoint (a : Station) (k : PointNo) {p : PointRec} (hp : a.alt.points[k].safe → p.safe) :
    KeepsAlarms a (a.movePoint k p) := by
  have replaced : a.pointsSafe → ({ a with alt := { a.alt with points := a.alt.points.set k p } } : Station).pointsSafe := by
    intro h j
    show (a.alt.points.set k p)[j].safe
    by_cases hj : k.val = j.val
    · obtain rfl : k = j := Fin.ext hj
      simpa using hp (h k)
    · simpa [hj] using h j
  obtain ⟨judged, current⟩ := judgeBeacon
    (({ a with alt := { a.alt with points := a.alt.points.set k p } } : Station).record (.alarmChange k p.state))
  exact ⟨fun h => judged.points (replaced h), fun _ => current, fun h => judged.driven h⟩

theorem report (a : Station) (k : PointNo) (on : Bool) : KeepsAlarms a (a.report k on) := by
  unfold Station.report
  split
  · exact .refl a
  next hc =>
    exact (movePoint a k fun hp => PointRec.reported_safe _ hp hc).trans (.of_same rfl rfl rfl rfl rfl)

theorem ackPoint (a : Station) (k : PointNo) : KeepsAlarms a (a.ackPoint k) := by
  unfold Station.ackPoint
  dsimp only
  split
  · exact .refl a
  next ha => exact movePoint a k fun hp => PointRec.acked_safe _ hp ha

/-- A run of control moves reports points, and moves neither priorities nor the hold. -/
theorem of_control {a b : Station} (h : ControlRun a b) : KeepsAlarms a b := by
  induction h with
  | refl => exact .refl _
  | tail _ m ih =>
    refine ih.trans ?_
    cases m with
    | report k on owned => exact report _ k on
    | stc c => exact .of_same rfl rfl rfl rfl rfl
    | pumps ps => exact .of_same rfl rfl rfl rfl rfl
    | rake r => exact .of_same rfl rfl rfl rfl rfl
    | outputs v d => exact .of_same rfl rfl rfl rfl rfl
    | rotation l m marked => exact .of_same rfl rfl rfl rfl rfl

end KeepsAlarms

end Sys2Proof.Machine
end

section
/-! PROOFS. Operations that no motor is part of keep the pace of grants and drive, and the alarm table sound; so do the level update,
the cycle and the daily close. -/

namespace Sys2Proof.Machine

/-- Within an event, from `a` to `b`: grants and drive keep their pace, and the alarm invariant is kept. -/
structure Steady (a b : Station) : Prop where
  paced : Paced a b
  alarms : KeepsAlarms a b

namespace Steady

/-- An update outside time, constants, contacts and outputs, Start Controller and alarms. -/
theorem same {a b : Station} (c : b.clock = a.clock := by rfl) (h : b.held = a.held := by rfl) (k : b.consts = a.consts := by rfl)
    (u : b.ctu = a.ctu := by rfl) (s : b.stc = a.stc := by rfl) (t : b.alt = a.alt := by rfl) : Steady a b :=
  ⟨.of_same c k (by rw [u]) (by rw [s]), .of_same (by rw [t]) (by rw [t]) k (by rw [u]) h⟩

theorem refl (a : Station) : Steady a a := same

theorem trans {a b c : Station} (h : Steady a b) (k : Steady b c) : Steady a c := ⟨h.paced.trans k.paced, h.alarms.trans k.alarms⟩

/-- A run of control moves that keeps the pace. -/
theorem of_control {a b : Station} (r : ControlRun a b) (p : Paced a b) : Steady a b := ⟨p, .of_control r⟩

theorem pumpEvent {st : Station} {n : PumpNo} {f : Station → Station} (r : ControlRun st (f st))
    (hf : (f st).rakeSide = st.rakeSide) : Steady st (st.pumpEvent n f) := of_control (ControlRun.pumpEvent r) (.pumpEvent r hf)

variable {a st : Station} (h : Steady a st)

include h

theorem control {t : Station} (r : ControlRun st t) (p : Paced st t) : Steady a t := h.trans (of_control r p)

theorem settleStc : Steady a st.settleStc := h.control (ControlRun.refl st).settleStc (Paced.refl st).settleStc

theorem report (k : PointNo) (on : Bool) : Steady a (st.report k on) := h.trans ⟨(Paced.refl st).report k on, .report st k on⟩

theorem judgeArith : Steady a st.judgeArith := (h.report _ _).report _ _

theorem setLevels (l : LevelEngine) : Steady a { st with lve := l } := h.trans same

theorem setPort (q : Port) (p : PortId) : Steady a (st.setPort q p) := h.trans (by cases p <;> exact same)

theorem duty (d : Duty) : Steady a { st with dty := d } := h.trans same

theorem setRotation (l : List PumpNo) : Steady a (st.setRotation l) :=
  h.trans ⟨.of_same rfl rfl rfl rfl, .of_same rfl rfl rfl rfl rfl⟩

theorem raiseFlags (f : FlagSet) : Steady a (st.raiseFlags f) := (h.setLevels _).judgeArith

theorem record (r : RecordBody) : Steady a (st.record r) := h.trans same

theorem setSummary (s : Summary) : Steady a (st.setSummary s) := h.trans same

theorem storeTrigger : Steady a st.storeTrigger := by
  obtain ⟨x, hx, -⟩ := st.storeTrigger_shape
  rw [hx]; exact h.trans same

theorem triggerTrace (t : Nat) : Steady a (st.triggerTrace t) := by
  obtain ⟨r, hr⟩ := st.triggerTrace_shape t
  rw [hr]; exact h.trans same

theorem traceUpdate (u : LevelUpdate) : Steady a (st.traceUpdate u) := by
  obtain ⟨r, hr⟩ := st.traceUpdate_shape u
  rw [hr]; exact h.trans same

theorem finalise (p : PortId) (req : PendingRequest) (x : ReplyStatus) (d : List Byte) : Steady a (st.finalise p req x d) := by
  obtain ⟨pa, pb, e⟩ := st.finalise_shape p req x d
  rw [e]; exact h.trans same

/-! ### The Overflow Monitor -/

theorem ofm (o : Overflow) : Steady a { st with ofm := o } := h.trans same

theorem accrueOverflow (litres seconds events : Nat) : Steady a (st.accrueOverflow litres seconds events) := by
  unfold Station.accrueOverflow
  dsimp only
  split
  · exact (h.setSummary _).raiseFlags _
  · exact h.setSummary _

theorem openEvent (u : LevelUpdate) (head : Nat) : Steady a (st.openEvent u head) :=
  ((((((h.ofm _).record _).accrueOverflow _ _ _).triggerTrace _).storeTrigger).report _ _)

theorem closeEvent (e : EventRec) (time : Nat) (why : CloseReason) : Steady a (st.closeEvent e time why) :=
  ((h.ofm _).record _).report _ _

theorem eventUpdate (u : LevelUpdate) (e : EventRec) : Steady a (st.eventUpdate u e) := by
  unfold Station.eventUpdate
  split
  · dsimp only
    split <;> split
    · exact (((h.ofm _).raiseFlags _).accrueOverflow _ _ _).closeEvent _ _ _
    · exact ((h.ofm _).raiseFlags _).accrueOverflow _ _ _
    · exact ((h.ofm _).accrueOverflow _ _ _).closeEvent _ _ _
    · exact (h.ofm _).accrueOverflow _ _ _
  · exact h.ofm _

theorem overflowUpdate (u : LevelUpdate) : Steady a (st.overflowUpdate u) := by
  unfold Station.overflowUpdate
  dsimp only
  split
  · exact (h.ofm _).eventUpdate _ _
  · exact (h.ofm _).eventUpdate _ _
  · exact h.ofm _
  · exact h.ofm _
  all_goals
    split
    · split
      · exact ((h.ofm _).ofm _).openEvent _ _
      · exact (h.ofm _).ofm _
    · exact h.ofm _

theorem softResetOverflow : Steady a st.softResetOverflow := by
  unfold Station.softResetOverflow
  split
  · exact (h.closeEvent _ _ _).report _ _
  · exact (h.closeEvent _ _ _).report _ _
  · exact (h.ofm _).report _ _

/-! ### The clock and the daily close -/

theorem dailyClose : Steady a st.dailyClose := by
  have zeroed {t : Station} (ht : Steady a t) (d : RecordBody) (ps : Vector PumpRec 6) (r : Rake) :
      Steady a (Station.record { t with pumps := ps, rkc := r } d) := ht.trans same
  unfold Station.dailyClose
  dsimp only
  split
  · exact zeroed ((h.setSummary _).raiseFlags _) _ _ _
  · exact zeroed (h.setSummary _) _ _ _

theorem rollover : Steady a st.rollover := (h.dailyClose.setSummary _).storeTrigger

theorem accrueSecond : Steady a st.accrueSecond := h.trans same

theorem setQueue (q : ReportQueue) : Steady a { st with rpq := q } := h.trans same

theorem advanceSecond (rolloverFirst : Bool) : Steady a (st.advanceSecond rolloverFirst) := by
  unfold Station.advanceSecond
  dsimp only
  split
  · split
    · exact (h.setQueue _).rollover.accrueSecond
    · exact (h.setQueue _).accrueSecond.rollover
  · exact (h.setQueue _).accrueSecond

/-! ### The readers of a level update -/

theorem evaluate (u : LevelUpdate) : Steady a (st.evaluate u) := by
  obtain ⟨d, -, -, -, -, before, after⟩ := evaluate_runs st u
  have noted : KeepsAlarms st { st.pruneAll.judgeStartLimited with dty := d } :=
    (KeepsAlarms.of_control before).trans (.of_same rfl rfl rfl rfl rfl)
  exact h.trans ⟨(Paced.refl st).evaluate u, noted.trans (.of_control after)⟩

theorem floatEvaluation : Steady a st.floatEvaluation := by
  unfold Station.floatEvaluation
  split
  · exact h
  · split
    · exact h.evaluate _
    · exact h

/-- A reader takes a level update (R24). -/
theorem react (u : LevelUpdate) (r : Reader) : Steady a (st.react u r) := by
  cases r with
  | duty => exact h.evaluate u
  | rake => exact h.control ((ControlRun.refl st).rakeUpdate u) ((Paced.refl st).rakeUpdate u)
  | overflow => exact h.overflowUpdate u
  | trace => exact h.traceUpdate u
  | reports => exact h.setSummary _

theorem reacts (u : LevelUpdate) (order : List Reader) : Steady a (order.foldl (Station.react u) st) := by
  induction order generalizing st with
  | nil => exact h
  | cons r order ih => exact ih (h.react u r)

/-! ### The stages of a cycle (R1) -/

theorem commitStage : Steady a st.commitStage := by
  obtain ⟨o, pa, pb, e⟩ := (commitStage_committed st).shape
  rw [e]; exact h.trans same

theorem sampleStage (wellA wellB inlet weir : BitVec 12) : Steady a (st.sampleStage wellA wellB inlet weir) := by
  unfold Station.sampleStage
  dsimp only
  split
  · exact (h.setLevels _).raiseFlags _
  · exact h.setLevels _

theorem voteStage (v : Vote) : Steady a (st.voteStage v) := by
  unfold Station.voteStage
  dsimp only
  split <;> exact h.trans same

theorem readActive (c : CurveCopy) (x : Option Nat) : Steady a (st.readActive c x).2 := by
  unfold Station.readActive
  split
  · exact h
  · dsimp only
    split
    · exact h.raiseFlags _
    · exact h

theorem inflowStage (v : Option Nat) : Steady a (st.inflowStage v).2 := by
  unfold Station.inflowStage
  dsimp only
  split
  · exact h.setLevels _
  · split
    · exact (h.raiseFlags _).setLevels _
    · exact h.setLevels _

theorem reports (l : List (PointNo × Bool)) : Steady a (st.reports l) := by
  induction l generalizing st with
  | nil => exact h
  | cons r l ih => exact ih (h.report _ _)

theorem alarmStage (v : Vote) : Steady a (st.alarmStage v) := by
  rw [alarmStage_eq]
  exact ((h.setLevels _).reports _).judgeArith

theorem publish (u : LevelUpdate) : Steady a (st.publish u) := h.trans same

/-- A measurement cycle. -/
theorem runCycle (wellA wellB inlet weir : BitVec 12) (order : List Reader) :
    Steady a (st.runCycle wellA wellB inlet weir order) := by
  have formed : Steady a (st.formUpdate wellA wellB inlet weir).2 := by
    rw [Station.formUpdate_station]
    exact ((((((h.commitStage.sampleStage _ _ _ _).voteStage _).readActive _ _).readActive _ _).inflowStage _).alarmStage _)
  exact (formed.publish _).reacts _ _

/-! ### Contacts -/

theorem setInput (i : Input) (r : InputRec) : Steady a (st.setInput i r) := by
  have kept : (st.setInput i r).ctu.drive = st.ctu.drive ∧ (st.setInput i r).ctu.beacon = st.ctu.beacon := by
    cases i <;> exact ⟨rfl, rfl⟩
  exact h.trans ⟨.of_same rfl rfl kept.1 rfl, .of_same rfl rfl rfl kept.2 rfl⟩

theorem setSelector (n : PumpNo) (s : Selector) : Steady a (st.setSelector n s) :=
  h.trans ⟨.of_same rfl rfl rfl rfl, .of_same rfl rfl rfl rfl rfl⟩

theorem decodeSelector (n : PumpNo) : Steady a (st.decodeSelector n) := by
  unfold Station.decodeSelector
  dsimp only
  split
  · exact h.setSelector _ _
  · exact (h.setSelector _ _).trans (pumpEvent ((ControlRun.refl _).selectorChange n _) (by simp))

theorem levelFloats (high : Bool) : Steady a (st.levelFloats high) := by
  have floated : Steady a st.floatLevels := ((h.setLevels _).report _ _).report _ _
  unfold Station.levelFloats
  dsimp only
  split <;> split
  · exact floated.report _ _
  · exact h.report _ _
  · exact floated
  · exact h

theorem both (swapped : Bool) {f g : Station → Station} (hf : ∀ {t}, Steady a t → Steady a (f t))
    (hg : ∀ {t}, Steady a t → Steady a (g t)) : Steady a (st.both swapped f g) := by
  unfold Station.both
  split
  · exact hf (hg h)
  · exact hg (hf h)

theorem deliver (i : Input) (on swapped : Bool) : Steady a (st.deliver i on swapped) := by
  have feedback {n : PumpNo} {t : Station} (ht : Steady a t) : Steady a (t.pumpEvent n fun s => s.pumpFeedback n on) :=
    ht.trans (pumpEvent ((ControlRun.refl t).pumpFeedback n on) (t.pumpFeedback_rakeSide n on))
  have rake (j : Input) : Steady a (st.rakeContact j on).settleStc :=
    (h.control ((ControlRun.refl st).rakeContact j on) ((Paced.refl st).rakeContact j on)).settleStc
  cases i with
  | hoaHand n => exact h.decodeSelector n
  | hoaAuto n => exact h.decodeSelector n
  | runFb n =>
    have seen : Steady a (st.seeFeedback n) := h.control ((ControlRun.refl st).seeFeedback n) (.of_same rfl rfl rfl rfl)
    exact seen.both swapped (f := fun s => s.pumpEvent n fun t => t.pumpFeedback n on) (g := fun s => s.stcFeedback n) feedback
      (fun {t} ht => ht.control ((ControlRun.refl t).stcFeedback n) ((Paced.refl t).stcFeedback n))
  | pumpFault n =>
    exact h.trans (pumpEvent (f := fun s => s.pumpFaultChange n on) ((ControlRun.refl st).pumpFaultChange n on)
      (st.pumpFaultChange_rakeSide n on))
  | limTop => exact rake _
  | limBottom => exact rake _
  | torqueTrip => exact rake _
  | skipFull => exact rake _
  | floatHigh => exact h.both swapped (fun ht => ht.floatEvaluation) (fun ht => ht.levelFloats true)
  | floatLow => exact h.both swapped (fun ht => ht.floatEvaluation) (fun ht => ht.levelFloats false)
  | modeRemote => exact h
  | maintKey => exact h
  | genRun => exact h.control (ControlRun.refl st).genChange (Paced.refl st).genChange

theorem notePump (n : PumpNo) : Steady a (st.notePump n) := by
  unfold Station.notePump
  split
  · exact h.trans (pumpEvent (f := fun s => s.pumpNotice n) ((ControlRun.refl st).pumpNotice n) (st.pumpNotice_rakeSide n))
  · exact h

theorem noteStc : Steady a st.noteStc := by
  unfold Station.noteStc
  split
  · exact h.control (ControlRun.refl st).stcNotice (Paced.refl st).stcNotice
  · exact h

theorem noteRake : Steady a st.noteRake := by
  unfold Station.noteRake
  split
  · exact h.report _ _
  · exact h

theorem settlePair (n : PumpNo) : Steady a (st.settlePair n) := by
  unfold Station.settlePair
  split
  · exact h.setSelector _ _
  · exact h

theorem noteFloats (swapped : Bool) : Steady a (st.noteFloats swapped) := by
  unfold Station.noteFloats
  split
  · exact h.both swapped (fun ht => ht.floatEvaluation) (fun ht => ht.levelFloats true)
  · exact h

theorem notice (i : Input) (swapped : Bool) : Steady a (st.notice i swapped) := by
  cases i with
  | hoaHand n => exact (h.settlePair n).notePump n
  | hoaAuto n => exact (h.settlePair n).notePump n
  | runFb n => exact h.both swapped (fun ht => ht.notePump n) (fun ht => ht.noteStc)
  | pumpFault n => exact h.notePump n
  | limTop => exact h.noteRake
  | limBottom => exact h.noteRake
  | torqueTrip => exact h.noteRake
  | skipFull => exact h.noteRake
  | floatHigh => exact h.noteFloats swapped
  | floatLow => exact h.noteFloats swapped
  | modeRemote => exact h
  | maintKey => exact h
  | genRun => exact h.noteStc

/-! ### The end of a store write -/

theorem store (x : Store) : Steady a { st with sst := x } := h.trans same

theorem finaliseSave (sound : Bool) (p : PortId) : Steady a (st.finaliseSave sound p) := by
  unfold Station.finaliseSave
  split
  · dsimp only
    split
    · exact (h.finalise _ _ _ _).store _
    · exact (h.finalise _ _ _ _).store _
  · exact h
  · exact h

theorem endWrite (w : StoreWrite) (defect : BitVec 16) : Steady a (st.endWrite w defect) := by
  have follow {t : Station} (ht : Steady a t) : Steady a (if t.sst.followUp then
      ({ t with sst := { t.sst with
        followUp := false, coverA := t.sst.coverA.promote, coverB := t.sst.coverB.promote } }).beginWrite
      else { t with sst := { t.sst with inFlight := none } }) := by
    split
    · exact (ht.store _).store _
    · exact ht.store _
  unfold Station.endWrite
  refine follow (Steady.finaliseSave (Steady.finaliseSave ?_ _ _) _ _)
  split
  · exact (h.store _).report _ _
  · exact h.store _

end Steady

end Sys2Proof.Machine
end

section
/-! PROOFS. Every command but the two resets of the part keeps the pace of grants and drive, and the alarm invariant (R53, R55, R81). -/

namespace Sys2Proof.Machine

/-! ### Commands -/

/-- Where an event begins at the station `u`, from the station `a`: time or constants may have moved, a dead interval may have
ended. -/
structure Begun (a u : Station) : Prop where
  grant : u.stc.lastGrant = a.stc.lastGrant
  drive : u.ctu.drive = a.ctu.drive ∨ ∃ e w, a.ctu.drive = .dead e w ∧ e ≤ u.clock

/-- What a command can do, from `a` to `b`: an event begins and keeps the pace; the alarm invariant is kept. -/
structure Happens (a b : Station) : Prop where
  paced : ∃ u, Begun a u ∧ Paced u b
  alarms : KeepsAlarms a b

namespace Happens

theorem of_steady {a b : Station} (h : Steady a b) : Happens a b := ⟨⟨a, ⟨rfl, .inl rfl⟩, h.paced⟩, h.alarms⟩

theorem refl (a : Station) : Happens a a := of_steady (.refl a)

/-- An event after time alone has moved. -/
theorem at_clock {a b : Station} {c : Nat} (h : Steady { a with clock := c } b) : Happens a b :=
  have moved : KeepsAlarms a { a with clock := c } := .of_same rfl rfl rfl rfl rfl
  ⟨⟨{ a with clock := c }, ⟨rfl, .inl rfl⟩, h.paced⟩, moved.trans h.alarms⟩

/-- A port unit may move before and after. -/
theorem between_ports {a b : Station} {q : Port} {p : PortId} (h : Happens (a.setPort q p) b) (q' : Port) (p' : PortId) :
    Happens a (b.setPort q' p') := by
  obtain ⟨⟨u, ⟨grant, drive⟩, paced⟩, alarms⟩ := h
  rw [Station.setPort_stc] at grant
  rw [Station.setPort_ctu] at drive
  have ended : Steady b (b.setPort q' p') := (Steady.refl b).setPort q' p'
  exact ⟨⟨u, ⟨grant, drive⟩, paced.trans ended.paced⟩, (((Steady.refl a).setPort q p).alarms.trans alarms).trans ended.alarms⟩

end Happens

/-! ### Requests -/

theorem carriedOut_steady {st : Station} {r : Reply × Station} {after : Station → Station} (h : Steady st (after r.2)) :
    Steady st (carriedOut st r after).2 := by
  unfold carriedOut
  split
  · exact h
  · exact .refl st

theorem readPump_steady (st : Station) (k : Nat) : Steady st (st.readPump k).2 := by
  unfold Station.readPump
  split
  · exact .refl st
  · exact .of_control (((ControlRun.refl st).prune _).judgeStartLimited)
      (.of_run (((ControlRun.refl st).prune _).judgeStartLimited) (by simp [Station.judgeStartLimited]))

theorem readTrace_steady (st : Station) (p : PortId) (form n : Nat) : Steady st (st.readTrace p form n).2 := by
  unfold Station.readTrace
  by_cases hr : 1 < form ∨ n < 1 ∨ (if form = 0 then 12 else 8) < n
  · rw [if_pos hr]; exact .refl st
  · rw [if_neg hr]; exact (Steady.refl st).setPort _ _

theorem setTraceWindow_steady (st : Station) (p : PortId) (s e : Nat) : Steady st (st.setTraceWindow p s e).2 := by
  unfold Station.setTraceWindow
  split
  · exact .refl st
  · exact (Steady.refl st).setPort _ _

theorem ackPoints_steady (l : List PointNo) (st : Station) : Steady st (Station.ackPoints l st).2 := by
  induction l generalizing st with
  | nil => exact .refl st
  | cons k l ih =>
    have acked : Paced st (st.ackPoint k) := by
      unfold Station.ackPoint
      dsimp only
      split
      · exact .refl st
      · exact .of_same rfl rfl rfl rfl
    exact Steady.trans ⟨acked, .ackPoint st k⟩ (ih _)

theorem ackAlarm_steady (st : Station) (l : List Nat) : Steady st (st.ackAlarm l).2 := by
  unfold Station.ackAlarm
  split
  · exact .refl st
  · exact ackPoints_steady _ st

/-- A port's masks and pending set are no part of the alarm invariant. -/
theorem setAttn_steady (st : Station) (q : Attention) (p : PortId) : Steady st { st with alt := st.alt.setAttn q p } := by
  cases p <;> exact ⟨.of_same rfl rfl rfl rfl, .of_same rfl rfl rfl rfl rfl⟩

theorem clearAttention_steady (st : Station) (p : PortId) (l : List Nat) : Steady st (st.clearAttention p l).2 := by
  unfold Station.clearAttention
  split
  · exact .refl st
  · exact setAttn_steady st _ p

theorem releaseTrace_steady (st : Station) : Steady st st.releaseTrace.2 := by
  unfold Station.releaseTrace
  split <;> exact .same

theorem setSetpoints_steady (st : Station) (t : Setpoints) : Steady st (st.setSetpoints t).2 := by
  unfold Station.setSetpoints
  split <;> exact .same

/-- A request at a PRU, its reports and the Start Controller's event. -/
theorem atPump_steady (st : Station) (k : Nat) {f : Station → PumpNo → Reply × Station} (run : ∀ n, ControlRun st (f st n).2)
    (side : ∀ n, (f st n).2.rakeSide = st.rakeSide) : Steady st (st.atPump k f).2 := by
  unfold Station.atPump
  split
  · exact .refl st
  next n _ =>
    have reported : ((f st n).2.reportPump n).rakeSide = st.rakeSide := (Station.reportPump_rakeSide _ n).trans (side n)
    exact carriedOut_steady (Steady.of_control ((run n).reportPump n) (.of_run ((run n).reportPump n) reported)).settleStc

theorem writeChannel_steady (st : Station) (code : Nat) (c : ChanSettings) : Steady st (st.writeChannel code c).2 := by
  unfold Station.writeChannel
  split
  · exact .refl st
  · split <;> exact .same

theorem uninstall_steady (st : Station) (n : PumpNo) (c : PumpSettings) : Steady st (st.uninstall n c) := by
  have removed (p : PumpRec) : Steady st (((st.clearDemand n).setPump n p).enter n .uninstalled) :=
    have run := (((ControlRun.refl st).clearDemand n).setPump n p).enter n .uninstalled
    .of_control run (.of_run run (by simp))
  unfold Station.uninstall
  exact ((removed _).setRotation _).duty _

theorem install_steady (st : Station) (n : PumpNo) (c : PumpSettings) : Steady st (st.install n c) := by
  have listed (p : PumpRec) (l : List PumpNo) : Steady st ((st.setPump n p).setRotation l) :=
    (Steady.same : Steady st (st.setPump n p)).setRotation l
  have entered {t u : Station} (ht : Steady st t) (run : ControlRun t u) (side : u.rakeSide = t.rakeSide) : Steady st u :=
    ht.control run (.of_run run side)
  unfold Station.install
  dsimp only
  split
  · exact entered (listed _ _) ((ControlRun.refl _).enterAuto n) (Station.enterAuto_rakeSide _ n)
  · exact entered (listed _ _) ((ControlRun.refl _).enter n _) (Station.enter_rakeSide _ n _)
  · exact entered (listed _ _) ((ControlRun.refl _).enter n _) (Station.enter_rakeSide _ n _)

theorem writePumpRecord_steady (st : Station) (n : PumpNo) (fields : List Nat) :
    Steady st (st.writePumpRecord n fields).2 := by
  have applied {t : Station} (ht : Steady st t) : Steady st (t.applyMaxStarts n).ring :=
    have run := ((ControlRun.refl t).applyMaxStarts n).ring
    ht.control run (.of_run run (by simp))
  unfold Station.writePumpRecord
  split
  · exact .refl st
  · dsimp only
    split
    · split
      case' h_5 | h_6 | h_7 | h_8 | h_9 | h_10 | h_11 => exact .refl st
      all_goals exact applied (uninstall_steady _ _ _)
    · split
      · split
        · exact .refl st
        · exact applied (install_steady _ _ _)
      · exact applied .same

theorem writePump_steady (st : Station) (k : Nat) (fields : List Nat) : Steady st (st.writePump k fields).2 := by
  unfold Station.writePump carriedOut
  split
  · exact .refl st
  next n _ =>
    dsimp only
    have pruned : Steady st (st.prune n) := .same
    split
    · have written := pruned.trans (writePumpRecord_steady _ n fields)
      have run := (ControlRun.refl ((st.prune n).writePumpRecord n fields).2).reportPump n
      exact (written.control run (.of_run run (Station.reportPump_rakeSide _ n))).settleStc
    · exact pruned.report _ _

theorem writeRotation_steady (st : Station) (mode : Nat) (l : List Nat) : Steady st (st.writeRotation mode l).2 := by
  unfold Station.writeRotation
  split
  · split
    · exact (((Steady.refl st).duty _).setRotation _).settleStc
    · exact .refl st
  · exact .refl st

theorem Paced.stcConstants {a st : Station} (h : Paced a st) (old : Constants) : Paced a (st.stcConstants old) := by
  have limited : Paced a (if st.consts.utilityLimit = old.utilityLimit ∧ st.consts.genLimit = old.genLimit then st
      else st.formLimit) := by
    split
    · exact h
    · exact h.formLimit
  have spaced {t : Station} (ht : Paced a t) : Paced a (if t.consts.startSpacing = old.startSpacing then t else t.armSpacing) := by
    split
    · exact ht
    · exact ht.armSpacing
  have rung {t : Station} (ht : Paced a t) : Paced a (if t.consts.stcPart = old.stcPart then t else t.ring).settleStc := by
    split
    · exact ht.settleStc
    · exact ht.ring.settleStc
  exact rung (spaced limited)

theorem Paced.rakeConstants {a st : Station} (h : Paced a st) (old : Constants) : Paced a (st.rakeConstants old) := by
  unfold Station.rakeConstants
  split
  · exact h
  · exact h.rearmInterval.settleStc

/-- New constants: a grant made in the event keeps the new START_SPACING (R81), and the beacon is judged by the new priorities
(R158). -/
theorem writeConstants_happens (st : Station) (c : Constants) : Happens st (st.writeConstants c).2 := by
  unfold Station.writeConstants
  split
  · exact .refl st
  · have taken (t : Station) : Steady t ((t.stcConstants st.consts).rakeConstants st.consts) :=
      .of_control (((ControlRun.refl t).stcConstants _).rakeConstants _) (((Paced.refl t).stcConstants _).rakeConstants _)
    obtain ⟨paced, points, -, driven⟩ := taken { st with consts := c }
    obtain ⟨judged, current⟩ := KeepsAlarms.judgeBeacon
      ((({ st with consts := c } : Station).stcConstants st.consts).rakeConstants st.consts)
    have last (t : Station) : Paced t t.judgeBeacon := .of_same rfl rfl rfl rfl
    exact ⟨⟨{ st with consts := c }, ⟨rfl, .inl rfl⟩, paced.trans (last _)⟩,
      ⟨fun h => judged.points (points h), fun _ => current, fun h => judged.driven (driven h)⟩⟩

theorem copyCurve_steady (st : Station) (code : Nat) : Steady st (st.copyCurve code).2 := by
  unfold Station.copyCurve
  split
  · exact .refl st
  · dsimp only
    split <;> exact .same

theorem writeCurvePoints_steady (st : Station) (code s : Nat) (l : List Point) : Steady st (st.writeCurvePoints code s l).2 := by
  unfold Station.writeCurvePoints
  split
  · exact .refl st
  · dsimp only
    split
    · exact .refl st
    · split <;> exact .same

theorem setCurveCount_steady (st : Station) (code n : Nat) : Steady st (st.setCurveCount code n).2 := by
  unfold Station.setCurveCount
  split
  · exact .refl st
  · dsimp only
    split
    · exact .refl st
    · split <;> exact .same

theorem commitCurve_steady (st : Station) (p : PortId) (code : Nat) : Steady st (st.commitCurve p code).2 := by
  unfold Station.commitCurve
  split
  · exact .refl st
  · dsimp only
    split
    · exact .refl st
    · split <;> exact .same

theorem setArithControl_steady (st : Station) (mode : Nat) (m c : FlagSet) : Steady st (st.setArithControl mode m c).2 := by
  unfold Station.setArithControl
  split
  · exact .refl st
  · exact ((Steady.refl st).setLevels _).judgeArith

theorem saveSettings_steady (st : Station) (p : PortId) : Steady st (st.saveSettings p) := (Steady.refl st).storeTrigger.store _

theorem takeReport_steady (st : Station) (seq : Nat) : Steady st (st.takeReport seq).2 := by
  unfold Station.takeReport
  split
  · exact .refl st
  · split <;> exact .same

theorem setClock_steady (st : Station) (t : Nat) : Steady st (st.setClock t).2 := by
  have noticed {u : Station} (h : Steady st u) : Steady st u.clockNotice := by
    unfold Station.clockNotice
    split
    · exact h.ofm _
    · exact h.ofm _
    · exact h
  have noted := (Steady.refl st).setSummary { st.rpq.summary with clockChanged := true }
  unfold Station.setClock
  refine noticed ?_
  split
  · exact ((noted.dailyClose.setQueue _).setSummary _).record _
  · exact (noted.setQueue _).record _

/-- A soft reset asks the drive for OFF, grants by the spacing, and drives the beacon again at its end (R53, R55, R90, R163). -/
theorem softReset_happens (st : Station) : Happens st st.softReset := by
  have levels : Steady st st.resetLevels := by
    obtain ⟨pa, pb, e⟩ := st.resetLevels_shape
    rw [e]; exact .same
  have outputs (t : Station) : Paced t t.resetOutputs :=
    have off : Paced t t.softResetOutputs.softResetDuty := ⟨rfl, rfl, fun _ => .inl, .single ⟨none, t.ctu.drive.softReset_eq _⟩⟩
    off.softResetStc
  have motors (t : Station) : Steady t t.resetPumps :=
    have moves := resetPumps_moves t
    .of_control moves.run (.of_same moves.run.keepsOuter.clock moves.run.keepsOuter.consts moves.drive (by
      obtain ⟨heard, e⟩ := moves.stc
      rw [e]))
  have rest {t u : Station} (h : Steady t u) : Steady t u.softResetRake.softResetOverflow.finishStcReset :=
    have raked := (h.control (ControlRun.refl u).softResetRake (Paced.refl u).softResetRake).softResetOverflow
    raked.control (ControlRun.refl _).finishStcReset (Paced.refl _).finishStcReset
  have later := rest (motors st.resetLevels.resetOutputs)
  have off (t : Station) : (t.pointsSafe → t.resetOutputs.pointsSafe) ∧ (t.beaconCurrent → t.resetOutputs.beaconCurrent) := ⟨id, id⟩
  have redriven (t : Station) : Paced t t.redriveBeacon ∧ (t.pointsSafe → t.redriveBeacon.pointsSafe) ∧
      (t.beaconCurrent → t.redriveBeacon.beaconCurrent) ∧ t.redriveBeacon.beaconDriven :=
    ⟨.of_same rfl rfl rfl rfl, id, id, fun _ => rfl⟩
  rw [Station.softReset_stages, Station.resetMotors]
  generalize st.resetLevels.resetOutputs.resetPumps.softResetRake.softResetOverflow.finishStcReset = last at later
  obtain ⟨paced, points, current, driven⟩ := redriven last
  exact ⟨⟨st, ⟨rfl, .inl rfl⟩, ((levels.paced.trans (outputs _)).trans later.paced).trans paced⟩,
    ⟨fun h => points (later.alarms.points ((off _).1 (levels.alarms.points h))),
      fun h => current (later.alarms.current ((off _).2 (levels.alarms.current h))), fun _ => driven⟩⟩

/-! ### Rows of the table -/

/-- A request does what its owner does. -/
theorem request_happens {s t : State} {p : PortId} {k : Kind} {owner : List Byte → Station → Reply × Station} {rest : List Byte}
    (h : s.on (fun st => st.intake p k owner rest) = .next t) (ho : ∀ ps u, Happens u (owner ps u).2) : Happens s.st t.st := by
  cases h
  show Happens s.st (s.st.intake p k owner rest)
  have moved (q r : Port) : Happens s.st ((s.st.setPort q p).setPort r p) :=
    .of_steady (((Steady.refl _).setPort q p).setPort r p)
  obtain h | h | ⟨r, -, -, h⟩ | ⟨ps, -, h⟩ := s.st.intake_cases p k owner rest
  · rw [h]; exact .refl _
  · rw [h]; exact moved _ _
  · rw [h]; exact moved _ _
  · rw [h]; exact (ho ps _).between_ports _ _

theorem request_steady {s t : State} {p : PortId} {k : Kind} {owner : List Byte → Station → Reply × Station} {rest : List Byte}
    (h : s.on (fun st => st.intake p k owner rest) = .next t) (ho : ∀ ps u, Steady u (owner ps u).2) : Happens s.st t.st :=
  request_happens h fun ps u => .of_steady (ho ps u)

/-- What acts on a running part alone. -/
theorem live_happens {s t : State} {f : Station → Station} (h : s.on (fun st => st.live f) = .next t)
    (hf : ∀ u, Happens u (f u)) : Happens s.st t.st := by
  cases h
  show Happens s.st (s.st.live f)
  unfold Station.live
  split
  · exact .refl _
  · exact hf _

theorem live_steady {s t : State} {f : Station → Station} (h : s.on (fun st => st.live f) = .next t)
    (hf : ∀ u, Steady u (f u)) : Happens s.st t.st := live_happens h fun u => .of_steady (hf u)

/-- A timed event, at its moment or not at all. -/
theorem event_happens {s t : State} {due : Station → Option Nat} {f : Station → Station}
    (h : s.on (fun st => st.live fun u => u.atStep (due u) f) = .next t) (hf : ∀ u, Steady u (f u)) : Happens s.st t.st := by
  refine live_happens h fun u => ?_
  unfold Station.atStep
  split
  · exact .refl u
  · split
    · exact .refl u
    next hr =>
      obtain ⟨c, rfl⟩ := u.reach_clock hr
      exact .at_clock (hf _)

theorem expiry_happens {s t : State} {expiry : Station → Option Nat} {f : Station → Station}
    (h : s.on (fun st => st.live fun u => u.atTick (expiry u) f) = .next t) (hf : ∀ u, Steady u (f u)) : Happens s.st t.st :=
  event_happens (due := fun u => (expiry u).map (10 * ·)) h hf

/-- An expiry at a pump. -/
theorem pumpExpiry_happens {s t : State} {expiry : Station → Option Nat} {n : PumpNo} {f : Station → Station}
    (h : s.on (fun st => st.live fun u => u.atTick (expiry u) fun v => v.pumpEvent n f) = .next t)
    (run : ∀ u, ControlRun u (f u)) (side : ∀ u, (f u).rakeSide = u.rakeSide) : Happens s.st t.st :=
  expiry_happens h fun u => .pumpEvent (run u) (side u)

/-- The end of a dead interval (R54). -/
theorem deadExpired_happens {st : Station} {c e : Nat} {w : Option Dir} (hd : st.ctu.drive = .dead e w) (he : e ≤ c) :
    Happens st ({ st with clock := c } : Station).deadExpired := by
  have paced (u : Station) : Paced u u.driveReport.settleStc := (Paced.refl u).driveReport.settleStc
  have moved : KeepsAlarms st { st with clock := c } := .of_same rfl rfl rfl rfl rfl
  have begun : Begun st { st with clock := c, ctu := { st.ctu with drive := st.ctu.drive.expire } } := ⟨rfl, .inr ⟨e, w, hd, he⟩⟩
  exact ⟨⟨_, begun, paced _⟩, moved.trans (.of_control (ControlRun.refl _).deadExpired)⟩

theorem deadIntervalExpiry_happens {s t : State} (h : execDeadIntervalExpiry s = .next t) : Happens s.st t.st := by
  refine live_happens h fun u => ?_
  cases hd : u.ctu.drive with
  | clear => exact .refl u
  | driven d => exact .refl u
  | dead e w =>
    show Happens u (u.atStep (some e) _)
    unfold Station.atStep
    dsimp only
    split
    · exact .refl u
    next hr =>
      obtain ⟨he, rfl⟩ | ⟨-, -, rfl⟩ := u.reach_cases hr
      · exact deadExpired_happens hd he
      · exact deadExpired_happens hd le_rfl

theorem emptyPeriod_happens {s t : State} {p : PortId} {k : Nat} (h : execEmptyPeriod p k s = .next t) : Happens s.st t.st := by
  unfold execEmptyPeriod at h
  split at h
  · cases h
  · exact live_steady h fun u => ((Steady.refl u).setPort _ p).setPort _ p

theorem requestNotTaken_happens {s t : State} {p : PortId} {bytes : List Byte} (h : execRequestNotTaken p bytes s = .next t) :
    Happens s.st t.st := by
  unfold execRequestNotTaken at h
  split at h
  · cases h
  · split at h
    · cases h
    · refine live_steady h fun u => ?_
      split
      · exact ((Steady.refl u).setPort _ p).setPort _ p
      · exact .refl u

theorem unknownRequest_happens {s t : State} {p : PortId} {code : Byte} {rest : List Byte}
    (h : execUnknownRequest p code rest s = .next t) : Happens s.st t.st := by
  unfold execUnknownRequest at h
  split at h
  · cases h
  · refine live_steady h fun u => ?_
    dsimp only
    split <;> exact ((Steady.refl u).setPort _ p).setPort _ p

theorem measurementCycle_happens {s t : State} {a b i w : BitVec 12} {order : List Reader}
    (h : execMeasurementCycle a b i w order s = .next t) : Happens s.st t.st := by
  unfold execMeasurementCycle at h
  split at h
  · exact expiry_happens (expiry := fun u => some u.lve.nextCycle) h fun u => (Steady.refl u).runCycle a b i w order
  · cases h

theorem storeWriteEnd_happens {s t : State} {defect : BitVec 16} (h : execStoreWriteEnd defect s = .next t) :
    Happens s.st t.st := by
  refine live_steady h fun u => ?_
  split
  · exact .refl u
  · exact (Steady.refl u).endWrite _ _

/-- Every command but the power-up and the hold in reset. -/
theorem exec_happens {c : Instr} {s t : State} (up : c ≠ .powerUp) (hold : c ≠ .resetHold) (h : exec c s = .next t) :
    Happens s.st t.st := by
  have rake {f : Station → Station} (run : ∀ u, ControlRun u (f u)) (p : ∀ u, Paced u (f u)) (u : Station) : Steady u (f u) :=
    .of_control (run u) (p u)
  cases c with
  | powerUp => exact absurd rfl up
  | resetHold => exact absurd rfl hold
  | selectFall p => exact live_steady h fun u => (Steady.refl u).setPort _ p
  | emptyPeriod p k => exact emptyPeriod_happens h
  | requestNotTaken p bytes => exact requestNotTaken_happens h
  | unknownRequest p code rest => exact unknownRequest_happens h
  | portClear p => exact live_steady h fun u => (Steady.refl u).setPort _ p
  | readStatus p rest => exact request_steady h fun _ u => .refl u
  | readChannels p rest => exact request_steady h fun _ u => .refl u
  | readWell p rest => exact request_steady h fun _ u => .refl u
  | readPump p rest => exact request_steady h fun _ u => readPump_steady u _
  | readRake p rest => exact request_steady h fun _ u => .refl u
  | readOverflow p rest => exact request_steady h fun _ u => .refl u
  | readAlarms p rest => exact request_steady h fun _ u => .refl u
  | readCurve p rest => exact request_steady h fun _ u => .refl u
  | setTraceWindow p rest => exact request_steady h fun _ u => setTraceWindow_steady u _ _ _
  | readTrace p rest => exact request_steady h fun _ u => readTrace_steady u _ _ _
  | peekReport p rest => exact request_steady h fun _ u => .refl u
  | readArith p rest => exact request_steady h fun _ u => .refl u
  | readSettings p rest => exact request_steady h fun _ u => .refl u
  | ackAlarm p rest => exact request_steady h fun _ u => ackAlarm_steady u _
  | clearAttention p rest => exact request_steady h fun _ u => clearAttention_steady u _ _
  | setAttentionMasks p rest => exact request_steady h fun _ u => setAttn_steady u _ p
  | releaseTrace p rest => exact request_steady h fun _ u => releaseTrace_steady u
  | setSetpoints p rest => exact request_steady h fun _ u => setSetpoints_steady u _
  | inhibitPump p rest => exact request_steady h fun _ u => atPump_steady u _ (ControlRun.refl u).inhibitPump u.inhibitPump_rakeSide
  | releasePump p rest => exact request_steady h fun _ u => atPump_steady u _ (ControlRun.refl u).releasePump u.releasePump_rakeSide
  | resetPumpFault p rest =>
    exact request_steady h fun _ u => atPump_steady u _ (ControlRun.refl u).resetPumpFault u.resetPumpFault_rakeSide
  | requestRakeCycle p rest =>
    exact request_steady h fun _ u => .of_control (ControlRun.refl u).rakeSetDemand.settleStc (Paced.refl u).rakeSetDemand.settleStc
  | resetRake p rest =>
    exact request_steady h fun _ u =>
      carriedOut_steady (.of_control (ControlRun.refl u).resetRake.settleStc (Paced.refl u).resetRake.settleStc)
  | writeChannel p rest => exact request_steady h fun _ u => writeChannel_steady u _ _
  | writePumpRecord p rest => exact request_steady h fun _ u => writePump_steady u _ _
  | writeRotation p rest => exact request_steady h fun _ u => writeRotation_steady u _ _
  | writeStationConstants p rest => exact request_happens h fun _ u => writeConstants_happens u _
  | copyCurve p rest => exact request_steady h fun _ u => copyCurve_steady u _
  | writeCurvePoints p rest => exact request_steady h fun _ u => writeCurvePoints_steady u _ _ _
  | setCurveCount p rest => exact request_steady h fun _ u => setCurveCount_steady u _ _
  | commitCurve p rest => exact request_steady h fun _ u => commitCurve_steady u _ _
  | setArithControl p rest => exact request_steady h fun _ u => setArithControl_steady u _ _ _
  | saveSettings p rest => exact request_steady h fun _ u => saveSettings_steady u p
  | stationReset p rest => exact request_happens h fun _ u => softReset_happens u
  | takeReport p rest => exact request_steady h fun _ u => takeReport_steady u _
  | setClock p rest => exact request_steady h fun _ u => setClock_steady u _
  | measurementCycle a b i w order => exact measurementCycle_happens h
  | rawLevelChange i level => cases h; exact .of_steady ((Steady.refl s.st).setInput _ _)
  | debounceExpiry i swapped =>
    exact event_happens (due := fun u => (u.ctu.input i).dueWhen true) h fun u =>
      ((Steady.refl u).setInput i _).deliver i _ swapped
  | firstSettling i swapped =>
    exact event_happens (due := fun u => (u.ctu.input i).dueWhen false) h fun u =>
      ((Steady.refl u).setInput i _).notice i swapped
  | spacingExpiry => exact expiry_happens h (rake (fun u => (ControlRun.refl u).spacingExpired) fun u => (Paced.refl u).spacingExpired)
  | budgetExpiry => exact expiry_happens h (rake (fun u => (ControlRun.refl u).budgetExpired) fun u => (Paced.refl u).budgetExpired)
  | confirmExpiry n => exact pumpExpiry_happens h (fun u => (ControlRun.refl u).confirmExpired n) (·.confirmExpired_rakeSide n)
  | minRunExpiry n => exact pumpExpiry_happens h (fun u => (ControlRun.refl u).minRunExpired n) (·.minRunExpired_rakeSide n)
  | stopConfirmExpiry n =>
    exact pumpExpiry_happens h (fun u => (ControlRun.refl u).stopConfirmExpired n) (·.stopConfirmExpired_rakeSide n)
  | minOffExpiry n => exact pumpExpiry_happens h (fun u => (ControlRun.refl u).endRest n) (·.endRest_rakeSide n)
  | pruneExpiry n => exact pumpExpiry_happens h (fun u => (ControlRun.refl u).prune n) (·.prune_rakeSide n)
  | deadIntervalExpiry => exact deadIntervalExpiry_happens h
  | lowerTimerExpiry =>
    exact expiry_happens h (rake (fun u => (ControlRun.refl u).lowerExpired) fun u => ((Paced.refl u).rakeJam _).settleStc)
  | raiseTimerExpiry =>
    exact expiry_happens h (rake (fun u => (ControlRun.refl u).raiseExpired) fun u => ((Paced.refl u).rakeJam _).settleStc)
  | reverseTimerExpiry =>
    exact expiry_happens h (rake (fun u => (ControlRun.refl u).reverseExpired) fun u =>
      ((Paced.refl u).rakeEnter _).driveReport.settleStc)
  | dwellExpiry =>
    exact expiry_happens h (rake (fun u => (ControlRun.refl u).dwellExpired) fun u =>
      (((Paced.refl u).countCycle.rakeEnter _).rearmInterval).settleStc)
  | restTimerExpiry =>
    exact expiry_happens h (rake (fun u => (ControlRun.refl u).restExpired) fun u => (Paced.refl u).rakeIdle.settleStc)
  | intervalExpiry =>
    exact expiry_happens h (rake (fun u => (ControlRun.refl u).intervalExpired.settleStc) fun u =>
      (Paced.refl u).intervalExpired.settleStc)
  | stationTimeAdvance first => exact expiry_happens h fun u => (Steady.refl u).advanceSecond first
  | storeWriteEnd defect => exact storeWriteEnd_happens h

/-! ### Grants and directions -/

/-- Between two grants lies START_SPACING as it stands at the later one (R81). -/
theorem Happens.grants_spaced {s t : Station} (h : Happens s t) {x y : Nat} (hx : s.stc.lastGrant = some x)
    (hy : t.stc.lastGrant = some y) : x = y ∨ (x + 10 * t.consts.startSpacing ≤ y ∧ y = t.uptime) := by
  obtain ⟨⟨u, ⟨grant, -⟩, paced⟩, -⟩ := h
  have uptime : t.uptime = u.uptime := by simp only [Station.uptime, paced.clock]
  rw [uptime, paced.consts]
  obtain hg | ⟨hg, spaced⟩ := paced.grant x (grant.trans hx)
  · exact .inl (Option.some.inj (hg.symm.trans hy))
  · obtain rfl : u.uptime = y := Option.some.inj (hg.symm.trans hy)
    exact .inr ⟨spaced, rfl⟩

/-- A direction turns on out of CLEAR or at the end of a dead interval (R53). -/
theorem Happens.turns_on {s t : Station} (h : Happens s t) {d : Dir} (hd : t.ctu.drive = .driven d) :
    s.ctu.drive = .driven d ∨ s.ctu.drive = .clear ∨ ∃ e w, s.ctu.drive = .dead e w ∧ e ≤ t.clock := by
  obtain ⟨⟨u, ⟨-, drive⟩, paced⟩, -⟩ := h
  rw [paced.clock]
  obtain same | ended := drive
  · rw [← same]
    have asked := paced.drive
    rw [hd] at asked
    cases hu : u.ctu.drive with
    | clear => exact .inr (.inl rfl)
    | driven d' =>
      rw [hu] at asked
      obtain e | ⟨w, e⟩ := asked.of_driven
      · exact .inl e.symm
      · cases e
    | dead e w =>
      rw [hu] at asked
      obtain ⟨w', e⟩ := asked.of_dead
      cases e
  · exact .inr (.inr ended)

/-- A turn-off begins a dead interval of fifty steps (R53). -/
theorem Happens.turns_off {s t : Station} (h : Happens s t) {d : Dir} (hd : s.ctu.drive = .driven d) :
    t.ctu.drive = .driven d ∨ ∃ w, t.ctu.drive = .dead (t.clock + 50) w := by
  obtain ⟨⟨u, ⟨-, drive⟩, paced⟩, -⟩ := h
  obtain same | ⟨e, w, ended, -⟩ := drive
  · have asked := paced.drive
    rw [same, hd] at asked
    rw [paced.clock]
    exact asked.of_driven
  · rw [hd] at ended; cases ended

/-- A power-up starts with a dead interval (R53). -/
theorem powerUp_drive (st : Station) : st.powerUp.ctu.drive = .dead 50 none := by
  unfold Station.powerUp
  split
  · rfl
  · rw [Station.report_drive]; rfl

/-- Settles O57: from what every other command can do, and the drive that the two resets of the part leave. -/
theorem grantsAndDirectionsAreSpaced : Obligations.GrantsAndDirectionsAreSpaced := by
  refine ⟨fun c s t x y up h hx hy => ?_, fun c s t d h => ⟨fun hd => ?_, fun hd up hold => (exec_happens up hold h).turns_off hd⟩⟩
  · by_cases hold : c = .resetHold
    · subst hold
      cases h
      exact .inl (Option.some.inj (hx.symm.trans hy))
    · exact (exec_happens up hold h).grants_spaced hx hy
  · by_cases up : c = .powerUp
    · subst up
      cases h
      cases hd.symm.trans (powerUp_drive s.st)
    · by_cases hold : c = .resetHold
      · subst hold
        cases h
        cases hd
      · exact (exec_happens up hold h).turns_on hd

/-! ### The alarm table -/

/-- A power-up over any image leaves the alarm table sound (R163). -/
theorem powerUp_alarmsSafe (st : Station) : st.powerUp.alarmsSafe := by
  have start (t : StoredItems) (b : Bool) : (st.fromItems t b).alarmsSafe := by
    have point (k : PointNo) : (st.fromItems t b).alt.points[k] = .powerUp := by simp [Station.fromItems, AlarmTable.powerUp]
    refine ⟨fun k => ?_, ?_, fun _ => rfl⟩
    · rw [point]; simp [PointRec.safe, PointRec.powerUp]
    · show false = _
      simp [beaconJudged, point, PointRec.powerUp]
  unfold Station.powerUp
  split
  · exact start st.sst.image.items false
  · exact (KeepsAlarms.report _ _ _).alarmsSafe (start .defaults true)

/-- Every command keeps the alarm table sound. -/
theorem exec_alarmsSafe {c : Instr} {s t : State} (h : exec c s = .next t) (hs : s.st.alarmsSafe) : t.st.alarmsSafe := by
  by_cases up : c = .powerUp
  · subst up
    cases h
    exact powerUp_alarmsSafe s.st
  · by_cases hold : c = .resetHold
    · subst hold
      cases h
      exact ⟨hs.1, hs.2.1, fun held => by cases held⟩
    · exact (exec_happens up hold h).alarms.alarmsSafe hs

/-- Settles O58: a command keeps the table sound, and the passing of time does not touch it. -/
theorem alarmTableStaysSound : Obligations.AlarmTableStaysSound := by
  intro s t hs h
  unfold step at h
  split at h
  · unfold idle at h
    split at h
    · exact exec_alarmsSafe h hs
    · cases h
      show s.st.pass.alarmsSafe
      unfold Station.pass
      split <;> exact hs
  next rest _ => exact exec_alarmsSafe (s := { s with pending := rest }) h hs

end Sys2Proof.Machine
end

section
/-! PROOFS. What the Start Controller's event leaves as it was, and the rake drive by Table 3-4 (R53, R54, R117, R123 to R125). -/

namespace Sys2Proof.Machine

/-! ### The Start Controller's event -/

/-- What the Start Controller does in an event keeps `P`: its own record and points, and the sheds and grants that it orders. -/
structure StcKeeps (P : Station → Prop) : Prop where
  stc : ∀ (a : Station) (c : StartControl), P a → P { a with stc := c }
  report : ∀ (a : Station) (k : PointNo) (on : Bool), k = Alarm.loadShed ∨ k = Alarm.capacityHeld → P a → P (a.report k on)
  shedPump : ∀ (a : Station) (n : PumpNo), P a → P ((a.shedPump n).reportPump n)
  shedRake : ∀ a : Station, P a → P a.shedRake
  grantPump : ∀ (a : Station) (n : PumpNo), P a → P (a.grantPump n)
  grantRake : ∀ a : Station, P a → P a.grantRake

namespace StcKeeps

variable {P : Station → Prop} (k : StcKeeps P) {st : Station} (h : P st)

include k h

theorem shedMotors (l : List Motor) : P (l.foldl Station.shedMotor st) := by
  induction l generalizing st with
  | nil => exact h
  | cons m l ih =>
    refine ih ?_
    cases m with
    | pump n => exact k.shedPump _ n (k.stc _ _ h)
    | rake => exact k.shedRake _ (k.stc _ _ h)

theorem shedPass : P st.shedPass := by
  unfold Station.shedPass
  split
  · exact h
  · exact k.shedMotors (k.report _ _ _ (.inl rfl) (k.stc _ _ h)) _

theorem shedPasses (n : Nat) : P (Station.shedPasses n st) := by
  induction n generalizing st with
  | zero => exact h
  | succ n ih =>
    unfold Station.shedPasses
    split
    · exact ih (k.shedPass h)
    · exact h

theorem grant (m : Motor) : P (st.grant m) := by
  have held {t : Station} (ht : P t) : P t.holdNewHead := by
    unfold Station.holdNewHead
    split
    · exact ht
    · exact k.stc _ _ ht
  have delivered {t : Station} (ht : P t) : P (t.deliverGrant m) := by
    cases m with
    | pump n => exact k.grantPump _ n ht
    | rake => exact k.grantRake _ ht
  exact held (delivered (k.stc _ _ (k.stc _ _ (k.stc _ _ h))))

theorem grantTest : P st.grantTest := by
  unfold Station.grantTest
  split
  · exact h
  · split
    · split
      · exact k.grant h _
      · exact k.stc _ _ h
    · exact k.stc _ _ h

theorem testLoadShed : P st.testLoadShed := by
  unfold Station.testLoadShed
  split
  · exact k.report _ _ _ (.inl rfl) (k.stc _ _ h)
  · exact h

theorem judgeBudget : P st.judgeBudget := by
  unfold Station.judgeBudget
  split
  · split
    · exact h
    · exact k.stc _ _ h
  · exact k.report _ _ _ (.inr rfl) (k.stc _ _ h)

/-- So the event keeps it. -/
theorem settleStc : P st.settleStc := by
  unfold Station.settleStc
  split
  · exact k.stc _ _ (k.judgeBudget (k.testLoadShed (k.grantTest (k.shedPasses h 8))))
  · exact h

end StcKeeps

/-- With nothing heard the Start Controller has no event. -/
theorem settleStc_unheard {st : Station} (h : st.stc.heard = false) : st.settleStc = st := if_neg (by simp [h])

/-! ### The rake through the Start Controller's event -/

/-- The sheds and grants of pumps leave the rake record and the drive. -/
theorem rake_of_rakeSide {a b : Station} (h : b.rakeSide = a.rakeSide) : b.rkc = a.rkc ∧ b.ctu.drive = a.ctu.drive := by
  simp only [Station.rakeSide, Prod.mk.injEq] at h
  exact ⟨h.1, h.2.1⟩

/-- A property of the rake record and the drive that the rake keeps at a shed and at a grant. -/
theorem StcKeeps.of_rake {Q : Rake → Drive → Prop} (shed : ∀ a : Station, Q a.rkc a.ctu.drive → Q a.shedRake.rkc a.shedRake.ctu.drive)
    (grant : ∀ a : Station, Q a.rkc a.ctu.drive → Q a.grantRake.rkc a.grantRake.ctu.drive) :
    StcKeeps fun a => Q a.rkc a.ctu.drive where
  stc _ _ h := h
  report a k on _ h := by simpa using h
  shedPump a n h := by
    obtain ⟨rkc, drive⟩ := rake_of_rakeSide (show ((a.shedPump n).reportPump n).rakeSide = a.rakeSide by simp)
    rwa [rkc, drive]
  shedRake := shed
  grantPump a n h := by
    obtain ⟨rkc, drive⟩ := rake_of_rakeSide (a.grantPump_rakeSide n)
    rwa [rkc, drive]
  grantRake := grant

/-- A rake at rest, neither waiting nor in motion, stays as it is, and so does the drive. -/
theorem settleStc_rests {st : Station} (hw : st.rkc.state ≠ .waiting) (hm : st.rkc.state.inMotion = false) :
    st.settleStc.rkc = st.rkc ∧ st.settleStc.ctu.drive = st.ctu.drive := by
  refine (StcKeeps.of_rake (Q := fun r d => r = st.rkc ∧ d = st.ctu.drive) (fun a ha => ?_) fun a ha => ?_).settleStc ⟨rfl, rfl⟩
  · rw [Station.shedRake, if_neg (by rw [ha.1, hm]; decide)]
    exact ha
  · rw [Station.grantRake, if_neg (by rw [ha.1]; exact hw)]
    exact ha

/-! ### Entries of the rake (R116, R117) -/

theorem rakeEnter_rkc (st : Station) (s : RakeState) : (st.rakeEnter s).rkc = { st.rkc with
    state := s, stateChange := st.uptime, timer := st.consts.entryTimer st.uptime s, drivePending := s.inMotion } := by
  unfold Station.rakeEnter
  dsimp only
  split <;> rfl

theorem rakeEnter_drive (st : Station) (s : RakeState) :
    (st.rakeEnter s).ctu.drive = st.ctu.drive.request st.clock s.direction := by
  unfold Station.rakeEnter
  dsimp only
  split <;> rfl

/-- The Start Controller hears of an entry into motion and of an end of motion alone. -/
theorem rakeEnter_unheard {st : Station} {s : RakeState} (hm : st.rkc.state.inMotion = s.inMotion) :
    (st.rakeEnter s).stc = st.stc := by
  unfold Station.rakeEnter
  dsimp only
  rw [if_pos hm]
  rfl

theorem enqueue_rkc (st : Station) (m : Motor) : (st.enqueue m).rkc = st.rkc := (rake_of_rakeSide (st.enqueue_rakeSide m)).1

theorem enqueue_drive (st : Station) (m : Motor) : (st.enqueue m).ctu.drive = st.ctu.drive :=
  (rake_of_rakeSide (st.enqueue_rakeSide m)).2

/-- Homing is over, `k` cycles are counted, and the drive is in a dead interval. -/
def homed (k : Nat) (r : Rake) (d : Drive) : Prop := r.homing = false ∧ r.cyclesToday = k ∧ ∃ e w, d = .dead e w

theorem rakeEnter_homed {k : Nat} {st : Station} (s : RakeState) (h : homed k st.rkc st.ctu.drive) :
    homed k (st.rakeEnter s).rkc (st.rakeEnter s).ctu.drive := by
  obtain ⟨homing, cycles, e, w, dead⟩ := h
  rw [rakeEnter_rkc, rakeEnter_drive, dead]
  exact ⟨homing, cycles, e, _, rfl⟩

/-- No direction is driven in a dead interval. -/
theorem driveReport_dead {st : Station} (h : ∃ e w, st.ctu.drive = .dead e w) : st.driveReport = st := by
  obtain ⟨e, w, h⟩ := h
  refine if_neg fun ⟨_, asked, driven⟩ => ?_
  rw [← driven, h] at asked
  cases asked

/-- A homed rake stays homed in the Start Controller's event, and no cycle is counted. -/
theorem settleStc_homed {k : Nat} {st : Station} (h : homed k st.rkc st.ctu.drive) :
    homed k st.settleStc.rkc st.settleStc.ctu.drive := by
  refine (StcKeeps.of_rake (fun a ha => ?_) fun a ha => ?_).settleStc h
  · unfold Station.shedRake
    split
    · rw [enqueue_rkc, enqueue_drive]
      exact rakeEnter_homed (st := { a with rkc := { a.rkc with demand := true } }) _ ha
    · exact ha
  · unfold Station.grantRake
    split
    · have lowered := rakeEnter_homed (st := { a with rkc := { a.rkc with retries := a.consts.retries, demand := false } })
        .lowering ha
      dsimp only
      rw [if_neg (by rw [ha.1]; decide), driveReport_dead lowered.2.2]
      exact lowered
    · exact ha

/-! ### The drive's report -/

/-- A report of another direction than the one last asked for leaves the rake (R117). -/
theorem driveReport_other {st : Station} {d : Dir} (hd : st.ctu.drive = .driven d)
    (h : st.rkc.drivePending = false ∨ st.rkc.state.direction ≠ some d) : st.driveReport = st := by
  refine if_neg fun ⟨pending, _, driven⟩ => ?_
  rw [hd] at driven
  obtain h | h := h
  · rw [h] at pending; cases pending
  · exact h driven.symm

theorem driveReport_asked {st : Station} {d : Dir} (hd : st.ctu.drive = .driven d) (hp : st.rkc.drivePending = true)
    (hs : st.rkc.state.direction = some d) : st.driveReport = st.rakeDriven := by
  refine if_pos ⟨hp, ?_, ?_⟩
  · rw [hs]; rfl
  · rw [hs, hd]; rfl

end Sys2Proof.Machine
end

section
/-! PROOFS. The end of a dead interval: the waiting direction is driven, and the rake that waits for it goes on by its settled
contacts (R54, R117, R123 to R125). -/

namespace Sys2Proof.Machine

/-! ### What a report of the direction can lead to -/

theorem rakeJam_rkc (st : Station) (c : JamCause) : (st.rakeJam c).rkc = { (st.rakeEnter .jammed).rkc with
    jamCause := some c, homing := false, jamsToday := satAdd Config.top16 (st.rakeEnter .jammed).rkc.jamsToday 1 } := by
  simp [Station.rakeJam]

/-- A jam outlasts the Start Controller's event (R127). -/
theorem rakeJam_settled (st : Station) (c : JamCause) :
    let r := (st.rakeJam c).settleStc.rkc
    r.state = .jammed ∧ r.jamCause = some c ∧ r.homing = false := by
  have jammed : (st.rakeJam c).rkc.state = .jammed := by rw [rakeJam_rkc, rakeEnter_rkc]
  intro r
  have stays : r = (st.rakeJam c).rkc := (settleStc_rests (by rw [jammed]; decide) (by rw [jammed]; decide)).1
  rw [stays]
  exact ⟨jammed, by rw [rakeJam_rkc], by rw [rakeJam_rkc]⟩

/-- A rake in motion that turns to another motion is turned through a dead interval, and no event follows at the Start Controller. -/
theorem rakeEnter_turns {st : Station} {s : RakeState} {d d' : Dir} (hd : st.ctu.drive = .driven d) (hs : s.direction = some d')
    (hne : d ≠ d') (hm : st.rkc.state.inMotion = s.inMotion) (hq : st.stc.heard = false) :
    let t := (st.rakeEnter s).settleStc
    t.rkc = { st.rkc with
      state := s, stateChange := st.uptime, timer := st.consts.entryTimer st.uptime s, drivePending := s.inMotion } ∧
    t.ctu.drive = .dead (st.clock + 50) (some d') := by
  intro t
  have quiet : t = st.rakeEnter s := settleStc_unheard (by rw [rakeEnter_unheard hm]; exact hq)
  rw [quiet, rakeEnter_rkc, rakeEnter_drive, hd, hs]
  exact ⟨rfl, if_neg hne⟩

/-- A driven rake whose homing is over enters IDLE: its direction is turned off. -/
theorem rakeIdle_homed {st : Station} {d : Dir} (hd : st.ctu.drive = .driven d) (hh : st.rkc.homing = false) :
    homed st.rkc.cyclesToday st.rakeIdle.rkc st.rakeIdle.ctu.drive := by
  have idle : homed st.rkc.cyclesToday (st.rakeEnter .idle).rkc (st.rakeEnter .idle).ctu.drive := by
    rw [rakeEnter_rkc, rakeEnter_drive, hd]
    exact ⟨hh, rfl, _, _, rfl⟩
  unfold Station.rakeIdle Station.rakeTestWait
  split
  · rw [enqueue_rkc, enqueue_drive]
    exact rakeEnter_homed _ idle
  · exact idle

section
variable {v : Station} (hq : v.stc.heard = false)

include hq

/-- RAKE_DOWN driven in LOWERING (R123). -/
theorem lowering_driven (hs : v.rkc.state = .lowering) (hd : v.ctu.drive = .driven .down) :
    let t := v.rakeDriven.settleStc
    (v.settled .torqueTrip = true → t.rkc.state = .jammed ∧ t.rkc.jamCause = some .torque ∧ t.rkc.homing = false) ∧
    (v.settled .torqueTrip = false → v.settled .limBottom = true →
      t.rkc.state = .raising ∧ t.rkc.drivePending = true ∧ t.ctu.drive = .dead (v.clock + 50) (some .up)) ∧
    (v.settled .torqueTrip = false → v.settled .limBottom = false → t = v.rakeBegin v.consts.lowerMax) := by
  have driven : v.rakeDriven = if v.settled .torqueTrip then (v.rakeBegin v.consts.lowerMax).rakeJam .torque
      else if v.settled .limBottom then (v.rakeBegin v.consts.lowerMax).rakeEnter .raising
      else v.rakeBegin v.consts.lowerMax := by
    unfold Station.rakeDriven; rw [hs]; rfl
  refine ⟨fun ht => ?_, fun ht hl => ?_, fun ht hl => ?_⟩
  · rw [driven, if_pos ht]
    exact rakeJam_settled _ _
  · rw [driven, if_neg (by simp [ht]), if_pos hl]
    obtain ⟨rkc, drive⟩ := rakeEnter_turns (st := v.rakeBegin v.consts.lowerMax) (s := .raising) hd rfl (by decide)
      (show v.rkc.state.inMotion = _ by rw [hs]; rfl) hq
    exact ⟨by rw [rkc], by rw [rkc]; rfl, drive⟩
  · rw [driven, if_neg (by simp [ht]), if_neg (by simp [hl])]
    exact settleStc_unheard hq

/-- RAKE_UP driven in RAISING (R124, R128). -/
theorem raising_driven (hs : v.rkc.state = .raising) (hd : v.ctu.drive = .driven .up) :
    let t := v.rakeDriven.settleStc
    (v.settled .limTop = true → v.rkc.homing = false →
      t.rkc.state = .discharging ∧ t.rkc.timer = some (v.uptime + 10 * v.consts.dwell) ∧
      t.ctu.drive = .dead (v.clock + 50) none) ∧
    (v.settled .limTop = true → v.rkc.homing = true → t.rkc.homing = false ∧ t.rkc.cyclesToday = v.rkc.cyclesToday) ∧
    (v.settled .limTop = false → v.settled .torqueTrip = true →
      (v.rkc.retries = 0 → t.rkc.state = .jammed ∧ t.rkc.jamCause = some .torque) ∧
      (v.rkc.retries ≠ 0 → t.rkc.state = .reversing ∧ t.rkc.retries + 1 = v.rkc.retries ∧
        t.ctu.drive = .dead (v.clock + 50) (some .down))) ∧
    (v.settled .limTop = false → v.settled .torqueTrip = false → t = v.rakeBegin v.consts.raiseMax) := by
  have driven : v.rakeDriven = if v.settled .limTop then (v.rakeBegin v.consts.raiseMax).rakeAtTop
      else if v.settled .torqueTrip then (v.rakeBegin v.consts.raiseMax).rakeTrip else v.rakeBegin v.consts.raiseMax := by
    unfold Station.rakeDriven; rw [hs]; rfl
  have moving : v.rkc.state.inMotion = true := by rw [hs]; rfl
  refine ⟨fun ht hh => ?_, fun ht hh => ?_, fun ht hl => ⟨fun hr => ?_, fun hr => ?_⟩, fun ht hl => ?_⟩
  · have top : (v.rakeBegin v.consts.raiseMax).rakeAtTop = (v.rakeBegin v.consts.raiseMax).rakeEnter .discharging :=
      if_neg (show ¬v.rkc.homing = true by simp [hh])
    rw [driven, if_pos ht, top]
    obtain ⟨rkc, drive⟩ := settleStc_rests (st := (v.rakeBegin v.consts.raiseMax).rakeEnter .discharging)
      (by rw [rakeEnter_rkc]; exact nofun) (by rw [rakeEnter_rkc]; rfl)
    rw [rkc, drive, rakeEnter_rkc, rakeEnter_drive]
    exact ⟨rfl, rfl, by rw [show (v.rakeBegin v.consts.raiseMax).ctu.drive = _ from hd]; rfl⟩
  · have top : (v.rakeBegin v.consts.raiseMax).rakeAtTop =
        ({ v.rakeBegin v.consts.raiseMax with rkc := { (v.rakeBegin v.consts.raiseMax).rkc with homing := false } }).rakeIdle :=
      if_pos hh
    rw [driven, if_pos ht, top]
    obtain ⟨homing, cycles, -⟩ := settleStc_homed (rakeIdle_homed
      (st := { v.rakeBegin v.consts.raiseMax with rkc := { (v.rakeBegin v.consts.raiseMax).rkc with homing := false } }) hd rfl)
    exact ⟨homing, cycles⟩
  · have trip : (v.rakeBegin v.consts.raiseMax).rakeTrip = (v.rakeBegin v.consts.raiseMax).rakeJam .torque := if_pos hr
    rw [driven, if_neg (by simp [ht]), if_pos hl, trip]
    obtain ⟨jammed, cause, -⟩ := rakeJam_settled (v.rakeBegin v.consts.raiseMax) .torque
    exact ⟨jammed, cause⟩
  · have trip : (v.rakeBegin v.consts.raiseMax).rakeTrip = ({ v.rakeBegin v.consts.raiseMax with
        rkc := { (v.rakeBegin v.consts.raiseMax).rkc with retries := v.rkc.retries - 1 } }).rakeEnter .reversing := if_neg hr
    rw [driven, if_neg (by simp [ht]), if_pos hl, trip]
    obtain ⟨rkc, drive⟩ := rakeEnter_turns (st := { v.rakeBegin v.consts.raiseMax with
      rkc := { (v.rakeBegin v.consts.raiseMax).rkc with retries := v.rkc.retries - 1 } }) (s := .reversing) hd rfl (by decide)
      moving hq
    exact ⟨by rw [rkc], by rw [rkc]; exact Nat.succ_pred_eq_of_ne_zero hr, drive⟩
  · rw [driven, if_neg (by simp [ht]), if_neg (by simp [hl])]
    exact settleStc_unheard hq

/-- RAKE_DOWN driven in REVERSING (R125). -/
theorem reversing_driven (hs : v.rkc.state = .reversing) (hd : v.ctu.drive = .driven .down) :
    let t := v.rakeDriven.settleStc
    (v.settled .limBottom = true →
      t.rkc.state = .raising ∧ t.rkc.retries = v.rkc.retries ∧ t.ctu.drive = .dead (v.clock + 50) (some .up)) ∧
    (v.settled .limBottom = false → t = v.rakeBegin v.consts.reverseTime) := by
  have driven : v.rakeDriven = if v.settled .limBottom then (v.rakeBegin v.consts.reverseTime).rakeEnter .raising
      else v.rakeBegin v.consts.reverseTime := by
    unfold Station.rakeDriven; rw [hs]; rfl
  refine ⟨fun hl => ?_, fun hl => ?_⟩
  · rw [driven, if_pos hl]
    obtain ⟨rkc, drive⟩ := rakeEnter_turns (st := v.rakeBegin v.consts.reverseTime) (s := .raising) hd rfl (by decide)
      (show v.rkc.state.inMotion = _ by rw [hs]; rfl) hq
    exact ⟨by rw [rkc], by rw [rkc]; rfl, drive⟩
  · rw [driven, if_neg (by simp [hl])]
    exact settleStc_unheard hq

end

/-! ### The end of a dead interval -/

theorem Drive.not_both_outputs (x : Drive) : ¬(x.output .down = true ∧ x.output .up = true) := by
  rintro ⟨down, up⟩
  have down : x = .driven .down := eq_of_beq down
  have up : x = .driven .up := eq_of_beq up
  cases down.symm.trans up

/-- DEAD_INTERVAL_EXPIRY at the step at which it comes. -/
theorem exec_deadIntervalExpiry {s : State} {u : Station} (h : s.st.deadComesDue u) :
    exec .deadIntervalExpiry s = .next { s with st := u.deadExpired } :=
  congrArg (fun x : Station => Host.Outcome.next (State.mk x s.pending)) (Station.deadComesDue_live Station.deadExpired h)

/-- The interval ends with no direction waiting. -/
theorem deadExpired_none {u : Station} {e : Nat} (hd : u.ctu.drive = .dead e none) (hq : u.stc.heard = false) :
    u.deadExpired = { u with ctu := { u.ctu with drive := .clear } } := by
  have cleared : u.deadExpired = ({ u with ctu := { u.ctu with drive := .clear } } : Station).driveReport.settleStc := by
    unfold Station.deadExpired; rw [hd]; rfl
  have silent : ({ u with ctu := { u.ctu with drive := .clear } } : Station).driveReport =
      { u with ctu := { u.ctu with drive := .clear } } := by
    refine if_neg fun ⟨_, asked, driven⟩ => ?_
    rw [← driven] at asked
    cases asked
  rw [cleared, silent]
  exact settleStc_unheard hq

/-- The station with the direction `d` driven. -/
def Station.driving (u : Station) (d : Dir) : Station := { u with ctu := { u.ctu with drive := .driven d } }

/-- The interval ends and the waiting direction is driven. -/
theorem deadExpired_some {u : Station} {e : Nat} {d : Dir} (hd : u.ctu.drive = .dead e (some d)) :
    u.deadExpired = (u.driving d).driveReport.settleStc := by
  unfold Station.deadExpired; rw [hd]; rfl

/-- No rake waits for the direction. -/
theorem deadExpired_unasked {u : Station} {e : Nat} {d : Dir} (hd : u.ctu.drive = .dead e (some d)) (hq : u.stc.heard = false)
    (h : u.rkc.drivePending = false ∨ u.rkc.state.direction ≠ some d) : u.deadExpired = u.driving d := by
  rw [deadExpired_some hd, driveReport_other (st := u.driving d) rfl h]
  exact settleStc_unheard hq

/-- The rake waits for the direction. -/
theorem deadExpired_asked {u : Station} {e : Nat} {d : Dir} (hd : u.ctu.drive = .dead e (some d)) (hp : u.rkc.drivePending = true)
    (hs : u.rkc.state.direction = some d) : (u.driving d).rakeDriven.settleStc = u.deadExpired := by
  rw [deadExpired_some hd, driveReport_asked (st := u.driving d) rfl hp hs]

/-- Settles O36: the table by the constructors of the drive, the end of a dead interval by the phase of the rake that waits for it. -/
theorem driveFollowsItsTable : Obligations.DriveFollowsItsTable := by
  refine ⟨fun now e w req d d' => ⟨rfl, rfl, if_pos rfl, rfl, fun h => if_neg h, rfl, Drive.not_both_outputs⟩,
    fun s u h hq => ⟨_, exec_deadIntervalExpiry h, rfl, (ControlRun.refl u).deadExpired.keepsOuter, ?_⟩⟩
  obtain ⟨-, due, -, reached⟩ := h
  obtain ⟨c, same⟩ := Station.reach_clock reached
  have drive : u.ctu.drive = s.st.ctu.drive := by rw [same]
  have quiet : u.stc.heard = false := by rw [same]; exact hq
  have rake : s.st.rkc = u.rkc := by rw [same]
  have contact (i : Input) : s.st.settled i = u.settled i := by rw [same]; rfl
  have consts : s.st.consts = u.consts := by rw [same]
  rw [← drive, rake, consts]
  simp only [contact]
  refine ⟨fun e hd => deadExpired_none hd quiet, fun e d hd => ⟨deadExpired_unasked hd quiet, fun hp hs hd' => ?_, fun hp hs hd' => ?_,
    fun hp hs hd' => ?_⟩⟩ <;> subst hd' <;> rw [← deadExpired_asked hd hp (by rw [hs]; rfl)]
  · exact lowering_driven (v := u.driving .down) quiet hs rfl
  · exact raising_driven (v := u.driving .up) quiet hs rfl
  · exact reversing_driven (v := u.driving .down) quiet hs rfl

end Sys2Proof.Machine
end

section
/-! PROOFS. What the other motors leave of a pump: its record, its output, its fault point; and a pump at rest through the Start
Controller's event. -/

namespace Sys2Proof.Machine

/-- What no other motor touches of pump n. -/
def Station.pumpSide (st : Station) (n : PumpNo) : PumpRec × Bool × PointRec :=
  (st.pumps[n], st.ctu.pumpRun[n], st.alt.points[Alarm.pumpFault n])

theorem Alarm.ne_pumpFault {k : PointNo} (n : PumpNo) (h : 6 ≤ k.val) : k ≠ Alarm.pumpFault n := by
  rintro rfl
  have : n.val < 6 := n.isLt
  exact absurd h (by simp [Alarm.pumpFault])

/-! ### Elementary updates -/

section
variable (st : Station) (n : PumpNo)

@[simp] theorem Station.withStc_pumpSide (c : StartControl) : ({ st with stc := c } : Station).pumpSide n = st.pumpSide n := rfl
@[simp] theorem Station.withRkc_pumpSide (r : Rake) : ({ st with rkc := r } : Station).pumpSide n = st.pumpSide n := rfl
@[simp] theorem Station.askDrive_pumpSide (d : Option Dir) : (st.askDrive d).pumpSide n = st.pumpSide n := rfl
@[simp] theorem Station.rakeBegin_pumpSide (k : Nat) : (st.rakeBegin k).pumpSide n = st.pumpSide n := rfl
@[simp] theorem Station.withdrawRake_pumpSide : st.withdrawRake.pumpSide n = st.pumpSide n := rfl
@[simp] theorem Station.reportUnshed_pumpSide (m : PumpNo) : (st.reportUnshed m).pumpSide n = st.pumpSide n := rfl

theorem Station.report_pumpSide {k : PointNo} (hk : k ≠ Alarm.pumpFault n) (on : Bool) :
    (st.report k on).pumpSide n = st.pumpSide n := by
  simp only [Station.pumpSide, Station.report_pumps, Station.report_pumpRun, st.report_others on hk.symm]

@[simp] theorem Station.enqueue_pumpSide (m : Motor) : (st.enqueue m).pumpSide n = st.pumpSide n := by
  unfold Station.enqueue
  split <;> rfl

@[simp] theorem Station.testPumpDown_pumpSide : st.testPumpDown.pumpSide n = st.pumpSide n := by
  unfold Station.testPumpDown Station.alternate
  split
  · split <;> rfl
  · rfl

/-! ### Another pump -/

variable {m : PumpNo} (h : n ≠ m)

include h

theorem Station.setPump_pumpSide (p : PumpRec) : (st.setPump m p).pumpSide n = st.pumpSide n := by
  simp only [Station.pumpSide, st.setPump_other m n p h.symm]; rfl

theorem Station.setPumpRun_pumpSide (on : Bool) : (st.setPumpRun m on).pumpSide n = st.pumpSide n := by
  have output : (st.ctu.pumpRun.set m on)[n] = st.ctu.pumpRun[n] := set_other _ _ h
  simp only [Station.pumpSide, Station.setPumpRun, output]

theorem Station.enter_pumpSide (s : PumpState) : (st.enter m s).pumpSide n = st.pumpSide n := by
  unfold Station.enter
  dsimp only
  rw [Station.testPumpDown_pumpSide, Station.setPump_pumpSide _ _ h]
  split <;> rfl

theorem Station.reportPump_pumpSide : (st.reportPump m).pumpSide n = st.pumpSide n := by
  have fault : Alarm.pumpFault m ≠ Alarm.pumpFault n := fun e => h (Fin.ext (congrArg Fin.val e).symm)
  have lost : Alarm.runLost m ≠ Alarm.pumpFault n := Alarm.ne_pumpFault n (Nat.le_add_right 6 m.val)
  unfold Station.reportPump Station.judgeStartLimited
  rw [Station.report_pumpSide _ _ (Alarm.ne_pumpFault n (by decide)), Station.report_pumpSide _ _ lost,
    Station.report_pumpSide _ _ fault]

theorem Station.stopNow_pumpSide : (st.stopNow m).pumpSide n = st.pumpSide n := by
  unfold Station.stopNow Station.setDeferred
  rw [Station.enter_pumpSide _ _ h, Station.setPump_pumpSide _ _ h, Station.setPumpRun_pumpSide _ _ h]

theorem Station.shedPump_pumpSide : (st.shedPump m).pumpSide n = st.pumpSide n := by
  unfold Station.shedPump
  split
  · dsimp only
    split
    · rw [Station.setPump_pumpSide _ _ h, Station.stopNow_pumpSide _ _ h]
    · rw [Station.reportUnshed_pumpSide, Station.stopNow_pumpSide _ _ h]
  · rfl

theorem Station.grantPump_pumpSide : (st.grantPump m).pumpSide n = st.pumpSide n := by
  unfold Station.grantPump Station.prune
  split
  · rw [Station.reportPump_pumpSide _ _ h, Station.enter_pumpSide _ _ h, Station.setPumpRun_pumpSide _ _ h,
      Station.setPump_pumpSide _ _ h, Station.setPump_pumpSide _ _ h]
  · rfl

end

/-! ### The rake -/

section
variable (st : Station) (n : PumpNo)

@[simp] theorem Station.rakeEnter_pumpSide (s : RakeState) : (st.rakeEnter s).pumpSide n = st.pumpSide n := by
  unfold Station.rakeEnter
  dsimp only
  split <;> rfl

@[simp] theorem Station.rakeIdle_pumpSide : st.rakeIdle.pumpSide n = st.pumpSide n := by
  unfold Station.rakeIdle Station.rakeTestWait
  split <;> simp

@[simp] theorem Station.rakeJam_pumpSide (c : JamCause) : (st.rakeJam c).pumpSide n = st.pumpSide n := by
  simp [Station.rakeJam, Station.report_pumpSide _ _ (Alarm.ne_pumpFault (k := Alarm.rakeJammed) n (by decide))]

@[simp] theorem Station.rakeAtTop_pumpSide : st.rakeAtTop.pumpSide n = st.pumpSide n := by
  unfold Station.rakeAtTop
  split <;> simp

@[simp] theorem Station.rakeTrip_pumpSide : st.rakeTrip.pumpSide n = st.pumpSide n := by
  unfold Station.rakeTrip
  split <;> simp

@[simp] theorem Station.rakeDriven_pumpSide : st.rakeDriven.pumpSide n = st.pumpSide n := by
  unfold Station.rakeDriven
  split <;> simp [apply_ite (Station.pumpSide · n)]

@[simp] theorem Station.grantRake_pumpSide : st.grantRake.pumpSide n = st.pumpSide n := by
  unfold Station.grantRake Station.driveReport
  simp [apply_ite (Station.pumpSide · n)]

@[simp] theorem Station.shedRake_pumpSide : st.shedRake.pumpSide n = st.pumpSide n := by
  unfold Station.shedRake
  split <;> simp

end

/-! ### A pump's conditions -/

/-- PUMP_n_FAULT depends on the pump's record and the contacts. -/
theorem pumpFaultCondition_of_keeps {a b : Station} {n : PumpNo} (k : KeepsOuter a b) (h : b.pumps[n] = a.pumps[n]) :
    b.pumpFaultCondition n = a.pumpFaultCondition n := by
  have settled (i : Input) : (b.ctu.input i).hasSettled = (a.ctu.input i).hasSettled := congrArg InputRec.hasSettled (k.inputs i)
  have noticed : b.pumpNoticed n = a.pumpNoticed n := by
    have hand : b.ctu.hoaHand[n].hasSettled = a.ctu.hoaHand[n].hasSettled := settled (.hoaHand n)
    have auto : b.ctu.hoaAuto[n].hasSettled = a.ctu.hoaAuto[n].hasSettled := settled (.hoaAuto n)
    have feedback : b.ctu.runFb[n].hasSettled = a.ctu.runFb[n].hasSettled := settled (.runFb n)
    have fault : b.ctu.pumpFault[n].hasSettled = a.ctu.pumpFault[n].hasSettled := settled (.pumpFault n)
    unfold Station.pumpNoticed
    rw [hand, auto, feedback, fault]
  unfold Station.pumpFaultCondition
  rw [h, noticed, k.settled]

@[simp] theorem Station.reportPump_pumps (st : Station) (n : PumpNo) : (st.reportPump n).pumps = st.pumps := by
  simp [Station.reportPump, Station.judgeStartLimited]

@[simp] theorem Station.reportPump_pumpRun (st : Station) (n : PumpNo) : (st.reportPump n).ctu.pumpRun = st.ctu.pumpRun := by
  simp [Station.reportPump, Station.judgeStartLimited]

@[simp] theorem Station.reportPump_stc (st : Station) (n : PumpNo) : (st.reportPump n).stc = st.stc := by
  simp [Station.reportPump, Station.judgeStartLimited]

/-- The fault point of pump n holds its condition. -/
def Station.faultShown (st : Station) (n : PumpNo) : Prop :=
  st.alt.points[Alarm.pumpFault n].condition = st.pumpFaultCondition n

theorem reportPump_faultPoint (st : Station) (n : PumpNo) : (st.reportPump n).alt.points[Alarm.pumpFault n] =
    (st.report (Alarm.pumpFault n) (st.pumpFaultCondition n)).alt.points[Alarm.pumpFault n] := by
  have lost : Alarm.pumpFault n ≠ Alarm.runLost n := (Alarm.ne_pumpFault n (Nat.le_add_right 6 n.val)).symm
  have limited : Alarm.pumpFault n ≠ Alarm.startLimited := (Alarm.ne_pumpFault n (by decide)).symm
  unfold Station.reportPump Station.judgeStartLimited
  rw [Station.report_others _ _ limited, Station.report_others _ _ lost]

theorem reportPump_faultShown (st : Station) (n : PumpNo) : (st.reportPump n).faultShown n := by
  unfold Station.faultShown
  rw [reportPump_faultPoint, Station.report_condition,
    pumpFaultCondition_of_keeps (keeps_reportPump st n) (by rw [Station.reportPump_pumps])]

/-- A report of the conditions held leaves the pump and its fault point. -/
theorem reportPump_pumpSide_same {st : Station} {n : PumpNo} (h : st.faultShown n) :
    (st.reportPump n).pumpSide n = st.pumpSide n := by
  unfold Station.pumpSide
  rw [reportPump_faultPoint, Station.report_same h, Station.reportPump_pumps, Station.reportPump_pumpRun]

/-! ### A pump at rest -/

/-- Neither waiting nor in motion: a grant does not reach it, a shed order finds nothing to stop. -/
def PumpState.atRest (x : PumpState) : Prop := x ≠ .waiting ∧ x.inMotion = false

/-- A pump at rest whose fault point holds its condition is untouched by the Start Controller's event. -/
theorem settleStc_pumpSide {st : Station} {n : PumpNo} (rest : st.pumps[n].state.atRest) (shown : st.faultShown n) :
    st.settleStc.pumpSide n = st.pumpSide n := by
  obtain ⟨notWaiting, still⟩ := rest
  have same {a : Station} (h : ControlRun st a ∧ a.pumpSide n = st.pumpSide n) :
      a.pumps[n] = st.pumps[n] ∧ a.faultShown n := by
    obtain ⟨run, side⟩ := h
    simp only [Station.pumpSide, Prod.mk.injEq] at side
    obtain ⟨record, -, point⟩ := side
    refine ⟨record, ?_⟩
    unfold Station.faultShown
    rw [point, pumpFaultCondition_of_keeps run.keepsOuter record]
    exact shown
  refine (StcKeeps.settleStc (P := fun a => ControlRun st a ∧ a.pumpSide n = st.pumpSide n)
    ⟨fun a c h => ?_, fun a k on hk h => ?_, fun a m h => ?_, fun a h => ?_, fun a m h => ?_, fun a h => ?_⟩ ⟨.refl st, rfl⟩).2
  · exact ⟨h.1.stc c, h.2⟩
  · have owned : controlPoint k := .inr (.inl (by obtain rfl | rfl := hk <;> decide))
    have other : k ≠ Alarm.pumpFault n := Alarm.ne_pumpFault n (by obtain rfl | rfl := hk <;> decide)
    exact ⟨h.1.report owned on, (a.report_pumpSide n other on).trans h.2⟩
  · refine ⟨(h.1.shedPump m).reportPump m, Eq.trans ?_ h.2⟩
    by_cases hm : n = m
    · subst hm
      obtain ⟨record, held⟩ := same h
      rw [Station.shedPump, if_neg (by rw [record, still]; decide)]
      exact reportPump_pumpSide_same (st := a.reportUnshed n) held
    · rw [Station.reportPump_pumpSide _ _ hm, Station.shedPump_pumpSide _ _ hm]
  · exact ⟨h.1.shedRake, (a.shedRake_pumpSide n).trans h.2⟩
  · refine ⟨h.1.grantPump m, Eq.trans ?_ h.2⟩
    by_cases hm : n = m
    · subst hm
      rw [Station.grantPump, if_neg (by rw [(same h).1]; exact notWaiting)]
    · exact Station.grantPump_pumpSide _ _ hm
  · exact ⟨h.1.grantRake, (a.grantRake_pumpSide n).trans h.2⟩

end Sys2Proof.Machine
end

section
/-! PROOFS. The selectors (Table 3-3, R50) and what a change of position makes of a pump (R107). -/

namespace Sys2Proof.Machine

/-! ### Moves of pump n, on its record and its output -/

section
variable (st : Station) (n : PumpNo)

@[simp] theorem Station.testPumpDown_pumps : st.testPumpDown.pumps = st.pumps := by
  unfold Station.testPumpDown Station.alternate
  split
  · split <;> rfl
  · rfl

@[simp] theorem Station.testPumpDown_pumpRun : st.testPumpDown.ctu.pumpRun = st.ctu.pumpRun := by
  unfold Station.testPumpDown Station.alternate
  split
  · split <;> rfl
  · rfl

/-- The record of a pump that enters a state (R92). -/
def PumpRec.entered (p : PumpRec) (now : Nat) (s : PumpState) : PumpRec :=
  { p with state := s, stateChange := now, timer := p.settings.timerFor now s, minRunElapsed := false }

@[simp] theorem Station.enter_pumps (s : PumpState) :
    (st.enter n s).pumps = st.pumps.set n (st.pumps[n].entered st.uptime s) := by
  unfold Station.enter
  dsimp only
  rw [Station.testPumpDown_pumps]
  split <;> rfl

@[simp] theorem Station.enter_pumpRun (s : PumpState) : (st.enter n s).ctu.pumpRun = st.ctu.pumpRun := by
  unfold Station.enter
  dsimp only
  rw [Station.testPumpDown_pumpRun]
  split <;> rfl

@[simp] theorem Station.withdrawPump_pumps : (st.withdrawPump n).pumps = st.pumps := by
  unfold Station.withdrawPump
  split <;> rfl

@[simp] theorem Station.clearDemand_pumps :
    (st.clearDemand n).pumps = st.pumps.set n { st.pumps[n] with demand := false, shed := false } := by
  unfold Station.clearDemand
  dsimp only
  split <;> rfl

@[simp] theorem Station.clearDemand_pumpRun : (st.clearDemand n).ctu.pumpRun = st.ctu.pumpRun := by
  unfold Station.clearDemand
  dsimp only
  split <;> rfl

@[simp] theorem Station.setPumpRun_pumpRun (on : Bool) : (st.setPumpRun n on).ctu.pumpRun = st.ctu.pumpRun.set n on := rfl

/-- A pump taken out of duty: demand and marks cleared. -/
def PumpRec.cleared (p : PumpRec) : PumpRec :=
  { p with demand := false, shed := false, deferred := .none, inhibit := false }

/-- The first moves of R105 and R107: out of the queue, output off, demand and marks cleared. -/
def Station.takenOff (st : Station) (n : PumpNo) : Station :=
  ((((st.withdrawPump n).setPumpRun n false).clearDemand n).setDeferred n .none).setInhibit n false

theorem Station.takenOff_pump : (st.takenOff n).pumps[n] = st.pumps[n].cleared := by
  simp [Station.takenOff, PumpRec.cleared]

theorem Station.takenOff_pumpRun : (st.takenOff n).ctu.pumpRun[n] = false := by
  simp [Station.takenOff]

theorem Station.takenOff_uptime : (st.takenOff n).uptime = st.uptime := by
  have run : ControlRun st (st.takenOff n) :=
    (((((ControlRun.refl st).withdrawPump n).setPumpRun n _).clearDemand n).setDeferred n _).setInhibit n _
  exact run.keepsOuter.uptime

/-- Out of auto operation (R107). -/
theorem Station.leaveAuto_pump (s : PumpState) :
    (st.leaveAuto n s).pumps[n] = { st.pumps[n].cleared with cause := none }.entered st.uptime s := by
  have off : st.leaveAuto n s = ((st.takenOff n).setPump n { (st.takenOff n).pumps[n] with cause := none }).enter n s := rfl
  rw [off, ← st.takenOff_uptime n, ← st.takenOff_pump n]
  simp
  rfl

theorem Station.leaveAuto_pumpRun (s : PumpState) : (st.leaveAuto n s).ctu.pumpRun[n] = false := by
  have off : st.leaveAuto n s = ((st.takenOff n).setPump n { (st.takenOff n).pumps[n] with cause := none }).enter n s := rfl
  rw [off, Station.enter_pumpRun]
  exact st.takenOff_pumpRun n

/-- A motor fault (R105). -/
theorem Station.motorFault_pump :
    (st.motorFault n).pumps[n] = { st.pumps[n].cleared.entered st.uptime .faulted with cause := some .motorFault } := by
  have off : st.motorFault n = (st.takenOff n).enterFaulted n .motorFault := rfl
  rw [off, ← st.takenOff_uptime n, ← st.takenOff_pump n]
  simp [Station.enterFaulted]

/-- Into auto operation: by the settled contacts FAULTED, STOPPING or READY (R107). -/
theorem Station.enterAuto_pump :
    let p := (st.enterAuto n).pumps[n]
    p.state = (if st.settled (.pumpFault n) then .faulted else if st.settled (.runFb n) then .stopping else .ready) ∧
    (st.settled (.pumpFault n) = true → p.cause = some .motorFault) ∧
    p.settings = st.pumps[n].settings ∧ p.history = st.pumps[n].history := by
  have settled := (keeps_enter st n .ready).settled
  have ready : (st.enter n .ready).pumps[n] = st.pumps[n].entered st.uptime .ready := by simp
  unfold Station.enterAuto
  dsimp only
  rw [settled, settled]
  by_cases fault : st.settled (.pumpFault n) = true
  · rw [if_pos fault, if_pos fault, Station.motorFault_pump, ready]
    exact ⟨rfl, fun _ => rfl, rfl, rfl⟩
  · rw [if_neg fault, if_neg fault]
    by_cases fb : st.settled (.runFb n) = true
    · have stopped : ((st.enter n .ready).stopNow n).pumps[n] =
          { (st.enter n .ready).pumps[n] with deferred := .none }.entered
            (((st.enter n .ready).setPumpRun n false).setDeferred n .none).uptime .stopping := by simp [Station.stopNow]
      rw [if_pos fb, if_pos fb, stopped, ready]
      exact ⟨rfl, fun h => absurd h fault, rfl, rfl⟩
    · rw [if_neg fb, if_neg fb, ready]
      exact ⟨rfl, fun h => absurd h fault, rfl, rfl⟩

end

/-! ### A change of position (R107) -/

/-- The state to which a position other than AUTO takes a pump. -/
def Position.manual (pos : Position) : PumpState := if pos = .hand then .hand else .off

theorem Position.manual_atRest (pos : Position) : pos.manual.atRest := by
  unfold Position.manual
  split <;> exact ⟨by decide, rfl⟩

section
variable {st : Station} {n : PumpNo} {pos : Position}

theorem selectorChange_uninstalled (h : st.pumps[n].state = .uninstalled) : st.selectorChange n pos = st := by
  unfold Station.selectorChange
  rw [h]

/-- To AUTO in an auto state or in FAULTED: nothing (assumption 48). -/
theorem selectorChange_auto_stays (h : st.pumps[n].state.auto = true ∨ st.pumps[n].state = .faulted) :
    st.selectorChange n .auto = st := by
  unfold Station.selectorChange
  generalize st.pumps[n].state = x at h ⊢
  cases x
  case uninstalled | off | hand => exact absurd h (by decide)
  all_goals rfl

theorem selectorChange_auto_enters (h : st.pumps[n].state = .off ∨ st.pumps[n].state = .hand) :
    st.selectorChange n .auto = st.enterAuto n := by
  unfold Station.selectorChange
  obtain h | h := h <;> rw [h]

/-- Out of an auto state or FAULTED. -/
theorem selectorChange_leaves (hp : pos ≠ .auto) (h : st.pumps[n].state.auto = true ∨ st.pumps[n].state = .faulted) :
    st.selectorChange n pos = st.leaveAuto n pos.manual := by
  unfold Station.selectorChange
  generalize st.pumps[n].state = x at h ⊢
  cases pos
  case auto => exact absurd rfl hp
  all_goals
    cases x
    case uninstalled | off | hand => exact absurd h (by decide)
    all_goals rfl

/-- Between OFF and HAND: an entry, or nothing where the pump stands there already (assumption 48). -/
theorem selectorChange_turns (hp : pos ≠ .auto) (h : st.pumps[n].state = .off ∨ st.pumps[n].state = .hand) :
    (st.selectorChange n pos = st ∧ st.pumps[n].state = pos.manual) ∨ st.selectorChange n pos = st.enter n pos.manual := by
  unfold Station.selectorChange
  cases pos
  case auto => exact absurd rfl hp
  all_goals
    obtain h | h := h <;> rw [h]
  · exact .inl ⟨rfl, rfl⟩
  · exact .inr rfl
  · exact .inr rfl
  · exact .inl ⟨rfl, rfl⟩

/-- The states fall into four groups. -/
theorem PumpState.groups (x : PumpState) : x = .uninstalled ∨ (x.auto = true ∨ x = .faulted) ∨ x = .off ∨ x = .hand := by
  cases x <;> decide

/-- A change of position leaves the station, or puts the pump to rest; settings and history stay. -/
theorem selectorChange_rests (st : Station) (n : PumpNo) (pos : Position) :
    (st.selectorChange n pos = st ∨ (st.selectorChange n pos).pumps[n].state.atRest) ∧
    (st.selectorChange n pos).pumps[n].settings = st.pumps[n].settings ∧
    (st.selectorChange n pos).pumps[n].history = st.pumps[n].history := by
  obtain h | h | h := st.pumps[n].state.groups
  · rw [selectorChange_uninstalled h]; exact ⟨.inl rfl, rfl, rfl⟩
  · by_cases hp : pos = .auto
    · subst hp
      rw [selectorChange_auto_stays h]; exact ⟨.inl rfl, rfl, rfl⟩
    · rw [selectorChange_leaves hp h, Station.leaveAuto_pump]
      exact ⟨.inr pos.manual_atRest, rfl, rfl⟩
  · by_cases hp : pos = .auto
    · subst hp
      rw [selectorChange_auto_enters h]
      obtain ⟨state, -, settings, history⟩ := st.enterAuto_pump n
      refine ⟨.inr ?_, settings, history⟩
      rw [state]
      split
      · exact ⟨by decide, rfl⟩
      · split <;> exact ⟨by decide, rfl⟩
    · obtain ⟨same, -⟩ | enters := selectorChange_turns hp h
      · rw [same]; exact ⟨.inl rfl, rfl, rfl⟩
      · have record : (st.enter n pos.manual).pumps[n] = st.pumps[n].entered st.uptime pos.manual := by simp
        rw [enters, record]
        exact ⟨.inr pos.manual_atRest, rfl, rfl⟩

/-- The delivery of the change with its reports and the Start Controller's event moves the pump as the change alone does, and its
fault point holds its condition (R111). -/
theorem selectorEvent_pump (hq : st.stc.heard = false) :
    let t := st.pumpEvent n fun s => s.selectorChange n pos
    t.pumps[n] = (st.selectorChange n pos).pumps[n] ∧ t.ctu.pumpRun[n] = (st.selectorChange n pos).ctu.pumpRun[n] ∧
    t.faultShown n := by
  intro t
  have shown := reportPump_faultShown (st.selectorChange n pos) n
  have side : t.pumpSide n = ((st.selectorChange n pos).reportPump n).pumpSide n := by
    obtain same | rest := (selectorChange_rests st n pos).1
    · refine congrArg (Station.pumpSide · n) (settleStc_unheard (st := (st.selectorChange n pos).reportPump n) ?_)
      rw [Station.reportPump_stc, same]
      exact hq
    · exact settleStc_pumpSide (by rw [Station.reportPump_pumps]; exact rest) shown
  simp only [Station.pumpSide, Prod.mk.injEq, Station.reportPump_pumps, Station.reportPump_pumpRun] at side
  obtain ⟨record, output, point⟩ := side
  refine ⟨record, output, ?_⟩
  have keeps : KeepsOuter ((st.selectorChange n pos).reportPump n) t := (ControlRun.refl _).settleStc.keepsOuter
  unfold Station.faultShown at shown ⊢
  rw [point, shown, pumpFaultCondition_of_keeps keeps (by simpa using record)]

/-- Where the change leaves the station only the reports follow. -/
theorem selectorEvent_stays (hq : st.stc.heard = false) (same : st.selectorChange n pos = st) :
    (st.pumpEvent n fun s => s.selectorChange n pos) = st.reportPump n := by
  have handled : (st.pumpEvent n fun s => s.selectorChange n pos) = ((st.selectorChange n pos).reportPump n).settleStc := rfl
  rw [handled, same]
  exact settleStc_unheard (by rw [Station.reportPump_stc]; exact hq)

end

/-! ### The decoding (R50) -/

section
variable {v : Station} {n : PumpNo}

theorem decodeSelector_stays (h : (v.decoded n).position = v.ctu.selectors[n].position) :
    v.decodeSelector n = v.setSelector n (v.decoded n) := if_pos h

theorem decodeSelector_changes (h : (v.decoded n).position ≠ v.ctu.selectors[n].position) : v.decodeSelector n =
    (v.setSelector n (v.decoded n)).pumpEvent n fun s => s.selectorChange n (v.decoded n).position := if_neg h

/-- The decoding moves no contact. -/
theorem decodeSelector_decoded (v : Station) (n : PumpNo) : (v.decodeSelector n).decoded n = v.decoded n := by
  have settled (i : Input) : (v.decodeSelector n).settled i = v.settled i :=
    congrArg InputRec.settled ((decodeSelector_keepsBlocks v n).inputs i)
  simp only [Station.decoded, settled]

/-- It replaces the selector record of its pump alone. -/
theorem decodeSelector_selectors (v : Station) (n : PumpNo) :
    (v.decodeSelector n).ctu.selectors = v.ctu.selectors.set n (v.decoded n) := by
  by_cases h : (v.decoded n).position = v.ctu.selectors[n].position
  · rw [decodeSelector_stays h]; rfl
  · have run := (ControlRun.refl (v.setSelector n (v.decoded n))).selectorChange n (v.decoded n).position
    rw [decodeSelector_changes h, (ControlRun.pumpEvent run).keepsOuter.selectors]; rfl

end

/-- A taken change of either contact of pump n is delivered at a station that differs from the one before in its clock and in the
records of the contacts of that pair (R46). -/
theorem hoaChange_delivered {s : State} {n : PumpNo} {i : Input} {u : Station} (swapped : Bool) (hi : i = .hoaHand n ∨ i = .hoaAuto n)
    (h : s.st.changeComesDue i u) : ∃ c x, u.takeChange i swapped = ({ s.st with clock := c, ctu := x } : Station).decodeSelector n ∧
      x.selectors = s.st.ctu.selectors ∧ x.pumpRun = s.st.ctu.pumpRun ∧ x.drive = s.st.ctu.drive ∧
      x.input (.pumpFault n) = s.st.ctu.input (.pumpFault n) ∧ x.input (.runFb n) = s.st.ctu.input (.runFb n) := by
  obtain ⟨-, due, -, reached⟩ := h
  obtain ⟨c, rfl⟩ := Station.reach_clock reached
  refine ⟨c, s.st.ctu.setInput ((s.st.ctu.input i).take ({ s.st with clock := c } : Station).uptime) i, ?_⟩
  obtain rfl | rfl := hi <;> exact ⟨rfl, rfl, rfl, rfl, rfl, rfl⟩

/-- Settles O35: the table by the two contacts; a change of position by what it does to the pump alone, which the Start Controller's
event leaves. -/
theorem selectorChangesReachThePump : Obligations.SelectorChangesReachThePump := by
  refine ⟨fun hand auto => by cases hand <;> cases auto <;> rfl, fun s n i swapped u hi h hq => ?_⟩
  obtain ⟨c, x, delivered, selectors, pumpRun, drive, fault, feedback⟩ := hoaChange_delivered swapped hi h
  generalize hv : ({ s.st with clock := c, ctu := x } : Station) = v at delivered
  have decoded : Selector.decode ((v.decodeSelector n).settled (.hoaHand n)) ((v.decodeSelector n).settled (.hoaAuto n)) =
      v.decoded n := decodeSelector_decoded v n
  have held : v.ctu.selectors = s.st.ctu.selectors := by rw [← hv]; exact selectors
  refine ⟨{ s with st := v.decodeSelector n }, by rw [exec_debounceExpiry swapped h, delivered], rfl, ?_⟩
  simp only [decoded, ← held]
  refine ⟨?_, fun k hk => ?_, fun stays => ?_, fun changes => ?_⟩
  · simp [decodeSelector_selectors]
  · simp only [decodeSelector_selectors]
    exact set_other _ _ hk
  · rw [decodeSelector_stays stays, ← hv]
    exact ⟨rfl, rfl, rfl, rfl, rfl, rfl, pumpRun, drive⟩
  · rw [decodeSelector_changes changes]
    generalize (v.decoded n).position = pos
    generalize ha : v.setSelector n (v.decoded n) = a
    have pumps : a.pumps = s.st.pumps := by rw [← ha, ← hv]; rfl
    have stc : a.stc = s.st.stc := by rw [← ha, ← hv]; rfl
    have faultSettled : a.settled (.pumpFault n) = s.st.settled (.pumpFault n) := by
      rw [← ha, ← hv]; exact congrArg InputRec.settled fault
    have feedbackSettled : a.settled (.runFb n) = s.st.settled (.runFb n) := by
      rw [← ha, ← hv]; exact congrArg InputRec.settled feedback
    have quiet : a.stc.heard = false := by rw [stc]; exact hq
    obtain ⟨record, output, shown⟩ := selectorEvent_pump (pos := pos) (n := n) quiet
    obtain ⟨-, settings, history⟩ := selectorChange_rests a n pos
    simp only [record, output, ← pumps, ← stc, ← faultSettled, ← feedbackSettled]
    refine ⟨shown, settings, history, fun old => ?_, fun manual old => ?_, fun manual old => ?_, fun auto old => ?_,
      fun auto old => ?_, fun auto old => ?_⟩
    · rw [selectorChange_uninstalled old]; exact old
    · rw [selectorChange_leaves manual old, Station.leaveAuto_pump, Station.leaveAuto_pumpRun]
      exact ⟨rfl, rfl, rfl, rfl, rfl, rfl, rfl⟩
    · obtain ⟨same, there⟩ | enters := selectorChange_turns manual old
      · rw [same]; exact there
      · rw [enters]; simp [PumpRec.entered, Position.manual]
    · subst auto
      rw [selectorChange_auto_stays (.inr old)]; exact old
    · subst auto
      rw [selectorEvent_stays quiet (selectorChange_auto_stays (.inl old)), Station.reportPump_pumps, Station.reportPump_stc]
      exact ⟨rfl, rfl⟩
    · subst auto
      obtain ⟨state, cause, -, -⟩ := a.enterAuto_pump n
      rw [selectorChange_auto_enters old]
      exact ⟨state, cause⟩

end Sys2Proof.Machine
end

section
/-! PROOFS. What a handling by a pump or the rake leaves of the start queue, of the rotation list and of the loads (R60, R75, R82). -/

-- One proof at a time: each of the many short ones below has a definition's equations made and would wait for them in a thread of its own.
set_option Elab.async false

namespace Sys2Proof.Machine

/-! ### The start queue (R75, R76) -/

/-- A queue as R75 has it: one entry for a motor, no hold reason behind the head. -/
def QueueSound (q : List QEntry) : Prop := (q.map (·.motor)).Nodup ∧ ∀ e ∈ q.tail, e.hold = .none

theorem insertEntry_perm (key : Motor → Nat) (e : QEntry) (l : List QEntry) : (insertEntry key e l).Perm (e :: l) := by
  induction l with
  | nil => exact .refl _
  | cons x l ih =>
    unfold insertEntry
    split
    · exact .refl _
    · exact (ih.cons x).trans (.swap e x l)

theorem sortQueue_perm (key : Motor → Nat) (l : List QEntry) : (sortQueue key l).Perm l := by
  induction l with
  | nil => exact .refl _
  | cons e l ih => exact (insertEntry_perm key e _).trans (ih.cons e)

theorem clearTail_motors (l : List QEntry) : (clearTail l).map (·.motor) = l.map (·.motor) := by
  cases l <;> simp [clearTail, Function.comp_def]

theorem clearTail_holds (l : List QEntry) : ∀ e ∈ (clearTail l).tail, e.hold = .none := by
  cases l with
  | nil => exact fun e he => by cases he
  | cons x l =>
    intro e he
    obtain ⟨y, -, rfl⟩ := List.mem_map.mp he
    rfl

namespace QueueSound

variable {q : List QEntry} (h : QueueSound q)

include h

theorem resorted (key : Motor → Nat) : QueueSound (clearTail (sortQueue key q)) := by
  refine ⟨?_, clearTail_holds _⟩
  rw [clearTail_motors]
  exact (((sortQueue_perm key q).map _).nodup_iff).mpr h.1

theorem filtered (keep : QEntry → Bool) : QueueSound (q.filter keep) := by
  refine ⟨h.1.sublist (List.filter_sublist.map _), fun e he => h.2 e ?_⟩
  cases q with
  | nil => exact he
  | cons x l =>
    rw [List.filter_cons] at he
    split at he
    · exact (List.mem_filter.mp he).1
    · exact (List.mem_filter.mp (List.mem_of_mem_tail he)).1

theorem held (r : Hold) : QueueSound (holdHead r q) := by
  refine ⟨by rw [holdHead_motors]; exact h.1, ?_⟩
  cases q with
  | nil => exact h.2
  | cons x l => exact h.2

/-- A motor without an entry may be appended. -/
theorem appended {m : Motor} (now : Nat) (fresh : ∀ e ∈ q, e.motor ≠ m) : QueueSound (q ++ [⟨m, now, .none⟩]) := by
  constructor
  · rw [List.map_append]
    refine List.nodup_append.mpr ⟨h.1, List.nodup_singleton _, ?_⟩
    intro x hx y hy
    obtain ⟨e, he, rfl⟩ := List.mem_map.mp hx
    rw [List.mem_singleton.mp hy]
    exact fresh e he
  · intro e he
    cases q with
    | nil => cases he
    | cons x l =>
      obtain he | he := List.mem_append.mp he
      · exact h.2 e he
      · rw [List.mem_singleton.mp he]

end QueueSound

/-! ### The rotation list (R64) -/

theorem rotateOnce_perm (l : List PumpNo) : (rotateOnce l).Perm l := by
  cases l with
  | nil => exact .refl _
  | cons n l => exact List.perm_append_singleton n l

theorem insertByHours_perm (hours : PumpNo → Nat) (n : PumpNo) (l : List PumpNo) : (insertByHours hours n l).Perm (n :: l) := by
  induction l with
  | nil => exact .refl _
  | cons x l ih =>
    unfold insertByHours
    split
    · exact .refl _
    · exact (ih.cons x).trans (.swap n x l)

theorem sortByHours_perm (hours : PumpNo → Nat) (l : List PumpNo) : (sortByHours hours l).Perm l := by
  induction l with
  | nil => exact .refl _
  | cons n l ih => exact (insertByHours_perm hours n _).trans (ih.cons n)

/-! ### A handling -/

/-- What everything that a motor or the Start Controller does leaves: a sound queue, the motor table, the members of the rotation
list, the settings of the pumps, and what `KeepsOuter` names. -/
structure Arranged (a b : Station) : Prop where
  outer : KeepsOuter a b
  queue : QueueSound a.stc.queue → QueueSound b.stc.queue
  seen : b.stc.runFbSeen = a.stc.runFbSeen
  limit : b.stc.genSeen = a.stc.genSeen
  members : b.dty.rotation.Perm a.dty.rotation
  settings : ∀ n : PumpNo, b.pumps[n].settings = a.pumps[n].settings

/-- What a handling by a pump or the rake leaves: no motor comes into motion or out of it without word to the Start Controller (R93,
R117), and word once given stands. -/
structure Shifts (a b : Station) : Prop extends Arranged a b where
  word : a.stc.heard = true → b.stc.heard = true
  motion : b.stc.heard = true ∨
    (∀ n : PumpNo, b.pumps[n].state.inMotion = a.pumps[n].state.inMotion) ∧ b.rkc.state.inMotion = a.rkc.state.inMotion

theorem Arranged.refl (a : Station) : Arranged a a := ⟨.refl a, id, rfl, rfl, .refl _, fun _ => rfl⟩

theorem Arranged.trans {a b c : Station} (h : Arranged a b) (k : Arranged b c) : Arranged a c where
  outer := h.outer.trans k.outer
  queue := k.queue ∘ h.queue
  seen := k.seen.trans h.seen
  limit := k.limit.trans h.limit
  members := k.members.trans h.members
  settings := fun n => (k.settings n).trans (h.settings n)

namespace Shifts

theorem refl (a : Station) : Shifts a a := ⟨.refl a, id, .inr ⟨fun _ => rfl, rfl⟩⟩

theorem trans {a b c : Station} (h : Shifts a b) (k : Shifts b c) : Shifts a c where
  toArranged := h.toArranged.trans k.toArranged
  word := k.word ∘ h.word
  motion := by
    obtain heard | ⟨pumps', rake'⟩ := k.motion
    · exact .inl heard
    · obtain heard | ⟨pumps, rake⟩ := h.motion
      · exact .inl (k.word heard)
      · exact .inr ⟨fun n => (pumps' n).trans (pumps n), rake'.trans rake⟩

variable {a st : Station} (h : Shifts a st)

include h

/-! ### Queue and records -/

/-- An update of the Start Controller's record that keeps its queue sound and its motor table. -/
theorem stc (c : StartControl) (queue : QueueSound st.stc.queue → QueueSound c.queue) (seen : c.runFbSeen = st.stc.runFbSeen := by rfl)
    (limit : c.genSeen = st.stc.genSeen := by rfl) (word : st.stc.heard = true → c.heard = true := by exact id) :
    Shifts a { st with stc := c } :=
  h.trans ⟨⟨keeps_stc st c, queue, seen, limit, .refl _, fun _ => rfl⟩, word, .inr ⟨fun _ => rfl, rfl⟩⟩

theorem ring : Shifts a st.ring := h.stc _ id (word := fun _ => rfl)

theorem resort : Shifts a st.resort := h.stc _ fun sound => sound.resorted _

theorem dequeue (m : Motor) : Shifts a (st.dequeue m) := h.stc _ fun sound => sound.filtered _

theorem hold (r : Hold) : Shifts a (st.hold r) := h.stc _ fun sound => sound.held r

theorem armSpacing : Shifts a st.armSpacing := h.stc _ id

theorem unshed (m : Motor) : Shifts a { st with stc := st.stc.unshed m } := by cases m <;> exact h.stc _ id

theorem addShed (m : Motor) : Shifts a { st with stc := st.stc.addShed m } := by cases m <;> exact h.stc _ id

theorem withdraw (m : Motor) : Shifts a (st.withdraw m) := (h.dequeue m).ring

theorem withdrawRake : Shifts a st.withdrawRake := (h.withdraw .rake).stc _ id

theorem reportUnshed (n : PumpNo) : Shifts a (st.reportUnshed n) := (h.unshed (.pump n)).ring

theorem enqueue (m : Motor) : Shifts a (st.enqueue m) := by
  unfold Station.enqueue
  split
  · exact h.ring
  next fresh =>
    have fresh : ∀ e ∈ st.stc.queue, e.motor ≠ m := by simpa [Station.queued] using fresh
    exact (h.stc _ fun sound => sound.appended _ fresh).resort.ring

theorem report (k : PointNo) (on : Bool) : Shifts a (st.report k on) :=
  h.trans ⟨⟨keeps_report st k on, by simp, by simp, by simp, by simp, fun n => by simp⟩, by simp, .inr ⟨fun n => by simp, by simp⟩⟩

theorem reorder (l : List PumpNo) (m : Bool) (perm : l.Perm st.dty.rotation) :
    Shifts a { st with dty := { st.dty with rotation := l, altMark := m } } :=
  h.trans ⟨⟨keeps_dty st _, id, rfl, rfl, perm, fun _ => rfl⟩, id, .inr ⟨fun _ => rfl, rfl⟩⟩

theorem testPumpDown : Shifts a st.testPumpDown := by
  have turn (l : List PumpNo) (perm : l.Perm st.dty.rotation) :
      Shifts a { st.setRotation l with dty := { (st.setRotation l).dty with altMark := false } } :=
    ((h.reorder l st.dty.altMark perm).resort.ring).reorder l false (.refl _)
  unfold Station.testPumpDown Station.alternate
  split
  · split
    · exact turn _ (rotateOnce_perm _)
    · exact turn _ (sortByHours_perm _ _)
    · exact h.reorder _ false (.refl _)
  · exact h

/-! ### Pumps -/

/-- A pump's record changes, its settings and its motion stay. -/
theorem setPump (n : PumpNo) (p : PumpRec) (settings : p.settings = st.pumps[n].settings := by rfl)
    (motion : p.state.inMotion = st.pumps[n].state.inMotion := by rfl) : Shifts a (st.setPump n p) := by
  have kept (m : PumpNo) : (st.setPump n p).pumps[m].settings = st.pumps[m].settings ∧
      (st.setPump n p).pumps[m].state.inMotion = st.pumps[m].state.inMotion := by
    by_cases hm : n = m
    · subst hm; rw [Station.setPump_self]; exact ⟨settings, motion⟩
    · rw [Station.setPump_other _ _ _ _ hm]; exact ⟨rfl, rfl⟩
  exact h.trans ⟨⟨keeps_setPump st n p, id, rfl, rfl, .refl _, fun m => (kept m).1⟩, id, .inr ⟨fun m => (kept m).2, rfl⟩⟩

/-- A pump's state changes and the Start Controller has word of it. -/
theorem movePump (n : PumpNo) (p : PumpRec) (settings : p.settings = st.pumps[n].settings := by rfl) :
    Shifts a (st.setPump n p).ring := by
  have kept (m : PumpNo) : (st.setPump n p).pumps[m].settings = st.pumps[m].settings := by
    by_cases hm : n = m
    · subst hm; rw [Station.setPump_self]; exact settings
    · rw [Station.setPump_other _ _ _ _ hm]
  exact h.trans ⟨⟨(keeps_setPump st n p).trans (keeps_ring _), id, rfl, rfl, .refl _, kept⟩, fun _ => rfl, .inl rfl⟩

theorem setPumpRun (n : PumpNo) (on : Bool) : Shifts a (st.setPumpRun n on) :=
  h.trans ⟨⟨keeps_setPumpRun st n on, id, rfl, rfl, .refl _, fun _ => rfl⟩, id, .inr ⟨fun _ => rfl, rfl⟩⟩

theorem setDeferred (n : PumpNo) (d : Deferred) : Shifts a (st.setDeferred n d) := h.setPump n _

theorem setInhibit (n : PumpNo) (on : Bool) : Shifts a (st.setInhibit n on) := h.setPump n _

theorem setPumpDemand (n : PumpNo) : Shifts a (st.setPumpDemand n) := h.setPump n _

theorem prune (n : PumpNo) : Shifts a (st.prune n) := h.setPump n _

theorem pruneAll : Shifts a st.pruneAll := by
  have all (l : List PumpNo) : Shifts a (l.foldl Station.prune st) := by
    induction l generalizing st with
    | nil => exact h
    | cons n l ih => exact ih (h.prune n)
  exact all _

theorem judgeStartLimited : Shifts a st.judgeStartLimited := h.report _ _

theorem reportPump (n : PumpNo) : Shifts a (st.reportPump n) := ((h.report _ _).report _ _).judgeStartLimited

/-- A pump enters a state; into motion or out of it with word to the Start Controller (R93). -/
theorem enter (n : PumpNo) (s : PumpState) : Shifts a (st.enter n s) := by
  unfold Station.enter
  dsimp only
  split
  · exact (h.movePump n (st.pumps[n].entered st.uptime s)).testPumpDown
  next still =>
    simp only [Bool.or_eq_true, not_or, Bool.not_eq_true] at still
    exact (h.setPump n (st.pumps[n].entered st.uptime s) rfl (still.2.trans still.1.symm)).testPumpDown

theorem clearDemand (n : PumpNo) : Shifts a (st.clearDemand n) := by
  unfold Station.clearDemand
  dsimp only
  split
  · exact (h.setPump n _).reportUnshed n
  · exact h.setPump n _

theorem enterWaiting (n : PumpNo) : Shifts a (st.enterWaiting n) := (h.enter n _).enqueue _

theorem withdrawPump (n : PumpNo) : Shifts a (st.withdrawPump n) := by
  unfold Station.withdrawPump
  split
  · exact h.withdraw _
  · exact h

theorem enterFaulted (n : PumpNo) (c : PumpCause) : Shifts a (st.enterFaulted n c) := (h.enter n _).setPump n _

theorem endRest (n : PumpNo) : Shifts a (st.endRest n) := by
  unfold Station.endRest
  dsimp only
  split
  · exact (h.clearDemand n).enter n _
  · split
    · split
      · split
        · exact (((h.prune n).setPump n _).reportUnshed n).enter n _
        · exact ((h.prune n).setPump n _).enter n _
      · exact (h.prune n).enterWaiting n
    · exact h.enter n _

theorem enterResting (n : PumpNo) : Shifts a (st.enterResting n) := by
  unfold Station.enterResting
  dsimp only
  split
  · exact (h.enter n _).endRest n
  · exact h.enter n _

theorem stopNow (n : PumpNo) : Shifts a (st.stopNow n) := ((h.setPumpRun n _).setDeferred n _).enter n _

/-! ### Orders, grants and sheds -/

theorem orderStart (n : PumpNo) : Shifts a (st.orderStart n) := by
  have demanded := h.setPumpDemand n
  unfold Station.orderStart
  split
  · dsimp only
    split
    · exact demanded.prune n
    · exact (demanded.prune n).enterWaiting n
  case h_5 | h_6 => exact demanded.setDeferred n _
  case h_2 | h_3 | h_4 => exact demanded
  all_goals exact h

theorem orderStop (n : PumpNo) : Shifts a (st.orderStop n) := by
  have cleared := h.clearDemand n
  unfold Station.orderStop
  split
  case h_1 | h_2 | h_3 => exact cleared
  · exact (cleared.withdraw _).enter n _
  · exact cleared.setDeferred n _
  · split
    · exact cleared.stopNow n
    · exact cleared.setDeferred n _
  all_goals exact h

theorem orderCutoff (n : PumpNo) : Shifts a (st.orderCutoff n) := by
  have cleared := h.clearDemand n
  unfold Station.orderCutoff
  split
  case h_1 | h_2 | h_3 => exact cleared
  · exact (cleared.withdraw _).enter n _
  · exact cleared.setDeferred n _
  · exact cleared.stopNow n
  all_goals exact h

theorem order (n : PumpNo) (o : Order) : Shifts a (st.order n o) := by
  cases o with
  | start => exact h.orderStart n
  | keep => exact h.orderStart n
  | stop => exact h.orderStop n
  | withdraw => exact h.orderStop n
  | cutoffStop => exact h.orderCutoff n

theorem grantPump (n : PumpNo) : Shifts a (st.grantPump n) := by
  unfold Station.grantPump
  split
  · exact ((((h.prune n).setPump n _).setPumpRun n _).enter n _).reportPump n
  · exact h

theorem shedPump (n : PumpNo) : Shifts a (st.shedPump n) := by
  unfold Station.shedPump
  split
  · dsimp only
    split
    · exact (h.stopNow n).setPump n _
    · exact (h.stopNow n).reportUnshed n
  · exact h.reportUnshed n

/-! ### Contacts and timers of a pump -/

theorem uncommandedRun (n : PumpNo) : Shifts a (st.uncommandedRun n) :=
  (((h.withdrawPump n).clearDemand n).setInhibit n _).enterFaulted n _

theorem motorFault (n : PumpNo) : Shifts a (st.motorFault n) :=
  (((((h.withdrawPump n).setPumpRun n _).clearDemand n).setDeferred n _).setInhibit n _).enterFaulted n _

theorem runConfirmed (n : PumpNo) : Shifts a (st.runConfirmed n) := by
  have running := (h.setPump n { st.pumps[n] with runLost := false }).enter n .running
  unfold Station.runConfirmed
  dsimp only
  split
  · exact running.stopNow n
  · split
    · exact running.stopNow n
    · exact running
  · exact running

theorem lostRun (n : PumpNo) : Shifts a (st.lostRun n) := ((h.setPumpRun n _).setPump n _).enterResting n

theorem pumpFeedback (n : PumpNo) (on : Bool) : Shifts a (st.pumpFeedback n on) := by
  unfold Station.pumpFeedback
  split
  · exact h.runConfirmed n
  case h_2 | h_3 | h_4 | h_5 => exact h.uncommandedRun n
  · split
    · exact h.uncommandedRun n
    · exact h
  · exact h.lostRun n
  · exact h.enterResting n
  all_goals exact h

theorem pumpFaultChange (n : PumpNo) (on : Bool) : Shifts a (st.pumpFaultChange n on) := by
  unfold Station.pumpFaultChange
  split
  · exact h.motorFault n
  · exact h

theorem enterAuto (n : PumpNo) : Shifts a (st.enterAuto n) := by
  unfold Station.enterAuto
  dsimp only
  split
  · exact (h.enter n _).motorFault n
  · split
    · exact (h.enter n _).stopNow n
    · exact h.enter n _

theorem leaveAuto (n : PumpNo) (s : PumpState) : Shifts a (st.leaveAuto n s) :=
  ((((((h.withdrawPump n).setPumpRun n _).clearDemand n).setDeferred n _).setInhibit n _).setPump n _).enter n s

theorem selectorChange (n : PumpNo) (pos : Position) : Shifts a (st.selectorChange n pos) := by
  unfold Station.selectorChange
  split
  all_goals
    first
    | with_reducible exact h
    | with_reducible exact h.enterAuto n
    | with_reducible exact h.leaveAuto n _
    | with_reducible exact h.enter n _

theorem pumpNotice (n : PumpNo) : Shifts a (st.pumpNotice n) := by
  unfold Station.pumpNotice
  split
  · exact h.selectorChange n _
  · exact h

theorem confirmExpired (n : PumpNo) : Shifts a (st.confirmExpired n) :=
  (((h.setPumpRun n _).clearDemand n).setDeferred n _).enterFaulted n _

theorem minRunExpired (n : PumpNo) : Shifts a (st.minRunExpired n) := by
  unfold Station.minRunExpired
  split
  · exact h.stopNow n
  · exact h.setPump n _
  · exact h.setPump n _

theorem stopConfirmExpired (n : PumpNo) : Shifts a (st.stopConfirmExpired n) := by
  unfold Station.stopConfirmExpired
  split
  · exact (h.clearDemand n).enterFaulted n _
  · exact h.enterResting n

/-! ### Requests and resets of a pump -/

theorem inhibitPump (n : PumpNo) : Shifts a (st.inhibitPump n).2 := by
  have marked := (h.setInhibit n true).clearDemand n
  unfold Station.inhibitPump
  split
  case h_1 | h_2 | h_3 | h_4 => exact h
  · exact (marked.setDeferred n _).enter n _
  · exact ((marked.setDeferred n _).withdraw _).enter n _
  case h_7 | h_8 => exact marked.stopNow n
  all_goals exact marked.setDeferred n _

theorem releasePump (n : PumpNo) : Shifts a (st.releasePump n).2 := by
  unfold Station.releasePump
  split
  · exact (h.setInhibit n _).enter n _
  case h_2 | h_3 | h_4 =>
    split
    · exact h.setInhibit n _
    · exact h
  all_goals exact h

theorem resetPumpFault (n : PumpNo) : Shifts a (st.resetPumpFault n).2 := by
  unfold Station.resetPumpFault
  split
  · exact h
  · dsimp only
    split
    · exact (h.setPump n _).enterResting n
    · exact (h.setPump n _).enter n _
    · exact (h.setPump n _).enter n _

theorem applyMaxStarts (n : PumpNo) : Shifts a (st.applyMaxStarts n) := by
  unfold Station.applyMaxStarts
  dsimp only
  split
  · exact (((h.prune n).setPump n _).withdraw _).enter n _
  · exact (h.prune n).setPump n _

theorem resetPumpUnit (n : PumpNo) : Shifts a (st.resetPumpUnit n) := (h.movePump n _).reportPump n

/-! ### The rake -/

/-- The rake's record changes, its motion stays. -/
theorem rkc (r : Rake) (motion : r.state.inMotion = st.rkc.state.inMotion := by rfl) : Shifts a { st with rkc := r } :=
  h.trans ⟨⟨keeps_rkc st r, id, rfl, rfl, .refl _, fun _ => rfl⟩, id, .inr ⟨fun _ => rfl, motion⟩⟩

theorem askDrive (d : Option Dir) : Shifts a (st.askDrive d) :=
  h.trans ⟨⟨keeps_askDrive st d, id, rfl, rfl, .refl _, fun _ => rfl⟩, id, .inr ⟨fun _ => rfl, rfl⟩⟩

/-- The rake enters a state; into motion or out of it with word to the Start Controller (R117). -/
theorem rakeEnter (s : RakeState) : Shifts a (st.rakeEnter s) := by
  refine h.trans ?_
  have outer := keeps_rakeEnter st s
  unfold Station.rakeEnter at outer ⊢
  dsimp only at outer ⊢
  split at outer
  next same => rw [if_pos same]; exact ⟨⟨outer, id, rfl, rfl, .refl _, fun _ => rfl⟩, id, .inr ⟨fun _ => rfl, same.symm⟩⟩
  next moved => rw [if_neg moved]; exact ⟨⟨outer, id, rfl, rfl, .refl _, fun _ => rfl⟩, fun _ => rfl, .inl rfl⟩

theorem rakeTestWait : Shifts a st.rakeTestWait := by
  unfold Station.rakeTestWait
  split
  · exact (h.rakeEnter _).enqueue _
  · exact h

theorem rakeIdle : Shifts a st.rakeIdle := (h.rakeEnter _).rakeTestWait

theorem rakeSetDemand : Shifts a st.rakeSetDemand := (h.rkc _).rakeTestWait

theorem rakeJam (c : JamCause) : Shifts a (st.rakeJam c) := ((h.rakeEnter _).rkc _).report _ _

theorem rakeAtTop : Shifts a st.rakeAtTop := by
  unfold Station.rakeAtTop
  split
  · exact (h.rkc _).rakeIdle
  · exact h.rakeEnter _

theorem rakeTrip : Shifts a st.rakeTrip := by
  unfold Station.rakeTrip
  split
  · exact h.rakeJam _
  · exact (h.rkc _).rakeEnter _

theorem rakeBegin (limit : Nat) : Shifts a (st.rakeBegin limit) := h.rkc _

theorem rakeDriven : Shifts a st.rakeDriven := by
  unfold Station.rakeDriven
  split
  · dsimp only
    split
    · exact (h.rakeBegin _).rakeJam _
    · split
      · exact (h.rakeBegin _).rakeEnter _
      · exact h.rakeBegin _
  · dsimp only
    split
    · exact (h.rakeBegin _).rakeAtTop
    · split
      · exact (h.rakeBegin _).rakeTrip
      · exact h.rakeBegin _
  · dsimp only
    split
    · exact (h.rakeBegin _).rakeEnter _
    · exact h.rakeBegin _
  all_goals exact h

theorem driveReport : Shifts a st.driveReport := by
  unfold Station.driveReport
  split
  · exact h.rakeDriven
  · exact h

theorem grantRake : Shifts a st.grantRake := by
  unfold Station.grantRake
  split
  · dsimp only
    split
    · exact ((h.rkc _).rakeEnter _).driveReport
    · exact (((h.rkc _).rkc _).rakeEnter _).driveReport
  · exact h

theorem shedRake : Shifts a st.shedRake := by
  unfold Station.shedRake
  split
  · exact ((h.rkc _).rakeEnter _).enqueue _
  · exact h.withdrawRake

theorem rakeContact (i : Input) (on : Bool) : Shifts a (st.rakeContact i on) := by
  unfold Station.rakeContact
  split
  · exact h.rakeAtTop.driveReport
  · exact (h.rakeEnter _).driveReport
  · exact (h.rakeEnter _).driveReport
  · exact h.rakeJam _
  · exact h.rakeTrip.driveReport
  · exact h.rakeJam _
  · dsimp only
    split
    · split
      · exact (h.report _ _).withdrawRake.rakeEnter _
      · exact h.report _ _
    · exact (h.report _ _).rakeTestWait
  · exact h

theorem countCycle : Shifts a st.countCycle := h.rkc _

theorem intervalExpired : Shifts a st.intervalExpired := (h.rkc _).rakeSetDemand

theorem rearmInterval : Shifts a st.rearmInterval := by
  unfold Station.rearmInterval
  split
  · exact h.intervalExpired
  · exact h

theorem rakeDifferential (u : LevelUpdate) : Shifts a (st.rakeDifferential u) := by
  unfold Station.rakeDifferential
  dsimp only
  split
  · exact h.rkc _
  · split
    · exact (h.rkc _).rakeSetDemand
    · exact h.rkc _

theorem rakeInterval (u : LevelUpdate) : Shifts a (st.rakeInterval u) := by
  unfold Station.rakeInterval
  split
  · exact h
  · exact (h.rkc _).rearmInterval

theorem rakeBlinding (u : LevelUpdate) : Shifts a (st.rakeBlinding u) := by
  unfold Station.rakeBlinding
  dsimp only
  split
  · exact h.rkc _
  · exact ((h.rkc _).report _ _).resort.ring

theorem resetRake : Shifts a st.resetRake.2 := by
  have released := (h.rkc { st.rkc with jamCause := none }).report Alarm.rakeJammed false
  unfold Station.resetRake
  split
  · exact h
  · dsimp only
    split
    · exact released.rakeIdle
    · exact (released.rkc _).rakeIdle

theorem softResetRake : Shifts a st.softResetRake := by
  have rest {t : Station} (ht : Shifts a t) (j k b : Bool) : Shifts a
      (((t.report Alarm.rakeJammed j).report Alarm.skipFull k).report Alarm.screenBlinded b).resort.ring.rakeTestWait :=
    (((ht.report _ _).report _ _).report _ _).resort.ring.rakeTestWait
  unfold Station.softResetRake
  split
  case h_6 => exact rest (h.countCycle.rakeEnter _) _ _ _
  case h_7 | h_8 => exact rest h _ _ _
  all_goals exact rest (h.rakeEnter _) _ _ _

end Shifts

end Sys2Proof.Machine
end

section
/-! PROOFS. The Start Controller's event brings the loads within the active limit and keeps them there (R82, R86 to R88). -/

namespace Sys2Proof.Machine

/-! ### Motors in motion -/

/-- The six pumps and the rake. -/
def allMotors : List Motor := allPumps.map .pump ++ [.rake]

theorem allMotors_nodup : allMotors.Nodup := by decide

theorem mem_allMotors (m : Motor) : m ∈ allMotors := by
  cases m with
  | pump n => simp [allMotors, allPumps]
  | rake => simp [allMotors]

/-- The motor counts in committed load (Table 5-1). -/
def Station.moves (st : Station) : Motor → Bool
  | .pump n => st.commits n
  | .rake => st.rkc.state.inMotion

/-- Committed load is what the motors in motion take. -/
theorem committedLoad_eq (st : Station) : st.committedLoad = ((allMotors.filter st.moves).map st.motorPower).sum := by
  rw [← sum_filter_map]
  simp only [allMotors, List.map_append, List.map_map, List.sum_append, List.map_singleton, List.sum_singleton]
  rfl

/-- The committed load lies within the active limit (R82). -/
def Station.fits (st : Station) : Prop := st.committedLoad ≤ st.activeLimit

namespace Arranged

variable {a b : Station} (h : Arranged a b)

include h

theorem activeLimit : b.activeLimit = a.activeLimit := by simp only [Station.activeLimit, h.limit, h.outer.consts]

theorem motorPower : b.motorPower = a.motorPower := by
  funext m
  cases m with
  | pump n => simp only [Station.motorPower, Station.power, h.settings]
  | rake => simp only [Station.motorPower, h.outer.consts]

theorem rotationSafe (safe : a.rotationSafe) : b.rotationSafe := by
  refine ⟨h.members.nodup_iff.mpr safe.1, fun n => ?_⟩
  rw [h.members.mem_iff, h.settings]
  exact safe.2 n

/-- With no more motors in motion the loads still fit. -/
theorem fits (still : ∀ m, b.moves m = true → a.moves m = true) (fit : a.fits) : b.fits := by
  have fewer : (allMotors.filter b.moves).Sublist (allMotors.filter a.moves) := List.monotone_filter_right _ still
  have less : b.committedLoad ≤ a.committedLoad := by
    rw [committedLoad_eq, committedLoad_eq, h.motorPower]
    exact (fewer.map _).sum_le_sum fun _ _ => Nat.zero_le _
  unfold Station.fits at fit ⊢
  rw [h.activeLimit]
  exact less.trans fit

/-- With the same motors in motion the committed load is the same. -/
theorem committedLoad (same : b.moves = a.moves) : b.committedLoad = a.committedLoad := by
  rw [committedLoad_eq, committedLoad_eq, h.motorPower, same]

end Arranged

theorem moves_of_motion {a b : Station} (settings : ∀ n : PumpNo, b.pumps[n].settings = a.pumps[n].settings)
    (pumps : ∀ n : PumpNo, b.pumps[n].state.inMotion = a.pumps[n].state.inMotion)
    (rake : b.rkc.state.inMotion = a.rkc.state.inMotion) : b.moves = a.moves := by
  funext m
  cases m with
  | pump n => simp only [Station.moves, Station.commits, settings, pumps]
  | rake => exact rake

/-! ### One motor shed (R88) -/

theorem Station.stopNow_pump (st : Station) (n : PumpNo) : (st.stopNow n).pumps[n].state = .stopping := by
  simp [Station.stopNow, Station.setDeferred, PumpRec.entered]

theorem Station.shedPump_still (st : Station) (n : PumpNo) : (st.shedPump n).pumps[n].state.inMotion = false := by
  have stopped := congrArg PumpState.inMotion (st.stopNow_pump n)
  unfold Station.shedPump
  split
  · dsimp only
    split
    · rw [Station.setPump_self]; exact stopped
    · exact stopped
  next still => exact Bool.eq_false_iff.mpr still

theorem Station.shedRake_still (st : Station) : st.shedRake.rkc.state.inMotion = false := by
  unfold Station.shedRake
  split
  · rw [enqueue_rkc, rakeEnter_rkc]; rfl
  next still => exact Bool.eq_false_iff.mpr still

theorem shedMotor_shifts (st : Station) (m : Motor) : Shifts st (st.shedMotor m) := by
  have listed := (Shifts.refl st).addShed m
  cases m with
  | pump n => exact (listed.shedPump n).reportPump n
  | rake => exact listed.shedRake

/-- A motor shed stands still, the others go on as they did. -/
theorem shedMotor_moves (st : Station) (m k : Motor) :
    (st.shedMotor m).moves k = (decide (k ≠ m) && st.moves k) := by
  have settings := (shedMotor_shifts st m).settings
  cases m with
  | pump n =>
    have rake : (st.shedMotor (.pump n)).rkc = st.rkc := by
      have side : (st.shedMotor (.pump n)).rakeSide = st.rakeSide := by simp [Station.shedMotor]; rfl
      exact (rake_of_rakeSide side).1
    cases k with
    | rake => simp [Station.moves, rake]
    | pump j =>
      by_cases hj : j = n
      · subst hj
        have still : (st.shedMotor (.pump j)).pumps[j].state.inMotion = false := by
          simp only [Station.shedMotor, Station.reportPump_pumps]
          exact Station.shedPump_still _ j
        simp only [Station.moves, Station.commits, still, Bool.and_false, ne_eq, not_true_eq_false, decide_false, Bool.false_and]
      · have side : (st.shedMotor (.pump n)).pumpSide j = st.pumpSide j := by
          simp only [Station.shedMotor]
          rw [Station.reportPump_pumpSide _ _ hj, Station.shedPump_pumpSide _ _ hj]; rfl
        have record : (st.shedMotor (.pump n)).pumps[j] = st.pumps[j] := congrArg Prod.fst side
        simp only [Station.moves, Station.commits, record]
        simp [hj]
  | rake =>
    cases k with
    | rake => simp only [Station.moves, Station.shedMotor, Station.shedRake_still]; simp
    | pump j =>
      have record : (st.shedMotor .rake).pumps[j] = st.pumps[j] :=
        congrArg Prod.fst (Station.shedRake_pumpSide ({ st with stc := st.stc.addShed .rake }) j)
      simp only [Station.moves, Station.commits, record]
      simp

theorem shedMotors_shifts (l : List Motor) (st : Station) : Shifts st (l.foldl Station.shedMotor st) := by
  induction l generalizing st with
  | nil => exact .refl st
  | cons m l ih => exact (shedMotor_shifts st m).trans (ih _)

theorem shedMotors_moves (l : List Motor) (st : Station) (k : Motor) :
    (l.foldl Station.shedMotor st).moves k = (decide (k ∉ l) && st.moves k) := by
  induction l generalizing st with
  | nil => simp
  | cons m l ih =>
    rw [List.foldl_cons, ih, shedMotor_moves]
    by_cases hm : k = m <;> by_cases hl : k ∈ l <;> simp [hm, hl]

/-! ### The candidates and the choice (R87) -/

/-- Every motor in motion stands once among the candidates (Table 5-3). -/
theorem shedCandidates_sound {st : Station} (safe : st.rotationSafe) :
    st.shedCandidates.Nodup ∧ ∀ m, m ∈ st.shedCandidates ↔ st.moves m = true := by
  obtain ⟨nodup, members⟩ := safe
  have listed (n : PumpNo) : st.commits n = true → n ∈ st.dty.rotation := fun moving =>
    (members n).mpr (Bool.and_eq_true_iff.mp moving).1
  have perm : st.shedCandidates.Perm ((st.dty.rotation.filter st.commits).map .pump ++
      if st.rkc.state.inMotion then [Motor.rake] else []) := by
    unfold Station.shedCandidates
    cases st.dty.rotation with
    | nil => simp
    | cons x l =>
      have turned : ((l.reverse.filter st.commits).map Motor.pump).Perm ((l.filter st.commits).map .pump) :=
        ((List.reverse_perm l).filter _).map _
      have lead : (x :: l).filter st.commits = [x].filter st.commits ++ l.filter st.commits := by
        rw [← List.filter_append]; rfl
      rw [lead, List.map_append]
      refine List.perm_append_comm.trans ?_
      rw [List.append_assoc]
      exact (turned.append_right _).append_left _
  constructor
  · rw [perm.nodup_iff]
    refine List.nodup_append.mpr ⟨(nodup.filter _).map fun _ _ => Motor.pump.inj, by split <;> simp, ?_⟩
    intro x hx y hy
    obtain ⟨n, -, rfl⟩ := List.mem_map.mp hx
    split at hy
    · rw [List.mem_singleton.mp hy]; exact Motor.noConfusion
    · cases hy
  · intro m
    rw [perm.mem_iff]
    cases m with
    | pump n =>
      simp only [List.mem_append, List.mem_map, List.mem_filter, Motor.pump.injEq, exists_eq_right, Station.moves]
      constructor
      · rintro (⟨-, moving⟩ | rake)
        · exact moving
        · split at rake <;> simp at rake
      · exact fun moving => .inl ⟨listed n moving, moving⟩
    | rake => cases h : st.rkc.state.inMotion <;> simp [Station.moves, h]

/-- The choice stops where the committed figure has come within the limit, or takes every candidate. -/
theorem shedChoice_splits (st : Station) (l : List Motor) (connected committed : Nat) :
    ∃ rest, l = st.shedChoice l connected committed ++ rest ∧
      (rest = [] ∨ committed - ((st.shedChoice l connected committed).map st.motorPower).sum ≤ st.activeLimit) := by
  induction l generalizing connected committed with
  | nil => exact ⟨[], rfl, .inl rfl⟩
  | cons m l ih =>
    unfold Station.shedChoice
    split
    next within => exact ⟨m :: l, rfl, .inr within.2⟩
    · obtain ⟨rest, split, reached⟩ := ih (connected - if st.motorConnects m then st.motorPower m else 0)
        (committed - st.motorPower m)
      refine ⟨rest, by rw [List.cons_append, ← split], reached.imp_right fun within => ?_⟩
      rw [List.map_cons, List.sum_cons, ← Nat.sub_sub]
      exact within

/-- Shedding motors in motion takes their power off the committed load. -/
theorem shedMotors_load {st : Station} {l : List Motor} (nodup : l.Nodup) (moving : ∀ m ∈ l, st.moves m = true) :
    (l.foldl Station.shedMotor st).committedLoad + (l.map st.motorPower).sum = st.committedLoad := by
  have left : allMotors.filter (l.foldl Station.shedMotor st).moves =
      (allMotors.filter st.moves).filter fun k => decide (k ∉ l) := by
    rw [List.filter_filter]
    exact List.filter_congr fun k _ => shedMotors_moves l st k
  have taken : ((allMotors.filter st.moves).filter fun k => decide (k ∈ l)).Perm l := by
    refine (List.perm_ext_iff_of_nodup ((allMotors_nodup.filter _).filter _) nodup).mpr fun m => ?_
    simp only [List.mem_filter, mem_allMotors, true_and, decide_eq_true_eq]
    exact ⟨And.right, fun hm => ⟨moving m hm, hm⟩⟩
  have parts := List.filter_append_perm (fun k => decide (k ∈ l)) (allMotors.filter st.moves)
  have sum := ((parts.map st.motorPower).sum_eq).symm
  rw [List.map_append, List.sum_append, (taken.map _).sum_eq] at sum
  rw [committedLoad_eq, committedLoad_eq, left, (shedMotors_shifts l st).motorPower, sum, Nat.add_comm]
  simp

/-- A shed pass brings the committed load within the active limit. -/
theorem shedPass_fits {st : Station} (safe : st.rotationSafe) : st.shedPass.fits := by
  obtain ⟨nodup, candidates⟩ := shedCandidates_sound safe
  obtain ⟨rest, split, reached⟩ := shedChoice_splits st st.shedCandidates st.loadAfterShedding st.committedLoad
  unfold Station.shedPass
  generalize st.shedChoice st.shedCandidates st.loadAfterShedding st.committedLoad = l at split reached
  have chosen : ∀ m ∈ l, st.moves m = true := fun m hm => (candidates m).mp (by rw [split]; exact List.mem_append_left _ hm)
  have distinct : l.Nodup := nodup.sublist (by rw [split]; exact List.sublist_append_left _ _)
  have fit {t : Station} (h : Arranged st t) (same : t.moves = st.moves) : (l.foldl Station.shedMotor t).fits := by
    have load := shedMotors_load (st := t) distinct (by rw [same]; exact chosen)
    rw [h.motorPower, h.committedLoad same] at load
    unfold Station.fits
    rw [(shedMotors_shifts l t).activeLimit, h.activeLimit]
    obtain rfl | within := reached
    · have none (m : Motor) : ¬(l.foldl Station.shedMotor t).moves m = true := by
        rw [shedMotors_moves, same, Bool.and_eq_true, decide_eq_true_eq]
        rintro ⟨other, moving⟩
        exact other (by rw [← List.append_nil l, ← split]; exact (candidates m).mpr moving)
      rw [committedLoad_eq, List.filter_eq_nil_iff.mpr fun m _ => none m]
      exact Nat.zero_le _
    · omega
  cases l with
  | nil => exact fit (.refl st) rfl
  | cons m l =>
    have marked := ((Shifts.refl st).stc { st.stc with loadShed := true } id).report Alarm.loadShed true
    exact fit marked.toArranged (moves_of_motion marked.settings (by simp) (by simp))

theorem shedPass_shifts (st : Station) : Shifts st st.shedPass := by
  unfold Station.shedPass
  split
  · exact .refl st
  · exact (((Shifts.refl st).stc { st.stc with loadShed := true } id).report _ _).trans (shedMotors_shifts _ _)

theorem shedPasses_shifts (k : Nat) (st : Station) : Shifts st (Station.shedPasses k st) := by
  induction k generalizing st with
  | zero => exact .refl st
  | succ k ih =>
    unfold Station.shedPasses
    split
    · exact (shedPass_shifts st).trans (ih _)
    · exact .refl st

/-- Passes that begin with the loads within the limit keep them there. -/
theorem shedPasses_keep_fits (k : Nat) {st : Station} (safe : st.rotationSafe) (fit : st.fits) : (Station.shedPasses k st).fits := by
  induction k generalizing st with
  | zero => exact fit
  | succ k ih =>
    unfold Station.shedPasses
    split
    · exact ih ((shedPass_shifts st).rotationSafe safe) (shedPass_fits safe)
    · exact fit

theorem shedPasses_fit {st : Station} (safe : st.rotationSafe) : (Station.shedPasses 8 st).fits := by
  by_cases fit : st.fits
  · exact shedPasses_keep_fits 8 safe fit
  · have exceeds : st.overloaded = true := by
      simp only [Station.overloaded, Bool.or_eq_true, decide_eq_true_eq]
      exact .inr (Nat.lt_of_not_le fit)
    rw [Station.shedPasses, if_pos exceeds]
    exact shedPasses_keep_fits 7 ((shedPass_shifts st).rotationSafe safe) (shedPass_fits safe)

/-! ### The grant (R82, R83) -/

theorem holdNewHead_shifts {a st : Station} (h : Shifts a st) : Shifts a st.holdNewHead := by
  unfold Station.holdNewHead
  split
  · exact h
  · exact h.hold _

theorem deliverGrant_shifts {a st : Station} (h : Shifts a st) (m : Motor) : Shifts a (st.deliverGrant m) := by
  cases m with
  | pump n => exact h.grantPump n
  | rake => exact h.grantRake

theorem grant_shifts (st : Station) (m : Motor) : Shifts st (st.grant m) := by
  have taken : Shifts st { st.dequeue m with stc := { (st.dequeue m).stc.unshed m with lastGrant := some st.uptime } } := by
    cases m <;> exact ((Shifts.refl st).dequeue _).stc _ id
  exact holdNewHead_shifts (deliverGrant_shifts taken.armSpacing m)

/-- A grant brings no other motor into motion. -/
theorem deliverGrant_moves (st : Station) (m k : Motor) (other : k ≠ m) (moving : (st.deliverGrant m).moves k = true) :
    st.moves k = true := by
  have settings := (deliverGrant_shifts (.refl st) m).settings
  cases m with
  | pump n =>
    cases k with
    | rake =>
      have rake : (st.grantPump n).rkc = st.rkc := (rake_of_rakeSide (st.grantPump_rakeSide n)).1
      rw [Station.deliverGrant, Station.moves, rake] at moving
      exact moving
    | pump j =>
      have record : (st.grantPump n).pumps[j] = st.pumps[j] :=
        congrArg Prod.fst (Station.grantPump_pumpSide st j fun e => other (congrArg Motor.pump e))
      rw [Station.deliverGrant, Station.moves, Station.commits, record] at moving
      exact moving
  | rake =>
    cases k with
    | rake => exact absurd rfl other
    | pump j =>
      have record : st.grantRake.pumps[j] = st.pumps[j] := congrArg Prod.fst (st.grantRake_pumpSide j)
      rw [Station.deliverGrant, Station.moves, Station.commits, record] at moving
      exact moving

/-- A motor that is already in motion has nothing of a grant. -/
theorem deliverGrant_moving {st : Station} {m : Motor} (moving : st.moves m = true) : st.deliverGrant m = st := by
  cases m with
  | pump n =>
    refine if_neg fun waiting => ?_
    rw [Station.moves, Station.commits, waiting] at moving
    simp [PumpState.inMotion] at moving
  | rake =>
    refine if_neg fun waiting => ?_
    simp [Station.moves, waiting, RakeState.inMotion] at moving

/-- A grant adds at most the power of its motor to the committed load. -/
theorem deliverGrant_load (st : Station) (m : Motor) : (st.deliverGrant m).committedLoad ≤ st.committedLoad + st.motorPower m := by
  by_cases moving : st.moves m = true
  · rw [deliverGrant_moving moving]; exact Nat.le_add_right _ _
  · have within : allMotors.filter (st.deliverGrant m).moves ⊆ m :: allMotors.filter st.moves := by
      intro k hk
      by_cases other : k = m
      · exact List.mem_cons.mpr (.inl other)
      · have moved := (List.mem_filter.mp hk).2
        exact List.mem_cons_of_mem _ (List.mem_filter.mpr ⟨mem_allMotors k, deliverGrant_moves st m k other moved⟩)
    have sub := (allMotors_nodup.filter _).subperm within
    obtain ⟨l, perm, sublist⟩ := sub
    rw [committedLoad_eq, committedLoad_eq, (deliverGrant_shifts (.refl st) m).motorPower, ← (perm.map _).sum_eq, Nat.add_comm,
      ← List.sum_cons, ← List.map_cons]
    exact (sublist.map _).sum_le_sum fun _ _ => Nat.zero_le _

theorem grantTest_shifts (st : Station) : Shifts st st.grantTest := by
  unfold Station.grantTest
  split
  · exact .refl st
  · split
    · split
      · exact grant_shifts st _
      · exact (Shifts.refl st).hold _
    · exact (Shifts.refl st).hold _

theorem grant_fits {st : Station} {m : Motor} (budget : st.budgetFits m = true) : (st.grant m).fits := by
  simp only [Station.budgetFits, Bool.and_eq_true, decide_eq_true_eq] at budget
  have load : (st.grant m).committedLoad ≤ st.committedLoad + st.motorPower m := by
    have before := deliverGrant_load
      ({ st.dequeue m with stc := { (st.dequeue m).stc.unshed m with lastGrant := some st.uptime } } : Station).armSpacing m
    unfold Station.grant
    dsimp only
    have held (t : Station) : t.holdNewHead.committedLoad = t.committedLoad := by
      unfold Station.holdNewHead
      split <;> rfl
    rw [held]
    exact before
  unfold Station.fits
  rw [(grant_shifts st m).activeLimit]
  exact load.trans budget.2

theorem grantTest_fits {st : Station} (fit : st.fits) : st.grantTest.fits := by
  unfold Station.grantTest
  split
  · exact fit
  · split
    next budget =>
      split
      · exact grant_fits budget
      · exact fit
    · exact fit

/-! ### The whole event -/

theorem testLoadShed_shifts (st : Station) : Shifts st st.testLoadShed := by
  unfold Station.testLoadShed
  split
  · exact ((Shifts.refl st).stc { st.stc with loadShed := false } id).report _ _
  · exact .refl st

theorem judgeBudget_shifts (st : Station) : Shifts st st.judgeBudget := by
  unfold Station.judgeBudget
  split
  · split
    · exact .refl st
    · exact (Shifts.refl st).stc _ id
  · exact ((Shifts.refl st).stc { st.stc with budgetSince := none, capacityHeld := false } id).report _ _

theorem testLoadShed_moves (st : Station) : st.testLoadShed.moves = st.moves := by
  refine moves_of_motion (testLoadShed_shifts st).settings (fun n => ?_) ?_ <;> unfold Station.testLoadShed <;> split <;> simp

theorem judgeBudget_moves (st : Station) : st.judgeBudget.moves = st.moves := by
  refine moves_of_motion (judgeBudget_shifts st).settings (fun n => ?_) ?_ <;> unfold Station.judgeBudget <;> split <;>
    [split; skip; split; skip] <;> simp

/-- The Start Controller has handled what had reached it. -/
theorem quiet_arranged (st : Station) : Arranged st { st with stc := { st.stc with heard := false } } :=
  ⟨keeps_stc st _, id, rfl, rfl, .refl _, fun _ => rfl⟩

theorem stcEvent_arranged (st : Station) : Arranged st st.stcEvent :=
  ((((shedPasses_shifts 8 st).trans (grantTest_shifts _)).trans (testLoadShed_shifts _)).trans
    (judgeBudget_shifts _)).toArranged.trans (quiet_arranged _)

/-- After the event the loads fit, whatever they were before it (R82, R86). -/
theorem stcEvent_fits {st : Station} (safe : st.rotationSafe) : st.stcEvent.fits := by
  have quiet (t : Station) (fit : t.fits) : ({ t with stc := { t.stc with heard := false } } : Station).fits := fit
  have granted := grantTest_fits (shedPasses_fit safe)
  have tested := (testLoadShed_shifts _).fits (fun m => by rw [testLoadShed_moves]; exact id) granted
  exact quiet _ ((judgeBudget_shifts _).fits (fun m => by rw [judgeBudget_moves]; exact id) tested)

theorem settleStc_arranged (st : Station) : Arranged st st.settleStc := by
  unfold Station.settleStc
  split
  · exact stcEvent_arranged st
  · exact .refl st

/-- The rotation list is sound, and the loads fit unless word of a change waits at the Start Controller. -/
def Station.loadPending (st : Station) : Prop := st.rotationSafe ∧ (st.stc.heard = false → st.fits)

theorem Station.loadSafe.pending {st : Station} (h : st.loadSafe) : st.loadPending := ⟨h.1, fun _ => h.2.1⟩

theorem settleStc_quiet (st : Station) : st.settleStc.stc.heard = false := by
  unfold Station.settleStc
  split
  · rfl
  next quiet => exact Bool.eq_false_iff.mpr quiet

theorem settleStc_loadSafe {st : Station} (h : st.loadPending) : st.settleStc.loadSafe := by
  refine ⟨(settleStc_arranged st).rotationSafe h.1, ?_, settleStc_quiet st⟩
  unfold Station.settleStc
  split
  · exact stcEvent_fits h.1
  next quiet => exact h.2 (Bool.eq_false_iff.mpr quiet)

/-- A handling leaves the loads within the limit, or word to the Start Controller. -/
theorem Shifts.loadPending {a b : Station} (h : Shifts a b) (pending : a.loadPending) : b.loadPending := by
  refine ⟨h.rotationSafe pending.1, fun quiet => ?_⟩
  obtain heard | ⟨pumps, rake⟩ := h.motion
  · rw [quiet] at heard; cases heard
  · have before : a.stc.heard = false := Bool.eq_false_iff.mpr fun heard => by rw [h.word heard] at quiet; cases quiet
    exact h.fits (fun m => by rw [moves_of_motion h.settings pumps rake]; exact id) (pending.2 before)

end Sys2Proof.Machine
end

section
/-! PROOFS. What an event leaves of the loads, the motor table and the start queue: the motors' handlings, the level update, the
clock, the requests of the pumps and the rake (R60, R75, R79, R80, R82). -/

namespace Sys2Proof.Machine

/-! ### The view that the three invariants have of the station -/

/-- What the loads, the motor table and the queue are read from. -/
def Station.loadSide (st : Station) :=
  (st.stc, st.dty.rotation, st.consts, st.rkc.state, st.ctu.runFb.map fun r => (r.settled, r.hasSettled),
    (st.ctu.genRun.settled, st.ctu.genRun.hasSettled), st.pumps.map fun p => (p.settings, p.state))

theorem map_get {α β : Type} {v w : Vector α 6} {f : α → β} (h : w.map f = v.map f) (n : PumpNo) : f w[n] = f v[n] := by
  have := congrArg (fun x : Vector β 6 => x[n]) h
  simpa using this

theorem map_ext {α β : Type} {v w : Vector α 6} {f : α → β} (h : ∀ n : PumpNo, f w[n] = f v[n]) : w.map f = v.map f := by
  refine Vector.ext fun i hi => ?_
  simpa using h ⟨i, hi⟩

/-- The view taken apart: what agrees when two stations look the same. -/
structure SameLoads (a b : Station) : Prop where
  stc : b.stc = a.stc
  rotation : b.dty.rotation = a.dty.rotation
  consts : b.consts = a.consts
  rake : b.rkc.state = a.rkc.state
  feedback : ∀ n : PumpNo, b.settled (.runFb n) = a.settled (.runFb n) ∧ b.ctu.runFb[n].hasSettled = a.ctu.runFb[n].hasSettled
  generator : b.settled .genRun = a.settled .genRun ∧ b.ctu.genRun.hasSettled = a.ctu.genRun.hasSettled
  pumps : ∀ n : PumpNo, b.pumps[n].settings = a.pumps[n].settings ∧ b.pumps[n].state = a.pumps[n].state

theorem SameLoads.of_side {a b : Station} (h : b.loadSide = a.loadSide) : SameLoads a b := by
  simp only [Station.loadSide, Prod.mk.injEq] at h
  obtain ⟨stc, rotation, consts, rake, feedback, generator, pumps⟩ := h
  exact ⟨stc, rotation, consts, rake, fun n => Prod.mk.inj (map_get feedback n), generator,
    fun n => Prod.mk.inj (map_get pumps n)⟩

namespace SameLoads

variable {a b : Station} (h : SameLoads a b)

include h

theorem stcSettled : b.stcSettled = a.stcSettled := by
  simp only [Station.stcSettled, h.generator.2, fun n => (h.feedback n).2]

theorem tableSafe (safe : a.tableSafe) : b.tableSafe := by
  intro settled
  obtain ⟨seen, limit⟩ := safe (h.stcSettled ▸ settled)
  refine ⟨fun n => ?_, ?_⟩
  · rw [h.stc, (h.feedback n).1]; exact seen n
  · rw [h.stc, h.generator.1]; exact limit

theorem rotationSafe (safe : a.rotationSafe) : b.rotationSafe := by
  refine ⟨by rw [h.rotation]; exact safe.1, fun n => ?_⟩
  rw [h.rotation, (h.pumps n).1]
  exact safe.2 n

theorem fits (fit : a.fits) : b.fits := by
  have moves : b.moves = a.moves :=
    moves_of_motion (fun n => (h.pumps n).1) (fun n => by rw [(h.pumps n).2]) (by rw [h.rake])
  have power : b.motorPower = a.motorPower := by
    funext m
    cases m with
    | pump n => simp only [Station.motorPower, Station.power, (h.pumps n).1]
    | rake => simp only [Station.motorPower, h.consts]
  unfold Station.fits at fit ⊢
  rw [committedLoad_eq, moves, power, ← committedLoad_eq, Station.activeLimit, h.stc, h.consts]
  exact fit

end SameLoads

/-! ### Views of the updates that no motor is part of -/

section
variable (st : Station)

@[simp] theorem Station.report_loadSide (k : PointNo) (on : Bool) : (st.report k on).loadSide = st.loadSide := by
  obtain ⟨t, q, b, e⟩ := st.report_shape k on
  rw [e]; rfl

@[simp] theorem Station.judgeBeacon_loadSide : st.judgeBeacon.loadSide = st.loadSide := by
  simp [Station.loadSide, Station.judgeBeacon]

@[simp] theorem Station.judgeArith_loadSide : st.judgeArith.loadSide = st.loadSide := by simp [Station.judgeArith]

@[simp] theorem Station.raiseFlags_loadSide (f : FlagSet) : (st.raiseFlags f).loadSide = st.loadSide := by
  simp only [Station.raiseFlags, Station.judgeArith_loadSide]; rfl

@[simp] theorem Station.setPort_loadSide (q : Port) (p : PortId) : (st.setPort q p).loadSide = st.loadSide := by cases p <;> rfl

@[simp] theorem Station.putReply_loadSide (p : PortId) (c : Byte) (r : Reply) : (st.putReply p c r).loadSide = st.loadSide := by
  simp [Station.putReply]

@[simp] theorem Station.storeTrigger_loadSide : st.storeTrigger.loadSide = st.loadSide := by
  obtain ⟨x, e, -⟩ := st.storeTrigger_shape
  rw [e]; rfl

@[simp] theorem Station.triggerTrace_loadSide (t : Nat) : (st.triggerTrace t).loadSide = st.loadSide := by
  obtain ⟨x, e⟩ := st.triggerTrace_shape t
  rw [e]; rfl

@[simp] theorem Station.traceUpdate_loadSide (u : LevelUpdate) : (st.traceUpdate u).loadSide = st.loadSide := by
  obtain ⟨x, e⟩ := st.traceUpdate_shape u
  rw [e]; rfl

@[simp] theorem Station.finalise_loadSide (p : PortId) (req : PendingRequest) (x : ReplyStatus) (d : List Byte) :
    (st.finalise p req x d).loadSide = st.loadSide := by
  obtain ⟨pa, pb, e⟩ := st.finalise_shape p req x d
  rw [e]; rfl

/-- Pump records change but for settings and states. -/
theorem Station.withPumps_loadSide {ps : Vector PumpRec 6}
    (h : ∀ n : PumpNo, ps[n].settings = st.pumps[n].settings ∧ ps[n].state = st.pumps[n].state) :
    ({ st with pumps := ps } : Station).loadSide = st.loadSide := by
  have row : ps.map (fun p => (p.settings, p.state)) = st.pumps.map fun p => (p.settings, p.state) :=
    map_ext fun n => Prod.ext (h n).1 (h n).2
  simp only [Station.loadSide, row]

@[simp] theorem Station.prune_loadSide (n : PumpNo) : (st.prune n).loadSide = st.loadSide := by
  refine st.withPumps_loadSide fun m => ?_
  by_cases hm : m = n
  · subst hm; simp
  · rw [set_other _ _ hm]; exact ⟨rfl, rfl⟩

@[simp] theorem Station.runSecond_loadSide : st.runSecond.loadSide = st.loadSide := by
  refine st.withPumps_loadSide fun n => ?_
  simp only [Fin.getElem_fin, Vector.getElem_ofFn]
  split <;> exact ⟨rfl, rfl⟩

/-- A contact's record changes but for what is settled; no other contact counts. -/
theorem Station.setInput_loadSide (i : Input) (r : InputRec) (settled : r.settled = (st.ctu.input i).settled)
    (has : r.hasSettled = (st.ctu.input i).hasSettled) : (st.setInput i r).loadSide = st.loadSide := by
  cases i with
  | runFb n =>
    have row : (st.ctu.runFb.set n r).map (fun r => (r.settled, r.hasSettled)) = st.ctu.runFb.map fun r => (r.settled, r.hasSettled) := by
      refine map_ext fun m => ?_
      by_cases hm : m = n
      · subst hm
        simp only [Fin.getElem_fin, Vector.getElem_set_self]
        exact Prod.ext settled has
      · rw [set_other _ _ hm]
    simp only [Station.loadSide, Station.setInput, ContactUnit.setInput, row]
  | genRun =>
    have same : (r.settled, r.hasSettled) = (st.ctu.genRun.settled, st.ctu.genRun.hasSettled) := Prod.ext settled has
    simp only [Station.loadSide, Station.setInput, ContactUnit.setInput, same]
  | _ => rfl

/-- The contacts that the Start Controller does not read (Table 3-1). -/
theorem Station.setOther_loadSide {i : Input} (r : InputRec) (feedback : ∀ n, i ≠ .runFb n) (generator : i ≠ .genRun) :
    (st.setInput i r).loadSide = st.loadSide := by
  cases i with
  | runFb n => exact absurd rfl (feedback n)
  | genRun => exact absurd rfl generator
  | _ => rfl

@[simp] theorem Station.closeEvent_loadSide (e : EventRec) (time : Nat) (why : CloseReason) :
    (st.closeEvent e time why).loadSide = st.loadSide := by
  unfold Station.closeEvent
  rw [Station.report_loadSide]; rfl

@[simp] theorem Station.softResetOverflow_loadSide : st.softResetOverflow.loadSide = st.loadSide := by
  unfold Station.softResetOverflow
  split <;> simp only [Station.report_loadSide, Station.closeEvent_loadSide]
  rfl

end

/-! ### An event in progress, an event done -/

/-- Within an event: the loads fit unless word waits at the Start Controller. -/
structure KeepsPending (a b : Station) : Prop where
  queue : a.queueSafe → b.queueSafe
  table : a.tableSafe → b.tableSafe
  pending : a.loadPending → b.loadPending

/-- Over a whole event: the loads fit at its end, with no word left (R82). -/
structure KeepsLoads (a b : Station) : Prop where
  queue : a.queueSafe → b.queueSafe
  table : a.tableSafe → b.tableSafe
  load : a.loadSafe → b.loadSafe

theorem tableSafe_of_kept {a b : Station} (outer : KeepsOuter a b) (seen : b.stc.runFbSeen = a.stc.runFbSeen)
    (limit : b.stc.genSeen = a.stc.genSeen) (safe : a.tableSafe) : b.tableSafe := by
  have feedback (n : PumpNo) : b.ctu.runFb[n] = a.ctu.runFb[n] := outer.inputs (.runFb n)
  have generator : b.ctu.genRun = a.ctu.genRun := outer.inputs .genRun
  have settled : b.stcSettled = a.stcSettled := by simp only [Station.stcSettled, feedback, generator]
  intro hs
  obtain ⟨column, formed⟩ := safe (settled ▸ hs)
  refine ⟨fun n => ?_, ?_⟩
  · rw [seen, outer.settled]; exact column n
  · rw [limit, outer.settled]; exact formed

theorem Arranged.tableSafe {a b : Station} (h : Arranged a b) : a.tableSafe → b.tableSafe := tableSafe_of_kept h.outer h.seen h.limit

theorem Shifts.keepsPending {a b : Station} (h : Shifts a b) : KeepsPending a b := ⟨h.queue, h.tableSafe, h.loadPending⟩

namespace KeepsPending

theorem refl (a : Station) : KeepsPending a a := ⟨id, id, id⟩

theorem trans {a b c : Station} (h : KeepsPending a b) (k : KeepsPending b c) : KeepsPending a c :=
  ⟨k.queue ∘ h.queue, k.table ∘ h.table, k.pending ∘ h.pending⟩

theorem of_same {a b : Station} (h : SameLoads a b) : KeepsPending a b :=
  ⟨by unfold Station.queueSafe; rw [h.stc]; exact id, h.tableSafe,
    fun pending => ⟨h.rotationSafe pending.1, fun quiet => h.fits (pending.2 (by rw [← h.stc]; exact quiet))⟩⟩

variable {a st : Station} (h : KeepsPending a st)

include h

theorem side {t : Station} (same : t.loadSide = st.loadSide) : KeepsPending a t := h.trans (of_same (.of_side same))

theorem shifts {t : Station} (k : Shifts st t) : KeepsPending a t := h.trans k.keepsPending

theorem settleStc : KeepsPending a st.settleStc :=
  h.trans ⟨(settleStc_arranged st).queue, (settleStc_arranged st).tableSafe, fun pending => (settleStc_loadSafe pending).pending⟩

/-- The event ends with what the Start Controller makes of the word that has reached it. -/
theorem ends : KeepsLoads a st.settleStc :=
  ⟨h.settleStc.queue, h.settleStc.table, fun safe => settleStc_loadSafe (h.pending safe.pending)⟩

end KeepsPending

namespace KeepsLoads

theorem refl (a : Station) : KeepsLoads a a := ⟨id, id, id⟩

theorem trans {a b c : Station} (h : KeepsLoads a b) (k : KeepsLoads b c) : KeepsLoads a c :=
  ⟨k.queue ∘ h.queue, k.table ∘ h.table, k.load ∘ h.load⟩

theorem of_same {a b : Station} (h : SameLoads a b) : KeepsLoads a b :=
  ⟨(KeepsPending.of_same h).queue, h.tableSafe, fun safe => ⟨h.rotationSafe safe.1, h.fits safe.2.1, by rw [h.stc]; exact safe.2.2⟩⟩

/-- A handling, and what the Start Controller makes of its word. -/
theorem of_shifts {a b : Station} (h : Shifts a b) : KeepsLoads a b.settleStc := h.keepsPending.ends

theorem pumpEvent {st : Station} {n : PumpNo} {f : Station → Station} (h : Shifts st (f st)) : KeepsLoads st (st.pumpEvent n f) :=
  of_shifts (h.reportPump n)

variable {a st : Station} (h : KeepsLoads a st)

include h

theorem side {t : Station} (same : t.loadSide = st.loadSide) : KeepsLoads a t := h.trans (of_same (.of_side same))

theorem shifts {t : Station} (k : Shifts st t) : KeepsLoads a t.settleStc := h.trans (of_shifts k)

theorem report (k : PointNo) (on : Bool) : KeepsLoads a (st.report k on) := h.side (by simp)

theorem raiseFlags (f : FlagSet) : KeepsLoads a (st.raiseFlags f) := h.side (by simp)

/-! ### Updates of other blocks -/

theorem ofm (o : Overflow) : KeepsLoads a { st with ofm := o } := h.side rfl

theorem setLevels (l : LevelEngine) : KeepsLoads a { st with lve := l } := h.side rfl

theorem setQueue (q : ReportQueue) : KeepsLoads a { st with rpq := q } := h.side rfl

theorem setSummary (s : Summary) : KeepsLoads a (st.setSummary s) := h.side rfl

theorem record (r : RecordBody) : KeepsLoads a (st.record r) := h.side rfl

theorem store (x : Store) : KeepsLoads a { st with sst := x } := h.side rfl

theorem storeTrigger : KeepsLoads a st.storeTrigger := h.side st.storeTrigger_loadSide

theorem triggerTrace (t : Nat) : KeepsLoads a (st.triggerTrace t) := h.side (st.triggerTrace_loadSide t)

theorem setPort (q : Port) (p : PortId) : KeepsLoads a (st.setPort q p) := h.side (st.setPort_loadSide q p)

theorem stage {l : LevelEngine} {t : Station} (k : LevelStage l st t) : KeepsLoads a t := by
  refine h.side ?_
  obtain ⟨t, q, x, rfl⟩ := k.shape
  rfl

/-! ### The Overflow Monitor, the clock, the daily close -/

theorem accrueOverflow (litres seconds events : Nat) : KeepsLoads a (st.accrueOverflow litres seconds events) := by
  unfold Station.accrueOverflow
  dsimp only
  split
  · exact (h.setSummary _).raiseFlags _
  · exact h.setSummary _

theorem openEvent (u : LevelUpdate) (head : Nat) : KeepsLoads a (st.openEvent u head) :=
  (((((h.ofm _).record _).accrueOverflow _ _ _).triggerTrace _).storeTrigger).report _ _

theorem closeEvent (e : EventRec) (time : Nat) (why : CloseReason) : KeepsLoads a (st.closeEvent e time why) := h.side (by simp)

theorem eventUpdate (u : LevelUpdate) (e : EventRec) : KeepsLoads a (st.eventUpdate u e) := by
  unfold Station.eventUpdate
  split
  · dsimp only
    split <;> split
    · exact (((h.ofm _).raiseFlags _).accrueOverflow _ _ _).closeEvent _ _ _
    · exact ((h.ofm _).raiseFlags _).accrueOverflow _ _ _
    · exact ((h.ofm _).accrueOverflow _ _ _).closeEvent _ _ _
    · exact (h.ofm _).accrueOverflow _ _ _
  · exact h.ofm _

theorem overflowUpdate (u : LevelUpdate) : KeepsLoads a (st.overflowUpdate u) := by
  unfold Station.overflowUpdate
  dsimp only
  split
  · exact (h.ofm _).eventUpdate _ _
  · exact (h.ofm _).eventUpdate _ _
  · exact h.ofm _
  · exact h.ofm _
  all_goals
    split
    · split
      · exact ((h.ofm _).ofm _).openEvent _ _
      · exact (h.ofm _).ofm _
    · exact h.ofm _

theorem dailyClose : KeepsLoads a st.dailyClose := by
  have zeroed {t : Station} (ht : KeepsLoads a t) (d : RecordBody) (j c : Nat) : KeepsLoads a (Station.record { t with
      pumps := Vector.ofFn fun n : Fin 6 => { t.pumps[n] with startsToday := 0, runToday := 0 }
      rkc := { t.rkc with cyclesToday := c, jamsToday := j } } d) :=
    (ht.side (t := { t with pumps := Vector.ofFn fun n : Fin 6 => { t.pumps[n] with startsToday := 0, runToday := 0 } })
      (t.withPumps_loadSide fun n => by simp)).side rfl
  unfold Station.dailyClose
  dsimp only
  split
  · exact zeroed ((h.setSummary _).raiseFlags _) _ 0 0
  · exact zeroed (h.setSummary _) _ 0 0

theorem rollover : KeepsLoads a st.rollover := (h.dailyClose.setSummary _).storeTrigger

theorem accrueSecond : KeepsLoads a st.accrueSecond := (h.side st.runSecond_loadSide).setSummary _

theorem advanceSecond (rolloverFirst : Bool) : KeepsLoads a (st.advanceSecond rolloverFirst) := by
  unfold Station.advanceSecond
  dsimp only
  split
  · split
    · exact (h.setQueue _).rollover.accrueSecond
    · exact (h.setQueue _).accrueSecond.rollover
  · exact (h.setQueue _).accrueSecond

end KeepsLoads

/-! ### The readers of a level update (R24) -/

theorem sends_keepPending {a st : Station} (h : KeepsPending a st) (orders : Vector (Option Order) 6) (l : List PumpNo) :
    KeepsPending a (l.foldl (fun s n => s.send orders n) st) := by
  induction l generalizing st with
  | nil => exact h
  | cons n l ih =>
    refine ih ?_
    show KeepsPending a (st.send orders n)
    unfold Station.send
    split
    · exact h
    next o _ => exact (h.shifts (((Shifts.refl st).order n o).reportPump n)).settleStc

theorem evaluate_keepsLoads (st : Station) (u : LevelUpdate) : KeepsLoads st (st.evaluate u) := by
  have examined := (Shifts.refl st).pruneAll.judgeStartLimited.keepsPending
  unfold Station.evaluate
  dsimp only
  generalize st.pruneAll.judgeStartLimited = v at examined
  have recorded (d : Duty) (same : d.rotation = v.dty.rotation) : KeepsPending st { v with dty := d } :=
    examined.side (by simp only [Station.loadSide, same])
  refine ((sends_keepPending (recorded _ ?_) _ _).shifts (Shifts.refl _).testPumpDown).ends
  rfl

theorem floatEvaluation_keepsLoads (st : Station) : KeepsLoads st st.floatEvaluation := by
  unfold Station.floatEvaluation
  split
  · exact .refl st
  · split
    · exact evaluate_keepsLoads st _
    · exact .refl st

theorem rakeUpdate_keepsLoads (st : Station) (u : LevelUpdate) : KeepsLoads st (st.rakeUpdate u) := by
  have first := KeepsLoads.of_shifts ((Shifts.refl st).rakeDifferential u)
  exact (first.shifts ((Shifts.refl _).rakeInterval u)).shifts ((Shifts.refl _).rakeBlinding u)

theorem react_keepsLoads {a st : Station} (h : KeepsLoads a st) (u : LevelUpdate) (r : Reader) : KeepsLoads a (st.react u r) := by
  cases r with
  | duty => exact h.trans (evaluate_keepsLoads st u)
  | rake => exact h.trans (rakeUpdate_keepsLoads st u)
  | overflow => exact h.overflowUpdate u
  | trace => exact h.side (st.traceUpdate_loadSide u)
  | reports => exact h.side rfl

theorem reacts_keepLoads {a st : Station} (h : KeepsLoads a st) (u : LevelUpdate) (order : List Reader) :
    KeepsLoads a (order.foldl (Station.react u) st) := by
  induction order generalizing st with
  | nil => exact h
  | cons r order ih => exact ih (react_keepsLoads h u r)

/-! ### The stages of a cycle (R1) -/

theorem commitStage_loadSide (st : Station) : st.commitStage.loadSide = st.loadSide := by
  obtain ⟨o, pa, pb, e⟩ := (commitStage_committed st).shape
  rw [e]; rfl

theorem runCycle_keepsLoads (st : Station) (wellA wellB inlet weir : BitVec 12) (order : List Reader) :
    KeepsLoads st (st.runCycle wellA wellB inlet weir order) := by
  have formed : KeepsLoads st (st.formUpdate wellA wellB inlet weir).2 := by
    rw [Station.formUpdate_station]
    exact (((((((KeepsLoads.refl st).side (commitStage_loadSide st)).stage (sampleStage_stage _ _ _ _ _)).stage
      (voteStage_stage _ _)).stage (readActive_stage _ _ _).2).stage (readActive_stage _ _ _).2).stage
      (inflowStage_stage _ _).2).stage (alarmStage_stage _ _)
  have published (u : LevelUpdate) : KeepsLoads st ((st.formUpdate wellA wellB inlet weir).2.publish u) := formed.setLevels _
  exact reacts_keepLoads (published _) _ order

end Sys2Proof.Machine
end

section
/-! PROOFS. What a taken change or a first settling of a contact leaves of the loads, the motor table and the start queue (R48, R49,
R79, R80). -/

namespace Sys2Proof.Machine

/-! ### The active limit and the RUN_FB column -/

/-- The RUN_FB column of the motor table is that of the settled contacts (R79). -/
def Station.feedbackSeen (st : Station) : Prop := ∀ n : PumpNo, st.stc.runFbSeen[n] = st.settled (.runFb n)

/-- A limit formed anew rings at the Start Controller. -/
theorem formLimit_pending {st : Station} (safe : st.rotationSafe) : st.formLimit.loadPending := ⟨safe, fun quiet => by cases quiet⟩

theorem formLimit_tableSafe {st : Station} (seen : st.stcSettled = true → st.feedbackSeen) : st.formLimit.tableSafe :=
  fun settled => ⟨seen settled, rfl⟩

/-- After a change of GEN_RUN the table is as the contacts give it, whatever limit it showed before (R80). -/
theorem genChange_tableSafe {st : Station} (seen : st.stcSettled = true → st.feedbackSeen) : st.genChange.tableSafe :=
  (((KeepsPending.refl st.formLimit).shifts ((Shifts.refl _).report _ _)).settleStc).table (formLimit_tableSafe seen)

theorem genChange_loadSafe {st : Station} (safe : st.rotationSafe) : st.genChange.loadSafe :=
  settleStc_loadSafe (((Shifts.refl st.formLimit).report _ _).loadPending (formLimit_pending safe))

theorem genChange_queueSafe {st : Station} (safe : st.queueSafe) : st.genChange.queueSafe :=
  (((KeepsPending.refl st.formLimit).shifts ((Shifts.refl _).report _ _)).settleStc).queue safe

/-- The motor table is filled, or the notice has yet to come (R90). -/
theorem noteStc_tableSafe (st : Station) : st.noteStc.tableSafe := by
  unfold Station.noteStc
  split
  · exact genChange_tableSafe fun _ n => by simp [Station.settled, ContactUnit.input]
  next open_ => exact fun settled => absurd settled open_

theorem noteStc_keepsLoads (st : Station) : KeepsLoads st st.noteStc := by
  refine ⟨fun safe => ?_, fun _ => noteStc_tableSafe st, fun safe => ?_⟩
  · unfold Station.noteStc
    split
    · exact genChange_queueSafe safe
    · exact safe
  · unfold Station.noteStc
    split
    · exact genChange_loadSafe safe.1
    · exact safe

/-- RUN_FB n goes to its column: the table comes to show it, and no load counts it. -/
theorem seeFeedback_keepsLoads (st : Station) (n : PumpNo) : KeepsLoads st (st.seeFeedback n) := by
  refine ⟨id, fun safe settled => ?_, id⟩
  obtain ⟨seen, limit⟩ := safe settled
  refine ⟨fun m => ?_, limit⟩
  by_cases hm : m = n
  · subst hm; simp [Station.seeFeedback, Station.settled]
  · exact (set_other _ _ hm).trans (seen m)

theorem stcFeedback_keepsLoads (st : Station) (n : PumpNo) : KeepsLoads st (st.stcFeedback n) :=
  (seeFeedback_keepsLoads st n).shifts (Shifts.refl _).ring

/-! ### Deliveries -/

theorem both_keepsLoads (st : Station) (swapped : Bool) {f g : Station → Station} (hf : ∀ t, KeepsLoads t (f t))
    (hg : ∀ t, KeepsLoads t (g t)) : KeepsLoads st (st.both swapped f g) := by
  unfold Station.both
  split
  · exact (hg st).trans (hf _)
  · exact (hf st).trans (hg _)

theorem decodeSelector_keepsLoads (st : Station) (n : PumpNo) : KeepsLoads st (st.decodeSelector n) := by
  have set (x : Selector) : KeepsLoads st (st.setSelector n x) := (KeepsLoads.refl st).side rfl
  unfold Station.decodeSelector
  dsimp only
  split
  · exact set _
  · exact (set _).trans (.pumpEvent ((Shifts.refl _).selectorChange n _))

theorem levelFloats_keepsLoads (st : Station) (high : Bool) : KeepsLoads st (st.levelFloats high) := by
  have floats : KeepsLoads st st.floatLevels := (((KeepsLoads.refl st).setLevels _).report _ _).report _ _
  unfold Station.levelFloats
  split <;> dsimp only <;> split
  · exact floats.report _ _
  · exact floats
  · exact (KeepsLoads.refl st).report _ _
  · exact .refl st

theorem notePump_keepsLoads (st : Station) (n : PumpNo) : KeepsLoads st (st.notePump n) := by
  unfold Station.notePump
  split
  · exact .pumpEvent ((Shifts.refl st).pumpNotice n)
  · exact .refl st

theorem noteRake_keepsLoads (st : Station) : KeepsLoads st st.noteRake := by
  unfold Station.noteRake
  split
  · exact (KeepsLoads.refl st).report _ _
  · exact .refl st

theorem noteFloats_keepsLoads (st : Station) (swapped : Bool) : KeepsLoads st (st.noteFloats swapped) := by
  unfold Station.noteFloats
  split
  · exact both_keepsLoads _ _ floatEvaluation_keepsLoads fun t => levelFloats_keepsLoads t true
  · exact .refl st

theorem settlePair_keepsLoads (st : Station) (n : PumpNo) : KeepsLoads st (st.settlePair n) := by
  unfold Station.settlePair
  split
  · exact (KeepsLoads.refl st).side rfl
  · exact .refl st

/-! ### A contact's record -/

/-- A change of RUN_FB n is taken: the other columns stand, and this one is written at once (R79). -/
theorem takeFeedback_keepsLoads (st : Station) (n : PumpNo) (r : InputRec) (has : r.hasSettled = st.ctu.runFb[n].hasSettled) :
    KeepsLoads st ((st.setInput (.runFb n) r).seeFeedback n) := by
  have others {m : PumpNo} (hm : m ≠ n) : (st.ctu.runFb.set n r)[m] = st.ctu.runFb[m] := set_other _ _ hm
  have flags (m : PumpNo) : (st.ctu.runFb.set n r)[m].hasSettled = st.ctu.runFb[m].hasSettled := by
    by_cases hm : m = n
    · subst hm; simpa using has
    · rw [others hm]
  refine ⟨id, fun safe settled => ?_, id⟩
  have before : st.stcSettled = true := by
    rw [← settled]
    show st.stcSettled = ((allPumps.all fun m => (st.ctu.runFb.set n r)[m].hasSettled) && st.ctu.genRun.hasSettled)
    simp only [flags]; rfl
  obtain ⟨seen, limit⟩ := safe before
  refine ⟨fun m => ?_, limit⟩
  by_cases hm : m = n
  · subst hm; simp [Station.seeFeedback, Station.settled]
  · exact (set_other _ _ hm).trans ((seen m).trans (congrArg InputRec.settled (others hm)).symm)

/-- A taken change of a contact that the Start Controller does not read is delivered. -/
theorem takeOther_keepsLoads (st : Station) (i : Input) (swapped : Bool) (feedback : ∀ n, i ≠ .runFb n) (generator : i ≠ .genRun) :
    KeepsLoads st (st.takeChange i swapped) := by
  have taken : KeepsLoads st (st.setInput i ((st.ctu.input i).take st.uptime)) :=
    (KeepsLoads.refl st).side (st.setOther_loadSide _ feedback generator)
  have rake (t : Station) (j : Input) (on : Bool) : KeepsLoads t (t.rakeContact j on).settleStc :=
    .of_shifts ((Shifts.refl t).rakeContact j on)
  refine taken.trans ?_
  cases i with
  | hoaHand n => exact decodeSelector_keepsLoads _ n
  | hoaAuto n => exact decodeSelector_keepsLoads _ n
  | runFb n => exact absurd rfl (feedback n)
  | pumpFault n => exact .pumpEvent ((Shifts.refl _).pumpFaultChange n _)
  | limTop => exact rake _ _ _
  | limBottom => exact rake _ _ _
  | torqueTrip => exact rake _ _ _
  | skipFull => exact rake _ _ _
  | floatHigh => exact both_keepsLoads _ _ floatEvaluation_keepsLoads fun t => levelFloats_keepsLoads t true
  | floatLow => exact both_keepsLoads _ _ floatEvaluation_keepsLoads fun t => levelFloats_keepsLoads t false
  | modeRemote => exact .refl _
  | maintKey => exact .refl _
  | genRun => exact absurd rfl generator

/-- Both owners of RUN_FB n have its change, in either order. -/
theorem deliverFeedback_keepsLoads (st : Station) (n : PumpNo) (r : InputRec) (on swapped : Bool)
    (has : r.hasSettled = st.ctu.runFb[n].hasSettled) :
    KeepsLoads st ((st.setInput (.runFb n) r).deliver (.runFb n) on swapped) := by
  refine (takeFeedback_keepsLoads st n r has).trans ?_
  generalize st.setInput (.runFb n) r = t
  exact both_keepsLoads (t.seeFeedback n) swapped (f := fun s => s.pumpEvent n fun u => u.pumpFeedback n on)
    (g := fun s => s.stcFeedback n) (fun u => .pumpEvent (f := fun v => v.pumpFeedback n on) ((Shifts.refl u).pumpFeedback n on))
    (stcFeedback_keepsLoads · n)

/-- A taken change (R46, R49). -/
theorem takeChange_keepsLoads (st : Station) (i : Input) (swapped : Bool) : KeepsLoads st (st.takeChange i swapped) := by
  cases i with
  | runFb n =>
    exact deliverFeedback_keepsLoads st n _ _ swapped rfl
  | genRun =>
    have column {r : InputRec} (safe : st.tableSafe) (has : r.hasSettled = st.ctu.genRun.hasSettled)
        (settled : (st.setInput .genRun r).stcSettled = true) : (st.setInput .genRun r).feedbackSeen := by
      refine (safe ?_).1
      rw [← settled]
      show _ = ((allPumps.all fun m => st.ctu.runFb[m].hasSettled) && r.hasSettled)
      rw [has]; rfl
    exact ⟨fun safe => genChange_queueSafe safe, fun safe => genChange_tableSafe (column safe rfl), fun safe => genChange_loadSafe safe.1⟩
  | _ => exact takeOther_keepsLoads st _ swapped (by simp) (by simp)

/-- A first settling at a contact of the Start Controller: the table stands as the notice leaves it. -/
theorem settleFeedback_keepsLoads (st : Station) (n : PumpNo) (r : InputRec) (swapped : Bool) :
    KeepsLoads st ((st.setInput (.runFb n) r).notice (.runFb n) swapped) := by
  have noted (t : Station) := (notePump_keepsLoads t n).trans (noteStc_keepsLoads _)
  refine ⟨fun safe => ?_, fun _ => ?_, fun safe => ?_⟩
  · exact (both_keepsLoads _ swapped (notePump_keepsLoads · n) noteStc_keepsLoads).queue safe
  · show (Station.both _ swapped _ _).tableSafe
    unfold Station.both
    split
    · exact (notePump_keepsLoads _ n).table (noteStc_tableSafe _)
    · exact noteStc_tableSafe _
  · exact (both_keepsLoads _ swapped (notePump_keepsLoads · n) noteStc_keepsLoads).load safe

/-- A first settling of a contact that the Start Controller does not read. -/
theorem settleOther_keepsLoads (st : Station) (i : Input) (swapped : Bool) (feedback : ∀ n, i ≠ .runFb n) (generator : i ≠ .genRun) :
    KeepsLoads st (st.firstSettle i swapped) := by
  have settled : KeepsLoads st (st.setInput i (st.ctu.input i).settle) :=
    (KeepsLoads.refl st).side (st.setOther_loadSide _ feedback generator)
  refine settled.trans ?_
  cases i with
  | hoaHand n => exact (settlePair_keepsLoads _ n).trans (notePump_keepsLoads _ n)
  | hoaAuto n => exact (settlePair_keepsLoads _ n).trans (notePump_keepsLoads _ n)
  | runFb n => exact absurd rfl (feedback n)
  | pumpFault n => exact notePump_keepsLoads _ n
  | limTop => exact noteRake_keepsLoads _
  | limBottom => exact noteRake_keepsLoads _
  | torqueTrip => exact noteRake_keepsLoads _
  | skipFull => exact noteRake_keepsLoads _
  | floatHigh => exact noteFloats_keepsLoads _ _
  | floatLow => exact noteFloats_keepsLoads _ _
  | modeRemote => exact .refl _
  | maintKey => exact .refl _
  | genRun => exact absurd rfl generator

/-- A first settling (R48). -/
theorem firstSettle_keepsLoads (st : Station) (i : Input) (swapped : Bool) : KeepsLoads st (st.firstSettle i swapped) := by
  cases i with
  | runFb n => exact settleFeedback_keepsLoads st n _ swapped
  | genRun =>
    have noted := noteStc_keepsLoads (st.setInput .genRun (st.ctu.input .genRun).settle)
    exact ⟨noted.queue, fun _ => noteStc_tableSafe _, noted.load⟩
  | _ => exact settleOther_keepsLoads st _ swapped (by simp) (by simp)

/-- A raw level settles nothing (R46). -/
theorem rawLevel_keepsLoads (st : Station) (i : Input) (level : Bool) : KeepsLoads st (st.rawLevel i level) := by
  refine (KeepsLoads.refl st).side (st.setInput_loadSide i _ ?_ ?_)
  all_goals
    split
    · rfl
    · unfold InputRec.rawChange
      split <;> rfl

end Sys2Proof.Machine
end

section
/-! PROOFS. What a request of the maintenance set and the two resets leave of the loads, the motor table and the start queue (R58 to
R61, R182, R187, R188). -/

namespace Sys2Proof.Machine

/-! ### Pump records and the rotation list -/

/-- What a write of a pump record or of the rotation list leaves: a rotation list as R60 has it, whatever the new settings are. -/
structure Rewrites (a b : Station) : Prop where
  outer : KeepsOuter a b
  queue : QueueSound a.stc.queue → QueueSound b.stc.queue
  seen : b.stc.runFbSeen = a.stc.runFbSeen
  limit : b.stc.genSeen = a.stc.genSeen
  rotation : a.rotationSafe → b.rotationSafe

theorem Arranged.rewrites {a b : Station} (h : Arranged a b) : Rewrites a b := ⟨h.outer, h.queue, h.seen, h.limit, h.rotationSafe⟩

namespace Rewrites

variable {a b c : Station}

theorem trans (h : Rewrites a b) (k : Rewrites b c) : Rewrites a c where
  outer := h.outer.trans k.outer
  queue := k.queue ∘ h.queue
  seen := k.seen.trans h.seen
  limit := k.limit.trans h.limit
  rotation := k.rotation ∘ h.rotation

/-- With word to the Start Controller the write is an event like any other (R82). -/
theorem keepsPending (h : Rewrites a b) (rung : b.stc.heard = true) : KeepsPending a b :=
  ⟨h.queue, tableSafe_of_kept h.outer h.seen h.limit,
    fun pending => ⟨h.rotation pending.1, fun quiet => by rw [rung] at quiet; cases quiet⟩⟩

end Rewrites

/-- A pump cleared, written with settings that are not installed, and taken out of the list. -/
theorem removed_rewrites (st : Station) (n : PumpNo) (p : PumpRec) (held : Nat) (out : p.settings.installed = false) :
    Rewrites st
      (let v := ((st.clearDemand n).setPump n p).enter n .uninstalled
       let w := v.setRotation (v.dty.rotation.filter (· ≠ n))
       { w with dty := { w.dty with held := held } }) := by
  have cleared := (Shifts.refl st).clearDemand n
  have entered := (Shifts.refl ((st.clearDemand n).setPump n p)).enter n .uninstalled
  generalize ((st.clearDemand n).setPump n p).enter n .uninstalled = v at entered
  have outer := (cleared.outer.trans (keeps_setPump _ n p)).trans entered.outer
  refine ⟨(outer.trans (keeps_setRotation v _)).trans (keeps_dty _ _), fun sound => (entered.queue (cleared.queue sound)).resorted _,
    entered.seen.trans cleared.seen, entered.limit.trans cleared.limit, ?_⟩
  rintro ⟨nodup, same⟩
  have members : v.dty.rotation.Perm st.dty.rotation := entered.members.trans cleared.members
  refine ⟨(members.nodup_iff.mpr nodup).filter _, fun m => ?_⟩
  show m ∈ v.dty.rotation.filter (· ≠ n) ↔ v.pumps[m].settings.installed = true
  rw [List.mem_filter, members.mem_iff, same, entered.settings]
  by_cases hm : n = m
  · subst hm; simp [out]
  · rw [Station.setPump_other _ _ _ _ hm, cleared.settings]
    simp [Ne.symm hm]

/-- A pump leaves the station: its number leaves the rotation list (R59). -/
theorem uninstall_rewrites (st : Station) (n : PumpNo) {c : PumpSettings} (removed : c.installed = false) :
    Rewrites st (st.uninstall n c) := by
  unfold Station.uninstall
  exact removed_rewrites st n _ _ removed

/-- A pump joins the station at the tail of the list (R59). -/
theorem install_rewrites (st : Station) (n : PumpNo) {c : PumpSettings} (absent : st.pumps[n].settings.installed = false)
    (added : c.installed = true) : Rewrites st (st.install n c) := by
  have listed (p : PumpRec) (own : p.settings = c) : Rewrites st ((st.setPump n p).setRotation (st.dty.rotation ++ [n])) := by
    refine ⟨(keeps_setPump st n p).trans (keeps_setRotation _ _), fun sound => sound.resorted _, rfl, rfl, ?_⟩
    rintro ⟨nodup, same⟩
    have fresh : n ∉ st.dty.rotation := fun hn => by rw [(same n).mp hn] at absent; cases absent
    refine ⟨List.nodup_append.mpr ⟨nodup, List.nodup_singleton n, ?_⟩, fun m => ?_⟩
    · intro x hx y hy e
      rw [List.mem_singleton.mp hy] at e
      exact fresh (e ▸ hx)
    · show m ∈ st.dty.rotation ++ [n] ↔ (st.setPump n p).pumps[m].settings.installed = true
      rw [List.mem_append, List.mem_singleton, same]
      by_cases hm : n = m
      · subst hm; rw [Station.setPump_self]; simp [own, added]
      · rw [Station.setPump_other _ _ _ _ hm]; simp [Ne.symm hm]
  unfold Station.install
  dsimp only
  split
  · exact (listed _ rfl).trans ((Shifts.refl _).enterAuto n).rewrites
  · exact (listed _ rfl).trans ((Shifts.refl _).enter n _).rewrites
  · exact (listed _ rfl).trans ((Shifts.refl _).enter n _).rewrites

/-- Settings change and the pump stays installed or stays away. -/
theorem resettle_rewrites (st : Station) (n : PumpNo) {c : PumpSettings} (same : c.installed = st.pumps[n].settings.installed) :
    Rewrites st (st.setPump n { st.pumps[n] with settings := c }) := by
  refine ⟨keeps_setPump st n _, id, rfl, rfl, fun safe => ⟨safe.1, fun m => (safe.2 m).trans ?_⟩⟩
  by_cases hm : n = m
  · subst hm; rw [Station.setPump_self, ← same]
  · rw [Station.setPump_other _ _ _ _ hm]

/-- An accepted write ends with word to the Start Controller (R82). -/
theorem applied_keepsLoads {st t : Station} (n : PumpNo) (h : Rewrites st t) :
    KeepsLoads st (((t.applyMaxStarts n).ring).reportPump n).settleStc := by
  have starts := ((Shifts.refl t).applyMaxStarts n).ring
  have written : KeepsPending st (t.applyMaxStarts n).ring := (h.trans starts.rewrites).keepsPending rfl
  exact (written.shifts ((Shifts.refl _).reportPump n)).ends

theorem writePumpRecord_keepsLoads (st : Station) (n : PumpNo) (fields : List Nat)
    (accepted : (st.writePumpRecord n fields).1.status = .done) :
    KeepsLoads st (((st.writePumpRecord n fields).2.reportPump n).settleStc) := by
  unfold Station.writePumpRecord at accepted ⊢
  split
  next failed => rw [failed] at accepted; cases accepted
  next passed =>
    simp only [passed] at accepted
    dsimp only at accepted ⊢
    by_cases out : (st.pumps[n].settings.installed && !(PumpSettings.ofValues fields).installed) = true
    · simp only [if_pos out] at accepted ⊢
      have removed : (PumpSettings.ofValues fields).installed = false := by simpa using (Bool.and_eq_true_iff.mp out).2
      split
      case h_5 | h_6 | h_7 | h_8 | h_9 | h_10 | h_11 => rename_i busy; rw [busy] at accepted; cases accepted
      all_goals exact applied_keepsLoads n (uninstall_rewrites st n removed)
    · simp only [if_neg out] at accepted ⊢
      by_cases new : (!st.pumps[n].settings.installed && (PumpSettings.ofValues fields).installed) = true
      · simp only [if_pos new] at accepted ⊢
        split
        next failed => rw [failed] at accepted; cases accepted
        next => exact applied_keepsLoads n (install_rewrites st n (by simpa using (Bool.and_eq_true_iff.mp new).1)
            (Bool.and_eq_true_iff.mp new).2)
      · simp only [if_neg new]
        refine applied_keepsLoads n (resettle_rewrites st n ?_)
        cases hp : st.pumps[n].settings.installed <;> cases hc : (PumpSettings.ofValues fields).installed <;> simp_all

theorem writePump_keepsLoads (st : Station) (k : Nat) (fields : List Nat) : KeepsLoads st (st.writePump k fields).2 := by
  unfold Station.writePump carriedOut
  split
  · exact .refl st
  next n _ =>
    dsimp only
    have pruned : KeepsLoads st (st.prune n) := (KeepsLoads.refl st).side (st.prune_loadSide n)
    split
    next accepted => exact pruned.trans (writePumpRecord_keepsLoads _ n fields accepted)
    · exact pruned.report _ _

/-- A list that WRITE ROTATION takes is as R60 has it. -/
theorem isRotation_iff (st : Station) (l : List PumpNo) :
    st.isRotation l = true ↔ l.Nodup ∧ ∀ n : PumpNo, n ∈ l ↔ st.pumps[n].settings.installed = true := by
  have settings : ∀ n : PumpNo, (Vector.ofFn fun m : Fin 6 => st.pumps[m].settings)[n] = st.pumps[n].settings := by simp
  have count : (installedList (Vector.ofFn fun m : Fin 6 => st.pumps[m].settings)).length = st.npos := by
    simp only [installedList, settings, ← List.countP_eq_length_filter]; rfl
  have test := rotation_test_iff (pumps := Vector.ofFn fun m : Fin 6 => st.pumps[m].settings) (l := l)
  rw [count] at test
  simp only [settings] at test
  rw [← test, Station.isRotation]
  simp [and_assoc]

theorem writeRotation_keepsLoads (st : Station) (mode : Nat) (l : List Nat) : KeepsLoads st (st.writeRotation mode l).2 := by
  unfold Station.writeRotation
  split
  next m l _ _ =>
    split
    next sound =>
      have moded : KeepsPending st { st with dty := { st.dty with mode := m } } := (KeepsPending.refl st).side rfl
      generalize ht : ({ st with dty := { st.dty with mode := m } } : Station) = t at moded
      have listed : Rewrites t (t.setRotation l) := by
        refine ⟨keeps_setRotation t l, fun q => q.resorted _, rfl, rfl, fun _ => ?_⟩
        subst ht
        exact (isRotation_iff st l).mp sound
      exact (moded.trans (listed.keepsPending rfl)).ends
    · exact .refl st
  · exact .refl st

/-! ### Station constants -/

/-- New constants, before the Start Controller has handled them: the limit and RAKE_KW stand, or it has word (R80, R82). -/
theorem stcConstants_keepsLoads (st : Station) (c : Constants) :
    KeepsLoads st (({ st with consts := c } : Station).stcConstants st.consts) := by
  have spaced (t : Station) : Shifts t (if t.consts.startSpacing = st.consts.startSpacing then t else t.armSpacing) := by
    split
    · exact .refl t
    · exact (Shifts.refl t).armSpacing
  unfold Station.stcConstants
  by_cases same : c.stcPart = st.consts.stcPart
  · have parts : c.utilityLimit = st.consts.utilityLimit ∧ c.genLimit = st.consts.genLimit ∧
        c.startSpacing = st.consts.startSpacing ∧ c.rakeKw = st.consts.rakeKw := by
      simpa [Constants.stcPart] using same
    obtain ⟨utility, gen, spacing, rake⟩ := parts
    have taken : KeepsPending st { st with consts := c } := by
      refine ⟨id, id, fun pending => ⟨pending.1, fun quiet => ?_⟩⟩
      have fit : st.committedLoad ≤ st.activeLimit := pending.2 quiet
      show Station.committedLoad _ ≤ Station.activeLimit _
      simp only [Station.committedLoad, Station.rakeLoad, Station.activeLimit, utility, gen, rake]
      exact fit
    simp only [utility, gen, spacing, same, and_self, if_true]
    exact taken.ends
  · have rung {t : Station} (consts : t.consts = c) (queue : st.queueSafe → t.queueSafe) (table : st.tableSafe → t.tableSafe)
        (rotation : st.rotationSafe → t.rotationSafe) : KeepsLoads st
          (let u := if t.consts.startSpacing = st.consts.startSpacing then t else t.armSpacing
           if u.consts.stcPart = st.consts.stcPart then u else u.ring).settleStc := by
      have shifted := spaced t
      generalize (if t.consts.startSpacing = st.consts.startSpacing then t else t.armSpacing) = u at shifted
      dsimp only
      rw [shifted.outer.consts, consts, if_neg same]
      exact KeepsPending.ends ⟨shifted.ring.queue ∘ queue, shifted.ring.tableSafe ∘ table,
        fun pending => ⟨shifted.ring.rotationSafe (rotation pending.1), fun quiet => by cases quiet⟩⟩
    split
    · exact rung rfl id id id
    · exact rung rfl id (fun safe => formLimit_tableSafe fun settled => (safe settled).1) id

theorem writeConstants_keepsLoads (st : Station) (c : Constants) : KeepsLoads st (st.writeConstants c).2 := by
  unfold Station.writeConstants
  split
  · exact .refl st
  · have rake {t : Station} (h : KeepsLoads st t) : KeepsLoads st (t.rakeConstants st.consts) := by
      unfold Station.rakeConstants
      split
      · exact h
      · exact h.shifts (Shifts.refl t).rearmInterval
    exact (rake (stcConstants_keepsLoads st c)).side (Station.judgeBeacon_loadSide _)

/-! ### The soft reset (R188) -/

theorem resetPumps_shifts (st : Station) : Shifts st st.resetPumps := by
  have all (l : List PumpNo) (t : Station) : Shifts t (l.foldl Station.resetPumpUnit t) := by
    induction l generalizing t with
    | nil => exact .refl t
    | cons n l ih => exact ((Shifts.refl t).resetPumpUnit n).trans (ih _)
  exact all _ st

theorem softResetStc_shifts (st : Station) : Shifts st st.softResetStc := by
  refine Shifts.armSpacing (Shifts.stc (Shifts.refl st) _ fun _ => ?_)
  exact ⟨List.nodup_nil, by simp⟩

theorem finishStcReset_ends {a st : Station} (h : KeepsPending a st) : KeepsLoads a st.finishStcReset :=
  (h.shifts ((((Shifts.refl st).report _ _).report _ _).trans (testLoadShed_shifts _)).ring).ends

theorem softReset_keepsLoads (st : Station) : KeepsLoads st st.softReset := by
  have levels : KeepsPending st st.resetLevels := by
    refine (KeepsPending.refl st).side ?_
    obtain ⟨pa, pb, e⟩ := st.resetLevels_shape
    rw [e]; rfl
  have outputs (t : Station) : KeepsPending t t.resetOutputs :=
    have off : KeepsPending t t.softResetOutputs.softResetDuty := (KeepsPending.refl t).side rfl
    off.shifts (softResetStc_shifts _)
  have motors := ((levels.trans (outputs _)).shifts (resetPumps_shifts _)).shifts (Shifts.refl _).softResetRake
  have redriven (t : Station) : t.redriveBeacon.loadSide = t.loadSide := rfl
  rw [Station.softReset_stages, Station.resetMotors]
  exact (finishStcReset_ends (motors.side (Station.softResetOverflow_loadSide _))).side (redriven _)

/-! ### The power-up (R187) -/

/-- A list restored is as R60 has it (R62). -/
theorem restoreRotation_sound (pumps : Vector PumpSettings 6) (numbers : List Nat) :
    (restoreRotation pumps numbers).Nodup ∧ ∀ n : PumpNo, n ∈ restoreRotation pumps numbers ↔ pumps[n].installed = true := by
  have rebuilt : (installedList pumps).Nodup ∧ ∀ n : PumpNo, n ∈ installedList pumps ↔ pumps[n].installed = true :=
    ⟨installedList_nodup pumps, fun _ => mem_installedList⟩
  unfold restoreRotation
  split
  · exact rebuilt
  · split
    next fit => exact rotation_test_iff.mp fit
    · exact rebuilt

/-- Every block begins with nothing in motion, an empty queue and a table yet to be filled (R90). -/
theorem fromItems_safe (st : Station) (t : StoredItems) (b : Bool) :
    (st.fromItems t b).queueSafe ∧ (st.fromItems t b).tableSafe ∧ (st.fromItems t b).loadSafe := by
  have rotation : (st.fromItems t b).rotationSafe := by
    unfold Station.rotationSafe
    simp only [fromItems_rotation, fromItems_pumps, PumpRec.powerUp, PumpSettings.mend_installed]
    exact restoreRotation_sound _ _
  have still : ∀ m ∈ allMotors, ¬ (st.fromItems t b).moves m = true := by
    intro m _
    cases m with
    | pump n =>
      simp only [Station.moves, Station.commits, fromItems_pumps, PumpRec.powerUp]
      split <;> simp [PumpState.inMotion]
    | rake => exact Bool.false_ne_true
  refine ⟨⟨List.nodup_nil, fun e he => by cases he⟩, fun settled => ?_, rotation, ?_, rfl⟩
  · exact absurd (Bool.and_eq_true_iff.mp settled).2 Bool.false_ne_true
  · rw [committedLoad_eq, List.filter_eq_nil_iff.mpr still]
    exact Nat.zero_le _

theorem powerUp_safe (st : Station) : st.powerUp.queueSafe ∧ st.powerUp.tableSafe ∧ st.powerUp.loadSafe := by
  have kept {u v : Station} (h : KeepsLoads u v) (safe : u.queueSafe ∧ u.tableSafe ∧ u.loadSafe) :
      v.queueSafe ∧ v.tableSafe ∧ v.loadSafe := ⟨h.queue safe.1, h.table safe.2.1, h.load safe.2.2⟩
  unfold Station.powerUp
  split
  · exact kept ((KeepsLoads.refl _).record _) (fromItems_safe st _ _)
  · exact kept ((((KeepsLoads.refl _).record _).record _).report _ _) (fromItems_safe st _ _)

end Sys2Proof.Machine
end

section
/-! PROOFS. Every step keeps the committed load within the active limit, the motor table and the start queue (R60, R75, R79, R80,
R82). -/

namespace Sys2Proof.Machine

/-! ### The store -/

namespace KeepsLoads

variable {a st : Station} (h : KeepsLoads a st)

include h

theorem finaliseSave (sound : Bool) (p : PortId) : KeepsLoads a (st.finaliseSave sound p) := by
  unfold Station.finaliseSave
  split
  · dsimp only
    split
    · exact (h.side (st.finalise_loadSide _ _ _ _)).store _
    · exact (h.side (st.finalise_loadSide _ _ _ _)).store _
  · exact h
  · exact h

theorem endWrite (w : StoreWrite) (defect : BitVec 16) : KeepsLoads a (st.endWrite w defect) := by
  have follow {t : Station} (ht : KeepsLoads a t) : KeepsLoads a (if t.sst.followUp then
      ({ t with sst := { t.sst with
        followUp := false, coverA := t.sst.coverA.promote, coverB := t.sst.coverB.promote } }).beginWrite
      else { t with sst := { t.sst with inFlight := none } }) := by
    split
    · exact (ht.store _).store _
    · exact ht.store _
  unfold Station.endWrite
  refine follow (finaliseSave (finaliseSave ?_ _ _) _ _)
  split
  · exact (h.store _).report _ _
  · exact h.store _

end KeepsLoads

/-! ### Requests -/

theorem carriedOut_keepsLoads {st : Station} {r : Reply × Station} {after : Station → Station} (h : KeepsLoads st (after r.2)) :
    KeepsLoads st (carriedOut st r after).2 := by
  unfold carriedOut
  split
  · exact h
  · exact .refl st

theorem readPump_keepsLoads (st : Station) (k : Nat) : KeepsLoads st (st.readPump k).2 := by
  unfold Station.readPump
  split
  · exact .refl st
  · exact ((KeepsLoads.refl st).side (st.prune_loadSide _)).report _ _

theorem readTrace_keepsLoads (st : Station) (p : PortId) (form n : Nat) : KeepsLoads st (st.readTrace p form n).2 := by
  unfold Station.readTrace
  by_cases hr : 1 < form ∨ n < 1 ∨ (if form = 0 then 12 else 8) < n
  · rw [if_pos hr]; exact .refl st
  · rw [if_neg hr]; exact (KeepsLoads.refl st).setPort _ _

theorem setTraceWindow_keepsLoads (st : Station) (p : PortId) (s e : Nat) : KeepsLoads st (st.setTraceWindow p s e).2 := by
  unfold Station.setTraceWindow
  split
  · exact .refl st
  · exact (KeepsLoads.refl st).setPort _ _

theorem ackPoints_keepsLoads (l : List PointNo) (st : Station) : KeepsLoads st (Station.ackPoints l st).2 := by
  induction l generalizing st with
  | nil => exact .refl st
  | cons k l ih =>
    have acked : KeepsLoads st (st.ackPoint k) := by
      unfold Station.ackPoint
      dsimp only
      split
      · exact .refl st
      · exact (KeepsLoads.refl st).side rfl
    exact acked.trans (ih _)

theorem ackAlarm_keepsLoads (st : Station) (l : List Nat) : KeepsLoads st (st.ackAlarm l).2 := by
  unfold Station.ackAlarm
  split
  · exact .refl st
  · exact ackPoints_keepsLoads _ st

theorem clearAttention_keepsLoads (st : Station) (p : PortId) (l : List Nat) : KeepsLoads st (st.clearAttention p l).2 := by
  unfold Station.clearAttention
  split
  · exact .refl st
  · exact (KeepsLoads.refl st).side rfl

theorem releaseTrace_keepsLoads (st : Station) : KeepsLoads st st.releaseTrace.2 := by
  unfold Station.releaseTrace
  split <;> exact (KeepsLoads.refl st).side rfl

theorem setSetpoints_keepsLoads (st : Station) (t : Setpoints) : KeepsLoads st (st.setSetpoints t).2 := by
  unfold Station.setSetpoints
  split <;> exact (KeepsLoads.refl st).side rfl

theorem atPump_keepsLoads (st : Station) (k : Nat) {f : Station → PumpNo → Reply × Station} (run : ∀ n, Shifts st (f st n).2) :
    KeepsLoads st (st.atPump k f).2 := by
  unfold Station.atPump
  split
  · exact .refl st
  next n _ => exact carriedOut_keepsLoads (.of_shifts ((run n).reportPump n))

theorem writeChannel_keepsLoads (st : Station) (code : Nat) (c : ChanSettings) : KeepsLoads st (st.writeChannel code c).2 := by
  unfold Station.writeChannel
  split
  · exact .refl st
  · split <;> exact (KeepsLoads.refl st).side rfl

theorem copyCurve_keepsLoads (st : Station) (code : Nat) : KeepsLoads st (st.copyCurve code).2 := by
  unfold Station.copyCurve
  split
  · exact .refl st
  · dsimp only
    split <;> exact (KeepsLoads.refl st).side rfl

theorem writeCurvePoints_keepsLoads (st : Station) (code s : Nat) (l : List Point) :
    KeepsLoads st (st.writeCurvePoints code s l).2 := by
  unfold Station.writeCurvePoints
  split
  · exact .refl st
  · dsimp only
    split
    · exact .refl st
    · split <;> exact (KeepsLoads.refl st).side rfl

theorem setCurveCount_keepsLoads (st : Station) (code n : Nat) : KeepsLoads st (st.setCurveCount code n).2 := by
  unfold Station.setCurveCount
  split
  · exact .refl st
  · dsimp only
    split
    · exact .refl st
    · split <;> exact (KeepsLoads.refl st).side rfl

theorem commitCurve_keepsLoads (st : Station) (p : PortId) (code : Nat) : KeepsLoads st (st.commitCurve p code).2 := by
  unfold Station.commitCurve
  split
  · exact .refl st
  · dsimp only
    split
    · exact .refl st
    · split <;> exact (KeepsLoads.refl st).side rfl

theorem setArithControl_keepsLoads (st : Station) (mode : Nat) (m c : FlagSet) : KeepsLoads st (st.setArithControl mode m c).2 := by
  unfold Station.setArithControl
  split
  · exact .refl st
  · exact ((KeepsLoads.refl st).setLevels _).side (Station.judgeArith_loadSide _)

theorem takeReport_keepsLoads (st : Station) (seq : Nat) : KeepsLoads st (st.takeReport seq).2 := by
  unfold Station.takeReport
  split
  · exact .refl st
  · split <;> exact (KeepsLoads.refl st).side rfl

theorem setClock_keepsLoads (st : Station) (t : Nat) : KeepsLoads st (st.setClock t).2 := by
  have noticed {u : Station} (h : KeepsLoads st u) : KeepsLoads st u.clockNotice := by
    unfold Station.clockNotice
    split
    · exact h.ofm _
    · exact h.ofm _
    · exact h
  have noted := (KeepsLoads.refl st).setSummary { st.rpq.summary with clockChanged := true }
  unfold Station.setClock
  refine noticed ?_
  split
  · exact ((noted.dailyClose.setQueue _).setSummary _).record _
  · exact (noted.setQueue _).record _

/-! ### Rows of the table -/

/-- A request does what its owner does. -/
theorem request_keepsLoads {s t : State} {p : PortId} {k : Kind} {owner : List Byte → Station → Reply × Station} {rest : List Byte}
    (h : s.on (fun st => st.intake p k owner rest) = .next t) (ho : ∀ ps u, KeepsLoads u (owner ps u).2) : KeepsLoads s.st t.st := by
  cases h
  show KeepsLoads s.st (s.st.intake p k owner rest)
  have risen : KeepsLoads s.st (s.st.rise p (1 + rest.length)) := (KeepsLoads.refl _).setPort _ p
  obtain h | h | ⟨r, -, -, h⟩ | ⟨ps, -, h⟩ := s.st.intake_cases p k owner rest
  · rw [h]; exact .refl _
  · rw [h]; exact risen.setPort _ p
  · rw [h]; exact risen.side (Station.putReply_loadSide _ _ _ _)
  · rw [h]; exact (risen.trans (ho ps _)).side (Station.putReply_loadSide _ _ _ _)

/-- What acts on a running part alone. -/
theorem live_keepsLoads {s t : State} {f : Station → Station} (h : s.on (fun st => st.live f) = .next t)
    (hf : ∀ u, KeepsLoads u (f u)) : KeepsLoads s.st t.st := by
  cases h
  show KeepsLoads s.st (s.st.live f)
  unfold Station.live
  split
  · exact .refl _
  · exact hf _

/-- A timed event, at its moment or not at all. -/
theorem event_keepsLoads {s t : State} {due : Station → Option Nat} {f : Station → Station}
    (h : s.on (fun st => st.live fun u => u.atStep (due u) f) = .next t) (hf : ∀ u, KeepsLoads u (f u)) : KeepsLoads s.st t.st := by
  refine live_keepsLoads h fun u => ?_
  unfold Station.atStep
  split
  · exact .refl u
  · split
    · exact .refl u
    next hr =>
      obtain ⟨c, rfl⟩ := u.reach_clock hr
      exact ((KeepsLoads.refl u).side (t := { u with clock := c }) rfl).trans (hf _)

theorem expiry_keepsLoads {s t : State} {expiry : Station → Option Nat} {f : Station → Station}
    (h : s.on (fun st => st.live fun u => u.atTick (expiry u) f) = .next t) (hf : ∀ u, KeepsLoads u (f u)) : KeepsLoads s.st t.st :=
  event_keepsLoads (due := fun u => (expiry u).map (10 * ·)) h hf

/-- An expiry at a pump. -/
theorem pumpExpiry_keepsLoads {s t : State} {expiry : Station → Option Nat} {n : PumpNo} {f : Station → Station}
    (h : s.on (fun st => st.live fun u => u.atTick (expiry u) fun v => v.pumpEvent n f) = .next t)
    (run : ∀ u, Shifts u (f u)) : KeepsLoads s.st t.st := expiry_keepsLoads h fun u => .pumpEvent (run u)

/-- An expiry at the rake or at the Start Controller. -/
theorem stcExpiry_keepsLoads {s t : State} {expiry : Station → Option Nat} {f : Station → Station}
    (h : s.on (fun st => st.live fun u => u.atTick (expiry u) fun v => (f v).settleStc) = .next t)
    (run : ∀ u, Shifts u (f u)) : KeepsLoads s.st t.st := expiry_keepsLoads h fun u => .of_shifts (run u)

theorem deadExpired_keepsLoads (st : Station) : KeepsLoads st st.deadExpired := by
  have ended : KeepsLoads st { st with ctu := { st.ctu with drive := st.ctu.drive.expire } } := (KeepsLoads.refl st).side rfl
  exact ended.shifts (Shifts.refl _).driveReport

theorem emptyPeriod_keepsLoads {s t : State} {p : PortId} {k : Nat} (h : execEmptyPeriod p k s = .next t) :
    KeepsLoads s.st t.st := by
  unfold execEmptyPeriod at h
  split at h
  · cases h
  · exact live_keepsLoads h fun u => ((KeepsLoads.refl u).setPort _ p).setPort _ p

theorem requestNotTaken_keepsLoads {s t : State} {p : PortId} {bytes : List Byte} (h : execRequestNotTaken p bytes s = .next t) :
    KeepsLoads s.st t.st := by
  unfold execRequestNotTaken at h
  split at h
  · cases h
  · split at h
    · cases h
    · refine live_keepsLoads h fun u => ?_
      split
      · exact ((KeepsLoads.refl u).setPort _ p).setPort _ p
      · exact .refl u

theorem unknownRequest_keepsLoads {s t : State} {p : PortId} {code : Byte} {rest : List Byte}
    (h : execUnknownRequest p code rest s = .next t) : KeepsLoads s.st t.st := by
  unfold execUnknownRequest at h
  split at h
  · cases h
  · refine live_keepsLoads h fun u => ?_
    have risen : KeepsLoads u (u.rise p (1 + rest.length)) := (KeepsLoads.refl u).setPort _ p
    dsimp only
    split
    · exact risen.setPort _ p
    · exact risen.side (Station.putReply_loadSide _ _ _ _)

theorem measurementCycle_keepsLoads {s t : State} {a b i w : BitVec 12} {order : List Reader}
    (h : execMeasurementCycle a b i w order s = .next t) : KeepsLoads s.st t.st := by
  unfold execMeasurementCycle at h
  split at h
  · exact expiry_keepsLoads (expiry := fun u => some u.lve.nextCycle) h fun u => runCycle_keepsLoads u a b i w order
  · cases h

theorem storeWriteEnd_keepsLoads {s t : State} {defect : BitVec 16} (h : execStoreWriteEnd defect s = .next t) :
    KeepsLoads s.st t.st := by
  refine live_keepsLoads h fun u => ?_
  split
  · exact .refl u
  · exact (KeepsLoads.refl u).endWrite _ _

/-- Every command but the power-up. -/
theorem exec_keepsLoads {c : Instr} {s t : State} (up : c ≠ .powerUp) (h : exec c s = .next t) : KeepsLoads s.st t.st := by
  cases c with
  | powerUp => exact absurd rfl up
  | resetHold => cases h; exact (KeepsLoads.refl s.st).side rfl
  | selectFall p => exact live_keepsLoads h fun u => (KeepsLoads.refl u).setPort _ p
  | emptyPeriod p k => exact emptyPeriod_keepsLoads h
  | requestNotTaken p bytes => exact requestNotTaken_keepsLoads h
  | unknownRequest p code rest => exact unknownRequest_keepsLoads h
  | portClear p => exact live_keepsLoads h fun u => (KeepsLoads.refl u).setPort _ p
  | readStatus p rest => exact request_keepsLoads h fun _ u => .refl u
  | readChannels p rest => exact request_keepsLoads h fun _ u => .refl u
  | readWell p rest => exact request_keepsLoads h fun _ u => .refl u
  | readPump p rest => exact request_keepsLoads h fun _ u => readPump_keepsLoads u _
  | readRake p rest => exact request_keepsLoads h fun _ u => .refl u
  | readOverflow p rest => exact request_keepsLoads h fun _ u => .refl u
  | readAlarms p rest => exact request_keepsLoads h fun _ u => .refl u
  | readCurve p rest => exact request_keepsLoads h fun _ u => .refl u
  | setTraceWindow p rest => exact request_keepsLoads h fun _ u => setTraceWindow_keepsLoads u _ _ _
  | readTrace p rest => exact request_keepsLoads h fun _ u => readTrace_keepsLoads u _ _ _
  | peekReport p rest => exact request_keepsLoads h fun _ u => .refl u
  | readArith p rest => exact request_keepsLoads h fun _ u => .refl u
  | readSettings p rest => exact request_keepsLoads h fun _ u => .refl u
  | ackAlarm p rest => exact request_keepsLoads h fun _ u => ackAlarm_keepsLoads u _
  | clearAttention p rest => exact request_keepsLoads h fun _ u => clearAttention_keepsLoads u _ _
  | setAttentionMasks p rest => exact request_keepsLoads h fun _ u => (KeepsLoads.refl u).side rfl
  | releaseTrace p rest => exact request_keepsLoads h fun _ u => releaseTrace_keepsLoads u
  | setSetpoints p rest => exact request_keepsLoads h fun _ u => setSetpoints_keepsLoads u _
  | inhibitPump p rest => exact request_keepsLoads h fun _ u => atPump_keepsLoads u _ (Shifts.refl u).inhibitPump
  | releasePump p rest => exact request_keepsLoads h fun _ u => atPump_keepsLoads u _ (Shifts.refl u).releasePump
  | resetPumpFault p rest => exact request_keepsLoads h fun _ u => atPump_keepsLoads u _ (Shifts.refl u).resetPumpFault
  | requestRakeCycle p rest => exact request_keepsLoads h fun _ u => .of_shifts (Shifts.refl u).rakeSetDemand
  | resetRake p rest => exact request_keepsLoads h fun _ u => carriedOut_keepsLoads (.of_shifts (Shifts.refl u).resetRake)
  | writeChannel p rest => exact request_keepsLoads h fun _ u => writeChannel_keepsLoads u _ _
  | writePumpRecord p rest => exact request_keepsLoads h fun _ u => writePump_keepsLoads u _ _
  | writeRotation p rest => exact request_keepsLoads h fun _ u => writeRotation_keepsLoads u _ _
  | writeStationConstants p rest => exact request_keepsLoads h fun _ u => writeConstants_keepsLoads u _
  | copyCurve p rest => exact request_keepsLoads h fun _ u => copyCurve_keepsLoads u _
  | writeCurvePoints p rest => exact request_keepsLoads h fun _ u => writeCurvePoints_keepsLoads u _ _ _
  | setCurveCount p rest => exact request_keepsLoads h fun _ u => setCurveCount_keepsLoads u _ _
  | commitCurve p rest => exact request_keepsLoads h fun _ u => commitCurve_keepsLoads u _ _
  | setArithControl p rest => exact request_keepsLoads h fun _ u => setArithControl_keepsLoads u _ _ _
  | saveSettings p rest => exact request_keepsLoads h fun _ u => (KeepsLoads.refl u).storeTrigger.store _
  | stationReset p rest => exact request_keepsLoads h fun _ u => softReset_keepsLoads u
  | takeReport p rest => exact request_keepsLoads h fun _ u => takeReport_keepsLoads u _
  | setClock p rest => exact request_keepsLoads h fun _ u => setClock_keepsLoads u _
  | measurementCycle a b i w order => exact measurementCycle_keepsLoads h
  | rawLevelChange i level => cases h; exact rawLevel_keepsLoads s.st i level
  | debounceExpiry i swapped =>
    exact event_keepsLoads (due := fun u => (u.ctu.input i).dueWhen true) h fun u => takeChange_keepsLoads u i swapped
  | firstSettling i swapped =>
    exact event_keepsLoads (due := fun u => (u.ctu.input i).dueWhen false) h fun u => firstSettle_keepsLoads u i swapped
  | spacingExpiry => exact stcExpiry_keepsLoads h fun u => ((Shifts.refl u).stc { u.stc with spacingExpiry := none } id).ring
  | budgetExpiry =>
    exact stcExpiry_keepsLoads h fun u => (((Shifts.refl u).stc { u.stc with capacityHeld := true } id).report _ _).ring
  | confirmExpiry n => exact pumpExpiry_keepsLoads h fun u => (Shifts.refl u).confirmExpired n
  | minRunExpiry n => exact pumpExpiry_keepsLoads h fun u => (Shifts.refl u).minRunExpired n
  | stopConfirmExpiry n => exact pumpExpiry_keepsLoads h fun u => (Shifts.refl u).stopConfirmExpired n
  | minOffExpiry n => exact pumpExpiry_keepsLoads h fun u => (Shifts.refl u).endRest n
  | pruneExpiry n => exact pumpExpiry_keepsLoads h fun u => (Shifts.refl u).prune n
  | deadIntervalExpiry => exact event_keepsLoads (due := fun u => u.ctu.drive.deadExpiry) h deadExpired_keepsLoads
  | lowerTimerExpiry => exact stcExpiry_keepsLoads h fun u => (Shifts.refl u).rakeJam _
  | raiseTimerExpiry => exact stcExpiry_keepsLoads h fun u => (Shifts.refl u).rakeJam _
  | reverseTimerExpiry => exact stcExpiry_keepsLoads h fun u => ((Shifts.refl u).rakeEnter _).driveReport
  | dwellExpiry => exact stcExpiry_keepsLoads h fun u => ((Shifts.refl u).countCycle.rakeEnter _).rearmInterval
  | restTimerExpiry => exact stcExpiry_keepsLoads h fun u => (Shifts.refl u).rakeIdle
  | intervalExpiry => exact stcExpiry_keepsLoads h fun u => (Shifts.refl u).intervalExpired
  | stationTimeAdvance first => exact expiry_keepsLoads h fun u => (KeepsLoads.refl u).advanceSecond first
  | storeWriteEnd defect => exact storeWriteEnd_keepsLoads h

/-! ### Steps -/

/-- What every command but the power-up keeps, and what the power-up begins with, every step keeps. -/
theorem KeptByEveryStep.of_loads {inv : Station → Prop} (kept : ∀ {a b : Station}, KeepsLoads a b → inv a → inv b)
    (begun : ∀ st : Station, inv st.powerUp) : KeptByEveryStep inv := by
  have commands {c : Instr} {s t : State} (h : exec c s = .next t) (hs : inv s.st) : inv t.st := by
    by_cases up : c = .powerUp
    · subst up
      cases h
      exact begun s.st
    · exact kept (exec_keepsLoads up h) hs
  intro s t hs h
  unfold step at h
  split at h
  · unfold idle at h
    split at h
    · exact commands h (kept (a := s.st) ((KeepsLoads.refl _).side rfl) hs)
    · cases h
      refine kept (a := s.st) ((KeepsLoads.refl _).side ?_) hs
      unfold Station.pass
      split <;> rfl
  next rest _ => exact commands (s := { s with pending := rest }) h hs

/-- Settles O56: every command keeps the three invariants one by one, and a power-up begins with all of them. -/
theorem committedLoadStaysWithinTheLimit : Obligations.CommittedLoadStaysWithinTheLimit :=
  ⟨.of_loads (·.load) fun st => (powerUp_safe st).2.2, .of_loads (·.table) fun st => (powerUp_safe st).2.1,
    .of_loads (·.queue) fun st => (powerUp_safe st).1⟩

end Sys2Proof.Machine
end

section
/-! PROOFS. READ PUMP (R57, R93, R110, R111). -/

namespace Sys2Proof.Machine

/-! ### Pump numbers -/

theorem pumpOfNumber_none {k : Nat} (h : k < 1 ∨ 6 < k) : pumpOfNumber k = none := by
  unfold pumpOfNumber
  rw [dif_neg (by omega)]

theorem pumpOfNumber_some {k : Nat} {n : PumpNo} (h : k = n.val + 1) : pumpOfNumber k = some n := by
  subst h
  unfold pumpOfNumber
  rw [dif_pos (by omega)]
  simp

/-! ### The reply -/

/-- The slot of the answering port carries the reply (R176). -/
theorem putReply_slot (st : Station) (p : PortId) (code : Byte) (r : Reply) :
    ((st.putReply p code r).port p).slot = ⟨r.status, code, r.data⟩ := by
  simp [Station.putReply]

theorem readPump_eq (st : Station) (n : PumpNo) {k : Nat} (h : k = n.val + 1) :
    st.readPump k = (.done ((st.prune n).judgeStartLimited.pumpBytes n), (st.prune n).judgeStartLimited) := by
  rw [Station.readPump, pumpOfNumber_some h]

/-- The record's bytes are read from the pump, its contacts and its output alone. -/
theorem pumpBytes_putReply (st : Station) (p : PortId) (code : Byte) (r : Reply) (n : PumpNo) :
    (st.putReply p code r).pumpBytes n = st.pumpBytes n := by
  unfold Station.pumpBytes Station.settled
  rw [Station.putReply_pumps, Station.putReply_ctu]

/-- START_LIMITED is read from the pump records alone. -/
theorem startLimitedCondition_putReply (st : Station) (p : PortId) (code : Byte) (r : Reply) :
    (st.putReply p code r).startLimitedCondition = st.startLimitedCondition := by
  unfold Station.startLimitedCondition
  rw [Station.putReply_pumps]

/-- Once judged, the point shows the condition as it then stands (R111). -/
theorem joint_condition_judged (st : Station) :
    st.judgeStartLimited.alt.points[Alarm.startLimited].condition = st.judgeStartLimited.startLimitedCondition := by
  rw [Station.judgeStartLimited_condition]
  simp [Station.startLimitedCondition, Station.judgeStartLimited]

/-- Settles O17: the request is admitted, and its owner prunes, judges and reads. -/
theorem readPumpPrunesAndReplies : Obligations.ReadPumpPrunesAndReplies := by
  intro s p rest c h
  have admitted (owner : List Byte → Station → Reply × Station) :=
    State.on_intake_admits (s := s) (k := ⟨0x04, .view, .fixed 1⟩) owner h
  have number : nth (params [1] [c]) 0 = c.toNat := by simp [params, readFields, nth, ofBe_singleton]
  refine ⟨fun hc => ?_, fun n hn => ?_⟩
  · refine State.on_intake_answered (k := ⟨0x04, .view, .fixed 1⟩) h ?_
    rw [number, Station.readPump, pumpOfNumber_none hc]
  · refine ⟨_, admitted _, rfl, ?_⟩
    rw [number, readPump_eq _ n hn]
    refine ⟨?_, ?_, ?_, ?_⟩
    · simp only [Station.answer, putReply_slot, pumpBytes_putReply]
      rfl
    · simp only [Station.answer, Station.judgeStartLimited, Station.putReply_pumps, Station.report_pumps, Station.prune_pumps,
        Station.rise_pumps, Station.uptime, Station.rise_clock]
      rfl
    · rw [Station.answer, startLimitedCondition_putReply, Station.putReply_alt]
      exact joint_condition_judged _
    · simp [Station.answer, Station.judgeStartLimited]

end Sys2Proof.Machine
end

section
/-! PROOFS. The Duty Controller's record through the Start Controller's event and at pump-down end (R63, R64, R87). -/

namespace Sys2Proof.Machine

/-! ### What the rake leaves of the duty record and the pumps -/

/-- The duty record and the pump records. -/
def Station.dutySide (st : Station) : Duty × Vector PumpRec 6 := (st.dty, st.pumps)

section
variable (st : Station)

@[simp] theorem Station.withStc_dutySide (c : StartControl) : ({ st with stc := c } : Station).dutySide = st.dutySide := rfl
@[simp] theorem Station.withRkc_dutySide (r : Rake) : ({ st with rkc := r } : Station).dutySide = st.dutySide := rfl
@[simp] theorem Station.askDrive_dutySide (d : Option Dir) : (st.askDrive d).dutySide = st.dutySide := rfl
@[simp] theorem Station.setPumpRun_dutySide (n : PumpNo) (on : Bool) : (st.setPumpRun n on).dutySide = st.dutySide := rfl
@[simp] theorem Station.ring_dutySide : st.ring.dutySide = st.dutySide := rfl
@[simp] theorem Station.reportUnshed_dutySide (n : PumpNo) : (st.reportUnshed n).dutySide = st.dutySide := rfl
@[simp] theorem Station.withdraw_dutySide (m : Motor) : (st.withdraw m).dutySide = st.dutySide := rfl
@[simp] theorem Station.withdrawRake_dutySide : st.withdrawRake.dutySide = st.dutySide := rfl
@[simp] theorem Station.rakeBegin_dutySide (k : Nat) : (st.rakeBegin k).dutySide = st.dutySide := rfl

@[simp] theorem Station.report_dutySide (k : PointNo) (on : Bool) : (st.report k on).dutySide = st.dutySide := by
  simp [Station.dutySide]

@[simp] theorem Station.judgeStartLimited_dutySide : st.judgeStartLimited.dutySide = st.dutySide := by
  simp [Station.judgeStartLimited]

@[simp] theorem Station.reportPump_dutySide (n : PumpNo) : (st.reportPump n).dutySide = st.dutySide := by simp [Station.reportPump]

@[simp] theorem Station.enqueue_dutySide (m : Motor) : (st.enqueue m).dutySide = st.dutySide := by
  unfold Station.enqueue
  split <;> rfl

@[simp] theorem Station.rakeEnter_dutySide (s : RakeState) : (st.rakeEnter s).dutySide = st.dutySide := by
  unfold Station.rakeEnter
  dsimp only
  split <;> rfl

@[simp] theorem Station.rakeIdle_dutySide : st.rakeIdle.dutySide = st.dutySide := by
  unfold Station.rakeIdle Station.rakeTestWait
  split <;> simp

@[simp] theorem Station.rakeJam_dutySide (c : JamCause) : (st.rakeJam c).dutySide = st.dutySide := by simp [Station.rakeJam]

@[simp] theorem Station.rakeAtTop_dutySide : st.rakeAtTop.dutySide = st.dutySide := by
  unfold Station.rakeAtTop
  split <;> simp

@[simp] theorem Station.rakeTrip_dutySide : st.rakeTrip.dutySide = st.dutySide := by
  unfold Station.rakeTrip
  split <;> simp

@[simp] theorem Station.driveReport_dutySide : st.driveReport.dutySide = st.dutySide := by
  unfold Station.driveReport
  split
  · unfold Station.rakeDriven
    split <;> dsimp only <;> repeat' split
    all_goals simp
  · rfl

@[simp] theorem Station.grantRake_dutySide : st.grantRake.dutySide = st.dutySide := by
  unfold Station.grantRake
  split
  · dsimp only
    split <;> simp
  · rfl

@[simp] theorem Station.shedRake_dutySide : st.shedRake.dutySide = st.dutySide := by
  unfold Station.shedRake
  split <;> simp

end

theorem dutySide_eq_iff {a b : Station} : b.dutySide = a.dutySide ↔ b.dty = a.dty ∧ b.pumps = a.pumps := Prod.mk.injEq .. ▸ .rfl

/-! ### Pump-down end (R63) -/

theorem pumpDownEnd_iff (st : Station) : st.pumpDownEnd = true ↔
    st.dty.altMark = true ∧ st.dty.held = 0 ∧ st.dty.effective = 0 ∧ ∀ n : PumpNo, st.pumps[n].settings.installed = true →
      st.pumps[n].state ≠ .starting ∧ st.pumps[n].state ≠ .running ∧ st.pumps[n].state ≠ .stopping := by
  have still (s : PumpState) : (s.inMotion || s == .stopping) = false ↔ s ≠ .starting ∧ s ≠ .running ∧ s ≠ .stopping := by
    cases s <;> decide
  have pumps : (!(allPumps.any fun n => st.holdsOff n)) = true ↔ ∀ n : PumpNo, st.pumps[n].settings.installed = true →
      (st.pumps[n].state.inMotion || st.pumps[n].state == .stopping) = false := by
    simp [allPumps, Station.holdsOff]
  simp only [← still, ← pumps, Station.pumpDownEnd, Bool.and_eq_true, beq_iff_eq, and_assoc]

/-- A pump that holds off pump-down end. -/
theorem pumpDownEnd_heldOff {st : Station} {n : PumpNo} (h : st.holdsOff n = true) : st.pumpDownEnd = false := by
  have some_ : (allPumps.any fun n => st.holdsOff n) = true := List.any_eq_true.mpr ⟨n, List.mem_finRange n, h⟩
  simp [Station.pumpDownEnd, some_]

theorem testPumpDown_not {st : Station} (h : st.pumpDownEnd = false) : st.testPumpDown = st := if_neg (by simp [h])

/-- A pump that enters a state in which it holds off pump-down end leaves the duty record. -/
theorem enter_dty_heldOff (st : Station) (n : PumpNo) {s : PumpState} (installed : st.pumps[n].settings.installed = true)
    (holds : (s.inMotion || s == .stopping) = true) : (st.enter n s).dty = st.dty := by
  have heldOff (t : Station) : Station.holdsOff (t.setPump n (st.pumps[n].entered st.uptime s)) n = true := by
    rw [Station.holdsOff, Station.setPump_self, PumpRec.entered, installed, holds]; rfl
  have kept (t : Station) (same : t.dty = st.dty) :
      (t.setPump n (st.pumps[n].entered st.uptime s)).testPumpDown.dty = st.dty := by
    rw [testPumpDown_not (pumpDownEnd_heldOff (heldOff t))]
    exact same
  unfold Station.enter
  dsimp only
  split
  · exact kept st.ring rfl
  · exact kept st rfl

/-! ### The duty record through the Start Controller's event -/

/-- The duty record is `d`, and no pump that is not installed waits or moves. -/
def Station.dutyStands (d : Duty) (st : Station) : Prop :=
  st.dty = d ∧ ∀ n : PumpNo, st.pumps[n].settings.installed = true ∨
    st.pumps[n].state ≠ .waiting ∧ st.pumps[n].state.inMotion = false

theorem Station.dutyStands.of_side {d : Duty} {a b : Station} (h : a.dutyStands d) (same : b.dutySide = a.dutySide) :
    b.dutyStands d := by
  obtain ⟨dty, pumps⟩ := dutySide_eq_iff.mp same
  rw [Station.dutyStands, dty, pumps]
  exact h

/-- A pump that is installed changes its record and holds off pump-down end. -/
theorem Station.dutyStands.enter {d : Duty} {st : Station} (h : st.dutyStands d) {n : PumpNo} {s : PumpState}
    (installed : st.pumps[n].settings.installed = true) (holds : (s.inMotion || s == .stopping) = true) :
    (st.enter n s).dutyStands d := by
  refine ⟨(enter_dty_heldOff st n installed holds).trans h.1, fun m => ?_⟩
  rw [Station.enter_pumps]
  by_cases hm : m = n
  · subst hm; left; simpa [PumpRec.entered] using installed
  · rw [set_other _ _ hm]; exact h.2 m

theorem Station.dutyStands.setPump {d : Duty} {st : Station} (h : st.dutyStands d) {n : PumpNo} {p : PumpRec}
    (installed : p.settings.installed = true) : (st.setPump n p).dutyStands d := by
  refine ⟨h.1, fun m => ?_⟩
  by_cases hm : n = m
  · subst hm; rw [Station.setPump_self]; exact .inl installed
  · rw [Station.setPump_other _ _ _ _ hm]; exact h.2 m

/-- The sheds and grants of an event move installed pumps alone, into states that hold off pump-down end. -/
theorem dutyStands_stcKeeps (d : Duty) : StcKeeps (Station.dutyStands d) where
  stc _ _ h := h
  report a k on _ h := h.of_side (a.report_dutySide k on)
  shedRake a h := h.of_side a.shedRake_dutySide
  grantRake a h := h.of_side a.grantRake_dutySide
  shedPump a n h := by
    refine Station.dutyStands.of_side ?_ (Station.reportPump_dutySide _ n)
    unfold Station.shedPump
    split
    next moving =>
      have installed : a.pumps[n].settings.installed = true := (h.2 n).resolve_right fun still => by rw [still.2] at moving; cases moving
      have stopped : (a.stopNow n).dutyStands d := by
        refine Station.dutyStands.enter ?_ ?_ rfl
        · exact Station.dutyStands.setPump (h.of_side (a.setPumpRun_dutySide n false)) installed
        · rw [Station.setDeferred, Station.setPump_self]; exact installed
      dsimp only
      split
      · refine stopped.setPump ?_
        rw [Station.stopNow, Station.enter_pumps]
        simpa [PumpRec.entered, Station.setDeferred] using installed
      · exact stopped.of_side (Station.reportUnshed_dutySide _ n)
    · exact h.of_side (a.reportUnshed_dutySide n)
  grantPump a n h := by
    unfold Station.grantPump
    split
    next waits =>
      have installed : a.pumps[n].settings.installed = true := (h.2 n).resolve_right fun still => still.1 waits
      have pruned : (a.prune n).pumps[n].settings.installed = true := by simpa using installed
      have begun : (a.prune n).dutyStands d := h.setPump installed
      have started (p : PumpRec) (hp : p.settings.installed = true) :
          (((((a.prune n).setPump n p).setPumpRun n true).enter n .starting).reportPump n).dutyStands d := by
        refine Station.dutyStands.of_side (Station.dutyStands.enter ?_ ?_ rfl) (Station.reportPump_dutySide _ n)
        · exact (begun.setPump hp).of_side (Station.setPumpRun_dutySide _ n true)
        rw [Station.setPumpRun_pumps, Station.setPump_self]; exact hp
      exact started _ pruned
    · exact h

/-- So the event leaves the duty record. -/
theorem settleStc_dty {st : Station} (safe : ∀ n : PumpNo, st.pumps[n].settings.installed = true ∨
    st.pumps[n].state ≠ .waiting ∧ st.pumps[n].state.inMotion = false) : st.settleStc.dty = st.dty :=
  ((dutyStands_stcKeeps st.dty).settleStc ⟨rfl, safe⟩).1

/-- In a sound pump record a pump that is not installed is in UNINSTALLED. -/
theorem pumpsSafe_installed {st : Station} (safe : st.pumpsSafe) (n : PumpNo) : st.pumps[n].settings.installed = true ∨
    st.pumps[n].state ≠ .waiting ∧ st.pumps[n].state.inMotion = false := by
  obtain ⟨-, installed, -⟩ := safe n
  by_cases absent : st.pumps[n].state = .uninstalled
  · rw [absent]; exact .inr ⟨by decide, rfl⟩
  · exact .inl (installed.mpr absent)

end Sys2Proof.Machine
end

section
/-! PROOFS. SET SETPOINTS and WRITE ROTATION are judged whole, and the list alternates at pump-down end (R60, R61, R63 to R65). -/

namespace Sys2Proof.Machine

/-! ### The first position that breaks a test (Table 4-4) -/

/-- The first position below `n` at which a test fails. -/
def firstBreach (n : Nat) (ok : Nat → Prop) [DecidablePred ok] : Option Nat := (List.range n).find? fun k => decide (¬ok k)

section
variable {n : Nat} {ok : Nat → Prop} [DecidablePred ok]

theorem firstBreach_none_iff : firstBreach n ok = none ↔ ∀ k, k < n → ok k := by
  simp [firstBreach]

theorem firstBreach_some_iff {k : Nat} : firstBreach n ok = some k ↔ k < n ∧ ¬ok k ∧ ∀ j, j < k → ok j := by
  rw [firstBreach, List.find?_range_eq_some]
  simp [and_left_comm]

end

/-- The range tests of Table 4-4. -/
def Setpoints.inRange (t : Setpoints) : Prop :=
  (∀ v ∈ t.start.toList ++ t.stop.toList ++ [t.highAlarm, t.lowAlarm, t.lowCutoff, t.anticipate], v ≤ 30000) ∧
    t.margin ≤ 65535 ∧ 1 ≤ t.floatDemand ∧ t.floatDemand ≤ 6

/-- The verdict of the four tests in their order: the range tests, and where the other three first break. -/
def firstOf : Bool → Option Nat → Option Nat → Option Nat → Option (Nat × Nat)
  | false, _, _, _ => some (1, 0)
  | true, some k, _, _ => some (2, k + 1)
  | true, none, some k, _ => some (3, k + 2)
  | true, none, none, some k => some (4, k + 1)
  | true, none, none, none => none

theorem firstOf_none_iff {r : Bool} {a b c : Option Nat} : firstOf r a b c = none ↔ r = true ∧ a = none ∧ b = none ∧ c = none := by
  cases r with
  | false => simp [firstOf]
  | true => cases a <;> cases b <;> cases c <;> simp [firstOf]

/-- A test that breaks is named with its position, and the tests before it hold throughout. -/
theorem firstOf_some_iff {r : Bool} {a b c : Option Nat} {test k : Nat} : firstOf r a b c = some (test, k) ↔
    (test = 1 ∧ k = 0 ∧ r = false) ∨ (test = 2 ∧ r = true ∧ 1 ≤ k ∧ a = some (k - 1)) ∨
    (test = 3 ∧ r = true ∧ a = none ∧ 2 ≤ k ∧ b = some (k - 2)) ∨
    (test = 4 ∧ r = true ∧ a = none ∧ b = none ∧ 1 ≤ k ∧ c = some (k - 1)) := by
  cases r with
  | false => simp [firstOf, eq_comm]
  | true =>
    cases a with
    | some i => simp [firstOf]; omega
    | none =>
      cases b with
      | some i => simp [firstOf]; omega
      | none =>
        cases c with
        | some i => simp [firstOf]; omega
        | none => simp [firstOf]

theorem Setpoints.failing_eq (t : Setpoints) (npos : Nat) [Decidable t.inRange] : t.failing npos =
    firstOf (decide t.inRange) (firstBreach npos fun k => t.stop.toList.getD k 0 < t.start.toList.getD k 0)
      (firstBreach (npos - 1) fun k => t.start.toList.getD k 0 < t.start.toList.getD (k + 1) 0)
      (firstBreach npos fun k => t.lowCutoff < t.stop.toList.getD k 0) := by
  have range : ((t.start.toList ++ t.stop.toList ++ [t.highAlarm, t.lowAlarm, t.lowCutoff, t.anticipate]).all
      (within 0 30000) && within 0 65535 t.margin && within 1 6 t.floatDemand) = decide t.inRange := by
    rw [Bool.eq_iff_iff, decide_eq_true_eq (p := t.inRange)]
    simp only [Bool.and_eq_true, List.all_eq_true, within, decide_eq_true_eq, Nat.zero_le, true_and, Setpoints.inRange, and_assoc]
  unfold Setpoints.failing firstBreach
  simp only [Nat.not_lt, range]
  cases decide t.inRange with
  | false => rfl
  | true =>
    generalize (List.range npos).find? _ = a
    generalize (List.range (npos - 1)).find? _ = b
    generalize (List.range npos).find? _ = c
    cases a <;> cases b <;> cases c <;> rfl

/-- The table passes, or it names the first test that fails at its first position (R65). -/
theorem failing_none_iff (t : Setpoints) (npos : Nat) : t.failing npos = none ↔ t.inRange ∧
    (∀ k, k < npos → t.stop.toList.getD k 0 < t.start.toList.getD k 0) ∧
    (∀ k, k < npos - 1 → t.start.toList.getD k 0 < t.start.toList.getD (k + 1) 0) ∧
    ∀ k, k < npos → t.lowCutoff < t.stop.toList.getD k 0 := by
  classical
  rw [t.failing_eq, firstOf_none_iff]
  simp only [firstBreach_none_iff, decide_eq_true_eq]

theorem failing_some_iff (t : Setpoints) (npos test k : Nat) : t.failing npos = some (test, k) ↔
    (test = 1 ∧ k = 0 ∧ ¬t.inRange) ∨
    (test = 2 ∧ t.inRange ∧ 1 ≤ k ∧ k ≤ npos ∧ ¬t.stop.toList.getD (k - 1) 0 < t.start.toList.getD (k - 1) 0 ∧
      ∀ j, j < k - 1 → t.stop.toList.getD j 0 < t.start.toList.getD j 0) ∨
    (test = 3 ∧ t.inRange ∧ (∀ j, j < npos → t.stop.toList.getD j 0 < t.start.toList.getD j 0) ∧ 2 ≤ k ∧ k ≤ npos ∧
      ¬t.start.toList.getD (k - 2) 0 < t.start.toList.getD (k - 2 + 1) 0 ∧
      ∀ j, j < k - 2 → t.start.toList.getD j 0 < t.start.toList.getD (j + 1) 0) ∨
    (test = 4 ∧ t.inRange ∧ (∀ j, j < npos → t.stop.toList.getD j 0 < t.start.toList.getD j 0) ∧
      (∀ j, j < npos - 1 → t.start.toList.getD j 0 < t.start.toList.getD (j + 1) 0) ∧ 1 ≤ k ∧ k ≤ npos ∧
      ¬t.lowCutoff < t.stop.toList.getD (k - 1) 0 ∧ ∀ j, j < k - 1 → t.lowCutoff < t.stop.toList.getD j 0) := by
  have one {P : Prop} : (1 ≤ k ∧ k - 1 < npos ∧ P) ↔ 1 ≤ k ∧ k ≤ npos ∧ P :=
    and_congr_right fun _ => and_congr_left fun _ => by omega
  have two {P : Prop} : (2 ≤ k ∧ k - 2 < npos - 1 ∧ P) ↔ 2 ≤ k ∧ k ≤ npos ∧ P :=
    and_congr_right fun _ => and_congr_left fun _ => by omega
  classical
  rw [t.failing_eq, firstOf_some_iff]
  simp only [firstBreach_none_iff, firstBreach_some_iff, decide_eq_true_eq, decide_eq_false_iff_not, one, two]

/-! ### Requests -/

theorem setSetpoints_requests (s : State) (p : PortId) (rest ps : List Byte) (h : s.st.admits p .operate (.fixed 35) rest ps) :
    let table := Setpoints.ofValues (readFields Setpoints.widths ps)
    (∀ test k, table.failing s.st.npos = some (test, k) →
      exec (.setSetpoints p rest) s = .next (s.answered p rest 0x40 (.final .refusedRange (byte test ++ byte k)))) ∧
    (table.failing s.st.npos = none →
      exec (.setSetpoints p rest) s = .next (s.replied p rest 0x40 (.done []) fun u =>
        { u with dty := { u.dty with setpoints := table } })) := by
  intro table
  have npos : (s.st.rise p (1 + rest.length)).npos = s.st.npos := by simp [Station.npos]
  refine ⟨fun test k hf => ?_, fun hf => ?_⟩
  · refine State.on_intake_answered (k := ⟨0x40, .operate, .fixed 35⟩) h ?_
    show Station.setSetpoints _ table = _
    rw [Station.setSetpoints, npos, hf]
  · refine (State.on_intake_admits (k := ⟨0x40, .operate, .fixed 35⟩) _ h).trans ?_
    show Host.Outcome.next { s with st := Station.answer p 0x40 (Station.setSetpoints _ table) } = _
    rw [Station.setSetpoints, npos, hf]
    rfl

/-! ### WRITE ROTATION -/

theorem altMode_none {k : Nat} (h : 2 < k) : AltMode.ofCode k = none := by
  match k, h with
  | _ + 3, _ => rfl

theorem altMode_code (m : AltMode) : AltMode.ofCode m.code = some m := by cases m <;> rfl

theorem pumpList_map (l : List PumpNo) : pumpList (l.map fun n => n.val + 1) = some l := by
  induction l with
  | nil => rfl
  | cons n l ih => rw [List.map_cons, pumpList, pumpOfNumber_some rfl, ih]

/-- A list with a number that is no pump's is none of pumps. -/
theorem pumpList_none {l : List Nat} {k : Nat} (hk : k ∈ l) (h : k < 1 ∨ 6 < k) : pumpList l = none := by
  cases hl : pumpList l with
  | none => rfl
  | some ns =>
    have named : k ∈ ns.map fun n => n.val + 1 := by rw [pumpList_numbers hl]; exact hk
    obtain ⟨n, -, rfl⟩ := List.mem_map.mp named
    have := n.isLt
    omega

theorem writeRotation_refused {st : Station} {mode : Nat} {numbers : List Nat}
    (h : ∀ m l, AltMode.ofCode mode = some m → pumpList numbers = some l → st.isRotation l = false) :
    st.writeRotation mode numbers = (.range, st) := by
  unfold Station.writeRotation
  split
  next m l hm hl => rw [h m l hm hl]; rfl
  · rfl

theorem writeRotation_accepted {st : Station} {mode : AltMode} {l : List PumpNo} (h : st.isRotation l = true) :
    st.writeRotation mode.code (l.map fun n => n.val + 1) =
      (.done [], (({ st with dty := { st.dty with mode := mode } }).setRotation l).settleStc) := by
  unfold Station.writeRotation
  rw [altMode_code, pumpList_map]
  exact if_pos h

/-- A list of bytes is not as R60 has it. -/
theorem isRotation_false {st : Station} {list : List Byte} {l : List PumpNo} (hl : pumpList (list.map BitVec.toNat) = some l)
    (h : list.length ≠ st.npos ∨
      (∃ n : PumpNo, BitVec.ofNat 8 (n.val + 1) ∈ list ∧ st.pumps[n].settings.installed = false) ∨ ¬list.Nodup) :
    st.isRotation l = false := by
  have numbers : l.map (fun n => n.val + 1) = list.map BitVec.toNat := pumpList_numbers hl
  have length : l.length = list.length := by simpa using congrArg List.length numbers
  refine Bool.eq_false_iff.mpr fun sound => ?_
  have counted : l.length = st.npos := by
    simp only [Station.isRotation, Bool.and_eq_true, beq_iff_eq] at sound
    exact sound.1.1
  obtain ⟨nodup, same⟩ := (isRotation_iff st l).mp sound
  obtain long | ⟨n, named, absent⟩ | twice := h
  · exact long (length.symm.trans counted)
  · have mem : n.val + 1 ∈ l.map fun n => n.val + 1 := by
      rw [numbers]
      refine List.mem_map.mpr ⟨_, named, ?_⟩
      rw [BitVec.toNat_ofNat]
      have := n.isLt
      omega
    obtain ⟨m, hm, e⟩ := List.mem_map.mp mem
    obtain rfl : m = n := Fin.ext (by omega)
    rw [(same m).mp hm] at absent
    cases absent
  · refine twice ?_
    have distinct : (list.map BitVec.toNat).Nodup := by
      rw [← numbers]
      exact nodup.map fun x y e => Fin.ext (by omega)
    exact distinct.of_map

theorem KeepsOuter.putReply {a b : Station} (h : KeepsOuter a b) (p : PortId) (code : Byte) (r : Reply) :
    KeepsOuter (a.putReply p code r) (b.putReply p code r) := by
  obtain ⟨held, clock, lve, crv, ofm, trb, portA, portB, consts, sst, draws, inputs, selectors⟩ := h
  cases p with
  | a => exact ⟨held, clock, lve, crv, ofm, trb, by simp [Station.putReply, Station.setPort, Station.port, portA], portB, consts, sst,
      draws, inputs, selectors⟩
  | b => exact ⟨held, clock, lve, crv, ofm, trb, portA, by simp [Station.putReply, Station.setPort, Station.port, portB], consts, sst,
      draws, inputs, selectors⟩

/-- Mode and list are written, and the Start Controller's event leaves the rest of the duty record, unless it ends a pump-down
(R61, R63). -/
theorem setRotation_settled (st : Station) (mode : AltMode) (l : List PumpNo) :
    let t := (({ st with dty := { st.dty with mode := mode } } : Station).setRotation l).settleStc
    KeepsOuter st t ∧ t.dty.mode = mode ∧ t.dty.setpoints = st.dty.setpoints ∧
      ((∀ n : PumpNo, st.pumps[n].settings.installed = true ∨
        st.pumps[n].state ≠ .waiting ∧ st.pumps[n].state.inMotion = false) ∨ st.dty.altMark = false →
        t.dty = { st.dty with mode := mode, rotation := l }) := by
  intro t
  have written : KeepsOuter st (({ st with dty := { st.dty with mode := mode } } : Station).setRotation l) :=
    (keeps_dty st _).trans (keeps_setRotation _ l)
  have run := (ControlRun.refl (({ st with dty := { st.dty with mode := mode } } : Station).setRotation l)).settleStc
  obtain ⟨r, marked, duty⟩ := run.duty
  refine ⟨written.trans run.keepsOuter, by rw [duty]; rfl, by rw [duty]; rfl, ?_⟩
  rintro (safe | unmarked)
  · exact settleStc_dty safe
  · exact run.duty_unmarked unmarked

theorem writeRotation_requests (s : State) (p : PortId) (rest list : List Byte) (m c : Byte)
    (h : s.st.admits p .configure (.counted 1 1) rest (m :: c :: list)) :
    (2 < m.toNat ∨ list.length ≠ s.st.npos ∨ (∃ b ∈ list, b.toNat < 1 ∨ 6 < b.toNat) ∨
        (∃ n : PumpNo, BitVec.ofNat 8 (n.val + 1) ∈ list ∧ s.st.pumps[n].settings.installed = false) ∨ ¬list.Nodup →
      exec (.writeRotation p rest) s = .next (s.answered p rest 0x62 .range)) ∧
    ∀ (mode : AltMode) (l : List PumpNo), m.toNat = mode.code → list.map BitVec.toNat = l.map (fun n => n.val + 1) →
      l.Nodup → l.length = s.st.npos → (∀ n ∈ l, s.st.pumps[n].settings.installed = true) →
      ∃ t, exec (.writeRotation p rest) s = .next t ∧ t.pending = s.pending ∧
        KeepsOuter (s.taken p rest 0x62 (.done [])) t.st ∧ t.st.dty.mode = mode ∧
        t.st.dty.setpoints = s.st.dty.setpoints ∧
        (s.st.pumpsSafe ∨ s.st.dty.altMark = false → t.st.dty = { s.st.dty with mode := mode, rotation := l }) := by
  have npos : (s.st.rise p (1 + rest.length)).npos = s.st.npos := by simp [Station.npos]
  have pumps : (s.st.rise p (1 + rest.length)).pumps = s.st.pumps := Station.rise_pumps ..
  have dty : (s.st.rise p (1 + rest.length)).dty = s.st.dty := Station.rise_dty ..
  have mode : nth (params [1] (m :: c :: list)) 0 = m.toNat := by simp [params, readFields, nth, ofBe_singleton]
  have numbers : listed 1 (m :: c :: list) = list.map BitVec.toNat := rfl
  refine ⟨fun bad => ?_, fun md l hm hl nodup length installed => ?_⟩
  · refine State.on_intake_answered (k := ⟨0x62, .configure, .counted 1 1⟩) h ?_
    rw [mode, numbers]
    refine writeRotation_refused fun md l hm hl => ?_
    obtain big | long | ⟨b, hb, out⟩ | bad := bad
    · rw [altMode_none big] at hm; cases hm
    · exact isRotation_false hl (.inl (npos ▸ long))
    · rw [pumpList_none (List.mem_map_of_mem hb) out] at hl; cases hl
    · exact isRotation_false hl (.inr (pumps ▸ bad))
  · refine ⟨_, State.on_intake_admits (k := ⟨0x62, .configure, .counted 1 1⟩) _ h, rfl, ?_⟩
    have sound : (s.st.rise p (1 + rest.length)).isRotation l = true := by
      simp only [Station.isRotation, npos, pumps, length, Bool.and_eq_true, beq_self_eq_true, true_and, List.all_eq_true,
        decide_eq_true_eq]
      exact ⟨installed, nodup⟩
    rw [mode, numbers, hm, hl, writeRotation_accepted sound]
    dsimp only [Station.answer]
    rw [Station.putReply_dty, State.taken, ← dty]
    generalize s.st.rise p (1 + rest.length) = u at *
    obtain ⟨outer, mode, setpoints, whole⟩ := setRotation_settled u md l
    refine ⟨outer.putReply _ _ _, mode, setpoints, fun safe => whole ?_⟩
    obtain safe | unmarked := safe
    · exact .inl (by rw [pumps]; exact pumpsSafe_installed safe)
    · exact .inr (dty ▸ unmarked)

/-! ### Alternation (R64) -/

/-- The order of Table 4-2: totals ascending, equal totals in ascending pump number. -/
def hoursBefore (hours : PumpNo → Nat) (x y : PumpNo) : Prop := hours x < hours y ∨ (hours x = hours y ∧ x.val ≤ y.val)

theorem hoursBefore_trans {hours : PumpNo → Nat} {x y z : PumpNo} (h : hoursBefore hours x y) (k : hoursBefore hours y z) :
    hoursBefore hours x z := by
  unfold hoursBefore at *
  omega

theorem insertByHours_sorted {hours : PumpNo → Nat} {l : List PumpNo} (n : PumpNo) (h : l.Pairwise (hoursBefore hours)) :
    (insertByHours hours n l).Pairwise (hoursBefore hours) := by
  induction l with
  | nil => exact List.pairwise_singleton _ n
  | cons x l ih =>
    obtain ⟨head, tail⟩ := List.pairwise_cons.mp h
    unfold insertByHours
    split
    next first =>
      have before : hoursBefore hours n x := by unfold hoursBefore; omega
      refine List.pairwise_cons.mpr ⟨fun y hy => ?_, h⟩
      obtain rfl | hy := List.mem_cons.mp hy
      · exact before
      · exact hoursBefore_trans before (head y hy)
    next later =>
      have after : hoursBefore hours x n := by unfold hoursBefore; omega
      refine List.pairwise_cons.mpr ⟨fun y hy => ?_, ih tail⟩
      obtain rfl | hy := List.mem_cons.mp ((insertByHours_perm hours n l).mem_iff.mp hy)
      · exact after
      · exact head y hy

theorem sortByHours_sorted (hours : PumpNo → Nat) (l : List PumpNo) : (sortByHours hours l).Pairwise (hoursBefore hours) := by
  induction l with
  | nil => exact .nil
  | cons n l ih => exact insertByHours_sorted n ih

theorem rotateOnce_eq (l : List PumpNo) : rotateOnce l = l.drop 1 ++ l.take 1 := by cases l <;> rfl

/-- At pump-down end the list is reordered by the mode, the mark is cleared, and FIXED makes no report (R63, R64). -/
theorem alternate_follows (st : Station) :
    let t := st.alternate
    let total := fun n : PumpNo => st.pumps[n].runTotal
    let l := t.dty.rotation
    t.dty = { st.dty with altMark := false, rotation := l } ∧ t.pumps = st.pumps ∧
      (st.dty.mode = .onCycle → l = st.dty.rotation.drop 1 ++ st.dty.rotation.take 1) ∧
      (st.dty.mode = .onHours → l.Perm st.dty.rotation ∧
        l.Pairwise fun x y => total x < total y ∨ (total x = total y ∧ x.val ≤ y.val)) ∧
      (st.dty.mode = .fixed → l = st.dty.rotation ∧ t.stc = st.stc) ∧
      (st.dty.mode ≠ .fixed → t.stc.queue = ({ st with dty := t.dty } : Station).resort.stc.queue) := by
  intro t total l
  have turned (r : List PumpNo) : t = { st.setRotation r with dty := { (st.setRotation r).dty with altMark := false } } →
      t.dty = { st.dty with altMark := false, rotation := r } ∧ t.pumps = st.pumps ∧
        t.stc.queue = ({ st with dty := t.dty } : Station).resort.stc.queue := by
    rintro h
    rw [h]
    exact ⟨rfl, rfl, rfl⟩
  cases mode : st.dty.mode with
  | onCycle =>
    obtain ⟨dty, pumps, queue⟩ := turned (rotateOnce st.dty.rotation) (by simp only [t, Station.alternate, mode])
    simp only [l, dty]
    exact ⟨trivial, pumps, fun _ => rotateOnce_eq _, nofun, nofun, fun _ => dty ▸ queue⟩
  | onHours =>
    obtain ⟨dty, pumps, queue⟩ := turned (sortByHours total st.dty.rotation) (by simp only [t, Station.alternate, mode]; rfl)
    simp only [l, dty]
    exact ⟨trivial, pumps, nofun, fun _ => ⟨sortByHours_perm total _, sortByHours_sorted total _⟩, nofun, fun _ => dty ▸ queue⟩
  | fixed =>
    have still : t = { st with dty := { st.dty with altMark := false } } := by simp only [t, Station.alternate, mode]
    simp only [l, still]
    exact ⟨trivial, trivial, nofun, nofun, fun _ => ⟨trivial, trivial⟩, fun h => absurd rfl h⟩

/-- Settles O39. -/
theorem setpointsAndRotationAreJudgedWhole : Obligations.SetpointsAndRotationAreJudgedWhole := by
  refine ⟨fun t npos => ⟨failing_none_iff t npos, fun test k => failing_some_iff t npos test k⟩, setSetpoints_requests,
    writeRotation_requests, fun st => ?_⟩
  dsimp only
  rw [← pumpDownEnd_iff, Station.testPumpDown]
  refine ⟨fun h => if_neg h, fun h => ?_⟩
  rw [if_pos h]
  exact alternate_follows st

end Sys2Proof.Machine
end

section
/-! PROOFS. A demand evaluation: the histories pruned, the demand by levels and by floats, what the duty record then holds (R67 to R70,
R110). -/

namespace Sys2Proof.Machine

/-! ### The histories examined (R110) -/

/-- The pump records with every history pruned. -/
theorem pruneAll_pumps (st : Station) (n : PumpNo) :
    st.pruneAll.pumps[n] = { st.pumps[n] with history := pruned st.uptime st.pumps[n].history } := by
  have all {l : List PumpNo} (nodup : l.Nodup) (t : Station) : (l.foldl Station.prune t).pumps[n] =
      if n ∈ l then { t.pumps[n] with history := pruned t.uptime t.pumps[n].history } else t.pumps[n] := by
    induction l generalizing t with
    | nil => rfl
    | cons m l ih =>
      obtain ⟨fresh, rest⟩ := List.nodup_cons.mp nodup
      have uptime : (t.prune m).uptime = t.uptime := rfl
      rw [List.foldl_cons, ih rest, uptime]
      by_cases hm : m = n
      · subst hm; simp [fresh, Station.prune]
      · have kept : (t.prune m).pumps[n] = t.pumps[n] := Station.setPump_other _ _ _ _ hm
        rw [kept]
        simp [Ne.symm hm]
  exact (all (List.nodup_finRange 6) st).trans (if_pos (List.mem_finRange n))

/-- Pruning moves no other part of the station. -/
theorem pruneAll_shape (st : Station) : ∃ ps, st.pruneAll = { st with pumps := ps } := by
  have all (l : List PumpNo) (t : Station) : ∃ ps, l.foldl Station.prune t = { t with pumps := ps } := by
    induction l generalizing t with
    | nil => exact ⟨t.pumps, rfl⟩
    | cons m l ih =>
      obtain ⟨ps, h⟩ := ih (t.prune m)
      exact ⟨ps, by rw [List.foldl_cons, h]; rfl⟩
  exact all _ st

/-! ### What an evaluation forms -/

/-- The joint judgement is no part of what the demand, the assignment and the orders are formed from. -/
theorem judgeStartLimited_view (st : Station) : (∀ u, st.judgeStartLimited.demand u = st.demand u) ∧
    (∀ e, st.judgeStartLimited.assign e = st.assign e) ∧
    ∀ a c n, st.judgeStartLimited.orderFor a c n = st.orderFor a c n := by
  obtain ⟨t, q, b, e⟩ := st.report_shape Alarm.startLimited st.startLimitedCondition
  rw [Station.judgeStartLimited, e]
  exact ⟨fun _ => rfl, fun _ => rfl, fun _ _ _ => rfl⟩

/-- The station once an evaluation has recorded what it assigns, before the first order (R67). -/
def Station.assigned (st : Station) (u : LevelUpdate) : Station :=
  let v := st.pruneAll.judgeStartLimited
  let d := v.demand u
  let a := v.assign d.effective
  { v with dty := { v.dty with
    held := d.held, effective := d.effective, hand := a.hand, need := a.need, unmet := a.unmet,
    lastSource := some u.source, mods := d.mods, cutoff := d.cutoff
    orders := Vector.ofFn fun n : Fin 6 => v.orderFor a d.cutoff n
    altMark := v.dty.altMark || decide (1 ≤ d.effective) } }

/-- Then the orders go out in rotation order, and pump-down end is tested. -/
theorem evaluate_eq (st : Station) (u : LevelUpdate) : st.evaluate u =
    (((st.assigned u).dty.rotation.foldl (fun s n => s.send (st.assigned u).dty.orders n) (st.assigned u)).testPumpDown).settleStc :=
  rfl

theorem assigned_dty (st : Station) (u : LevelUpdate) :
    let d := st.pruneAll.demand u
    let a := st.pruneAll.assign d.effective
    (st.assigned u).dty = { st.dty with
      held := d.held, effective := d.effective, hand := a.hand, need := a.need, unmet := a.unmet,
      lastSource := some u.source, mods := d.mods, cutoff := d.cutoff
      orders := Vector.ofFn fun n : Fin 6 => st.pruneAll.orderFor a d.cutoff n
      altMark := st.dty.altMark || decide (1 ≤ d.effective) } := by
  obtain ⟨demand, assign, order⟩ := judgeStartLimited_view st.pruneAll
  have dty : st.pruneAll.judgeStartLimited.dty = st.dty := by rw [Station.judgeStartLimited, Station.report_dty, pruneAll_dty]
  simp only [Station.assigned, demand, assign, order, dty]

theorem assigned_parts (st : Station) (u : LevelUpdate) : (st.assigned u).pumps = st.pruneAll.pumps ∧
    (st.assigned u).stc = st.stc ∧ (st.assigned u).rkc = st.rkc ∧ (st.assigned u).ctu.pumpRun = st.ctu.pumpRun := by
  obtain ⟨ps, pruned⟩ := pruneAll_shape st
  have judged : (st.assigned u).pumps = st.pruneAll.judgeStartLimited.pumps ∧
      (st.assigned u).stc = st.pruneAll.judgeStartLimited.stc ∧ (st.assigned u).rkc = st.pruneAll.judgeStartLimited.rkc ∧
      (st.assigned u).ctu.pumpRun = st.pruneAll.judgeStartLimited.ctu.pumpRun := ⟨rfl, rfl, rfl, rfl⟩
  obtain ⟨pumps, stc, rkc, run⟩ := judged
  refine ⟨pumps.trans (by simp [Station.judgeStartLimited]), stc.trans ?_, rkc.trans ?_, run.trans ?_⟩
  all_goals simp [Station.judgeStartLimited, pruned]

theorem evaluate_run (st : Station) (u : LevelUpdate) : ControlRun (st.assigned u) (st.evaluate u) :=
  ((ControlRun.refl _).sends _ _).testPumpDown.settleStc

/-- What the duty record holds after the evaluation: all that was recorded, but for what an end of pump-down moves. -/
theorem evaluate_dty (st : Station) (u : LevelUpdate) :
    ∃ l m, (st.evaluate u).dty = { (st.assigned u).dty with rotation := l, altMark := m } := (evaluate_run st u).duty

end Sys2Proof.Machine
end

section
/-! PROOFS. Demand by levels and floats (R67 to R70). -/

namespace Sys2Proof.Machine

/-! ### The hysteresis (R68) -/

/-- The demand rises through start levels that W has reached, and stops below one that it has not reached. -/
theorem riseDemand_spec (t : Setpoints) {npos w : Nat} (fuel : Nat) {d : Nat} (hd : d ≤ npos) :
    d ≤ riseDemand t npos w fuel d ∧ riseDemand t npos w fuel d ≤ npos ∧
    (∀ k, d < k → k ≤ riseDemand t npos w fuel d → t.startAt k ≤ w) ∧
    (riseDemand t npos w fuel d < d + fuel → riseDemand t npos w fuel d < npos → w < t.startAt (riseDemand t npos w fuel d + 1)) := by
  induction fuel generalizing d with
  | zero => exact ⟨le_rfl, hd, fun k h h' => absurd (h.trans_le h') (lt_irrefl d), fun h => absurd h (lt_irrefl d)⟩
  | succ fuel ih =>
    unfold riseDemand
    split
    next rises =>
      obtain ⟨above, within, reached, stops⟩ := ih (d := d + 1) rises.1
      refine ⟨by omega, within, fun k h h' => ?_, fun h h' => stops (by omega) h'⟩
      obtain rfl | h := Nat.eq_or_lt_of_le (Nat.succ_le_of_lt h)
      · exact rises.2
      · exact reached k h h'
    next stays => exact ⟨le_rfl, hd, fun k h h' => absurd (h.trans_le h') (lt_irrefl d), fun _ h => by omega⟩

/-- It falls through stop levels that W has fallen to, and stops above one that it has not. -/
theorem fallDemand_spec (t : Setpoints) (w d : Nat) : fallDemand t w d ≤ d ∧
    (∀ k, fallDemand t w d < k → k ≤ d → w ≤ t.stopAt k) ∧ (0 < fallDemand t w d → t.stopAt (fallDemand t w d) < w) := by
  induction d with
  | zero => exact ⟨le_rfl, fun k h h' => absurd (h.trans_le h') (lt_irrefl 0), fun h => absurd h (lt_irrefl 0)⟩
  | succ d ih =>
    obtain ⟨below, fallen, stops⟩ := ih
    unfold fallDemand
    split
    next falls =>
      refine ⟨below.trans d.le_succ, fun k h h' => ?_, stops⟩
      obtain rfl | h' := Nat.eq_or_lt_of_le h'
      · exact falls
      · exact fallen k h (Nat.le_of_lt_succ h')
    next stays => exact ⟨le_rfl, fun k h h' => absurd (h.trans_le h') (lt_irrefl _), fun _ => by omega⟩

/-- In a table that passes, a pump's stop level lies below its start level. -/
theorem stopAt_lt_startAt {t : Setpoints} {npos k : Nat} (passes : t.failing npos = none) (one : 1 ≤ k) (hk : k ≤ npos) :
    t.stopAt k < t.startAt k := by
  obtain ⟨-, apart, -⟩ := (failing_none_iff t npos).mp passes
  exact apart (k - 1) (by omega)

/-- The demand moves one way in an evaluation, or not at all. -/
theorem moveDemand_spec {t : Setpoints} {npos w d : Nat} (six : npos ≤ 6) (hd : d ≤ npos) (passes : t.failing npos = none) :
    moveDemand t npos w d ≤ npos ∧ (∀ k, d < k → k ≤ moveDemand t npos w d → t.startAt k ≤ w) ∧
    (d ≤ moveDemand t npos w d → moveDemand t npos w d < npos → w < t.startAt (moveDemand t npos w d + 1)) ∧
    (∀ k, moveDemand t npos w d < k → k ≤ d → w ≤ t.stopAt k) ∧
    (moveDemand t npos w d ≤ d → 0 < moveDemand t npos w d → t.stopAt (moveDemand t npos w d) < w) := by
  unfold moveDemand
  obtain ⟨above, within, reached, stops⟩ := riseDemand_spec t (w := w) 6 hd
  generalize riseDemand t npos w 6 d = r at *
  obtain ⟨below, fallen, still⟩ := fallDemand_spec t w r
  obtain rfl | risen := Nat.eq_or_lt_of_le above
  · refine ⟨below.trans within, fun k h h' => absurd (h.trans_le (h'.trans below)) (lt_irrefl _), fun h h' => ?_, fallen, fun _ => still⟩
    rw [Nat.le_antisymm below h] at h' ⊢
    exact stops (by omega) h'
  · have last : t.stopAt r < w := (stopAt_lt_startAt passes (by omega) within).trans_le (reached r risen le_rfl)
    have stays : fallDemand t w r = r := by
      refine Nat.le_antisymm below (Nat.le_of_not_lt fun h => ?_)
      exact absurd (fallen r h le_rfl) (by omega)
    rw [stays]
    exact ⟨within, reached, fun _ h => stops (by omega) h, fun k h h' => by omega, fun h => by omega⟩

/-! ### The modifications (R69) -/

theorem runningFlow_eq (st : Station) : st.runningFlow = ((allPumps.filter fun n => st.pumps[n].settings.installed &&
    (st.pumps[n].state == .running || (st.pumps[n].state == .hand && st.settled (.runFb n)))).map
      fun n => st.pumps[n].settings.ratedFlow).sum := sum_filter_map _ _ _

theorem anticipates_iff (st : Station) (npos w d : Nat) (q : Option Nat) : st.anticipates npos w d q = true ↔
    ∃ f, q = some f ∧ d < npos ∧ st.dty.setpoints.startAt (d + 1) ≤ w + st.dty.setpoints.anticipate ∧
      st.runningFlow + st.dty.setpoints.margin < f := by
  cases q with
  | none => simp [Station.anticipates]
  | some f => simp [Station.anticipates, and_assoc]

/-- The surplus of R69, over the integers. -/
theorem anticipates_eq (st : Station) (npos w d : Nat) (q : Option Nat) : st.anticipates npos w d q =
    q.any fun f => decide (d < npos ∧
      (st.dty.setpoints.start.toList.getD d 0 : Int) - st.dty.setpoints.anticipate ≤ w ∧
      st.runningFlow + st.dty.setpoints.margin < f) := by
  have level : st.dty.setpoints.startAt (d + 1) = st.dty.setpoints.start.toList.getD d 0 := rfl
  rw [Bool.eq_iff_iff, anticipates_iff, level]
  cases q with
  | none => simp
  | some f =>
    simp only [Option.some.injEq, exists_eq_left', Option.any_some, decide_eq_true_eq]
    refine and_congr_right fun _ => and_congr_left fun _ => ?_
    omega

/-- The four modifications in order, each on the result of the one before (R69). -/
theorem demandAt_follows (st : Station) (w : Nat) (q : Option Nat) :
    let t := st.dty.setpoints
    let e := st.demandAt w q
    let d := moveDemand t st.npos w st.dty.held
    let runs := fun n : PumpNo => st.pumps[n].settings.installed && (st.pumps[n].state == .running ||
      (st.pumps[n].state == .hand && st.settled (.runFb n)))
    let runningFlow := ((allPumps.filter runs).map fun n => st.pumps[n].settings.ratedFlow).sum
    let surplus := q.any fun f => decide (d < st.npos ∧ (t.start.toList.getD d 0 : Int) - t.anticipate ≤ w ∧
      runningFlow + t.margin < f)
    let floor := min t.floatDemand st.npos
    let first := if surplus then d + 1 else d
    let second := if t.highAlarm ≤ w then st.npos else first
    let third := if w ≤ t.lowCutoff then 0 else second
    e.held = d ∧ e.effective = (if st.settled .floatHigh then max third floor else third) ∧
    (t.lowCutoff < w → t.highAlarm ≤ w → e.effective = st.npos) ∧
    (e.cutoff = true ↔ w ≤ t.lowCutoff ∧ e.effective = 0) ∧
    (e.mods.anticipation = true ↔ ∃ f, q = some f ∧ d < st.npos ∧ t.startAt (d + 1) ≤ w + t.anticipate ∧
      runningFlow + t.margin < f) ∧
    (e.mods.highFloor = true ↔ second ≠ first) ∧ (e.mods.lowCutoff = true ↔ third ≠ second) ∧
    (e.mods.floatFloor = true ↔ st.settled .floatHigh = true ∧ third < floor) := by
  intro t e d runs runningFlow surplus floor first second third
  have flow : st.runningFlow = runningFlow := runningFlow_eq st
  have acts : st.anticipates st.npos w (moveDemand st.dty.setpoints st.npos w st.dty.held) q = surplus := by
    rw [anticipates_eq, flow]
  have formed : e = { held := d, effective := if st.settled .floatHigh then max third floor else third
                      mods := { anticipation := first != d, highFloor := second != first, lowCutoff := third != second
                                floatFloor := (if st.settled .floatHigh then max third floor else third) != third }
                      cutoff := decide (w ≤ t.lowCutoff) && (if st.settled .floatHigh then max third floor else third) == 0 } := by
    unfold e Station.demandAt
    dsimp only
    rw [acts]
  rw [← flow, ← anticipates_iff, acts, formed]
  refine ⟨rfl, rfl, fun low high => ?_, ?_, ?_, bne_iff_ne, bne_iff_ne, ?_⟩
  · have all : third = st.npos := by simp only [third, second, if_neg (Nat.not_le.mpr low), if_pos high]
    simp only [all, floor]
    split
    · exact Nat.max_eq_left (Nat.min_le_right _ _)
    · rfl
  · simp
  · simp only [first]
    cases surplus <;> simp
  · cases st.settled .floatHigh with
    | false => simp
    | true => simp only [if_true, bne_iff_ne, true_and]; omega

/-! ### FLOAT source (R70) -/

theorem demandFloat_follows (st : Station) :
    let e := st.demandFloat
    e.effective = e.held ∧ e.mods = ⟨false, false, false, false⟩ ∧
    (st.settled .floatHigh = true → e.held = min st.dty.setpoints.floatDemand st.npos ∧ e.cutoff = false) ∧
    (st.settled .floatHigh = false → st.settled .floatLow = true → e.held = st.dty.held ∧ e.cutoff = false) ∧
    (st.settled .floatHigh = false → st.settled .floatLow = false → e.held = 0 ∧ e.cutoff = true) := by
  intro e
  refine ⟨rfl, rfl, fun high => ?_, fun high low => ?_, fun high low => ?_⟩
  · simp [e, Station.demandFloat, high]
  · simp [e, Station.demandFloat, high, low]
  · simp [e, Station.demandFloat, high, low]

/-- Pruned histories are no part of what the demand is formed from. -/
theorem demand_pruneAll (st : Station) : (∀ w q, st.pruneAll.demandAt w q = st.demandAt w q) ∧
    st.pruneAll.demandFloat = st.demandFloat := by
  have settings (n : PumpNo) : st.pruneAll.pumps[n].settings = st.pumps[n].settings := by rw [pruneAll_pumps]
  have state (n : PumpNo) : st.pruneAll.pumps[n].state = st.pumps[n].state := by rw [pruneAll_pumps]
  have settled (i : Input) : st.pruneAll.settled i = st.settled i := (ControlRun.refl st).pruneAll.settled i
  constructor
  · intro w q
    unfold Station.demandAt Station.anticipates Station.runningFlow Station.npos
    simp only [settings, state, settled, pruneAll_dty]
  · exact demandFloat_congr (fun n => by rw [settings]) settled (pruneAll_dty st)

/-! ### With a demand no pump-down ends (R63) -/

theorem testPumpDown_dty_awake {st : Station} (awake : 1 ≤ st.dty.effective) : st.testPumpDown.dty = st.dty := by
  have demanded : st.pumpDownEnd = false := Bool.eq_false_iff.mpr fun h => by
    obtain ⟨-, -, none_, -⟩ := (pumpDownEnd_iff st).mp h
    omega
  rw [testPumpDown_not demanded]

theorem enter_dty_awake (st : Station) (n : PumpNo) (s : PumpState) (awake : 1 ≤ st.dty.effective) :
    (st.enter n s).dty = st.dty := by
  unfold Station.enter
  dsimp only
  split
  · exact testPumpDown_dty_awake awake
  · exact testPumpDown_dty_awake awake

theorem clearDemand_dty (st : Station) (n : PumpNo) : (st.clearDemand n).dty = st.dty := by
  unfold Station.clearDemand
  dsimp only
  split <;> rfl

theorem enqueue_dty (st : Station) (m : Motor) : (st.enqueue m).dty = st.dty := (dutySide_eq_iff.mp (st.enqueue_dutySide m)).1

theorem stopNow_dty_awake (st : Station) (n : PumpNo) (awake : 1 ≤ st.dty.effective) : (st.stopNow n).dty = st.dty :=
  enter_dty_awake ((st.setPumpRun n false).setDeferred n .none) n .stopping awake

/-- An order leaves a duty record with a demand. -/
theorem order_dty_awake (st : Station) (n : PumpNo) (o : Order) (awake : 1 ≤ st.dty.effective) : (st.order n o).dty = st.dty := by
  have cleared := clearDemand_dty st n
  have stopped : ((st.clearDemand n).stopNow n).dty = st.dty :=
    (stopNow_dty_awake _ n (by rw [cleared]; exact awake)).trans cleared
  have withdrawn : (((st.clearDemand n).withdraw (.pump n)).enter n .ready).dty = st.dty :=
    (enter_dty_awake ((st.clearDemand n).withdraw (.pump n)) n .ready (by rw [← cleared] at awake; exact awake)).trans cleared
  have start : (st.orderStart n).dty = st.dty := by
    unfold Station.orderStart
    split
    · dsimp only
      split
      · rfl
      · exact (enqueue_dty _ _).trans (enter_dty_awake ((st.setPumpDemand n).prune n) n .waiting awake)
    all_goals rfl
  have stop : (st.orderStop n).dty = st.dty := by
    unfold Station.orderStop
    split
    case h_4 => exact withdrawn
    case h_6 =>
      split
      · exact stopped
      · exact cleared
    case h_1 | h_2 | h_3 | h_5 => exact cleared
    all_goals rfl
  have cutoff : (st.orderCutoff n).dty = st.dty := by
    unfold Station.orderCutoff
    split
    case h_4 => exact withdrawn
    case h_6 => exact stopped
    case h_1 | h_2 | h_3 | h_5 => exact cleared
    all_goals rfl
  cases o with
  | start => exact start
  | keep => exact start
  | stop => exact stop
  | withdraw => exact stop
  | cutoffStop => exact cutoff

/-- The sheds and grants of an event leave a duty record with a demand. -/
theorem awake_stcKeeps {d : Duty} (awake : 1 ≤ d.effective) : StcKeeps fun st => st.dty = d where
  stc _ _ h := h
  report a k on _ h := by simpa using h
  shedRake a h := ((dutySide_eq_iff.mp a.shedRake_dutySide).1).trans h
  grantRake a h := ((dutySide_eq_iff.mp a.grantRake_dutySide).1).trans h
  shedPump a n h := by
    have stopped : (a.stopNow n).dty = d := (stopNow_dty_awake a n (by rw [h]; exact awake)).trans h
    refine ((dutySide_eq_iff.mp (Station.reportPump_dutySide _ n)).1).trans ?_
    unfold Station.shedPump
    split
    · dsimp only
      split
      · exact stopped
      · exact stopped
    · exact h
  grantPump a n h := by
    unfold Station.grantPump
    split
    · refine ((dutySide_eq_iff.mp (Station.reportPump_dutySide _ n)).1).trans ?_
      exact (enter_dty_awake _ n .starting (by rw [← h] at awake; exact awake)).trans h
    · exact h

theorem send_dty_awake (st : Station) (orders : Vector (Option Order) 6) (n : PumpNo) (awake : 1 ≤ st.dty.effective) :
    (st.send orders n).dty = st.dty := by
  unfold Station.send
  split
  · rfl
  next o _ =>
    refine (awake_stcKeeps awake).settleStc ?_
    exact ((dutySide_eq_iff.mp (Station.reportPump_dutySide _ n)).1).trans (order_dty_awake st n o awake)

/-- So an evaluation that finds a demand leaves the duty record as it was recorded. -/
theorem evaluate_dty_awake (st : Station) (u : LevelUpdate) (awake : 1 ≤ (st.assigned u).dty.effective) :
    (st.evaluate u).dty = (st.assigned u).dty := by
  have sent (l : List PumpNo) (orders : Vector (Option Order) 6) (t : Station) (ht : 1 ≤ t.dty.effective) :
      (l.foldl (fun s n => s.send orders n) t).dty = t.dty := by
    induction l generalizing t with
    | nil => rfl
    | cons n l ih =>
      have first := send_dty_awake t orders n ht
      rw [List.foldl_cons, ih _ (by rw [first]; exact ht), first]
  rw [evaluate_eq]
  have all := sent (st.assigned u).dty.rotation (st.assigned u).dty.orders (st.assigned u) awake
  refine (awake_stcKeeps awake).settleStc ?_
  exact (testPumpDown_dty_awake (by rw [all]; exact awake)).trans all

/-- Settles O40. -/
theorem demandFollowsLevelsAndFloats : Obligations.DemandFollowsLevelsAndFloats := by
  refine ⟨fun t npos w d six hd passes => moveDemand_spec six hd passes, demandAt_follows, fun st u => ?_, demandFloat_follows⟩
  obtain ⟨at_, float⟩ := demand_pruneAll st
  obtain ⟨l, m, dty⟩ := evaluate_dty st u
  refine ⟨fun n => pruneAll_pumps st n, fun w hw => ?_, fun hw => ?_, evaluate_keepsOuter st u, ?_⟩
  · rw [Station.demand, hw]; exact at_ w u.qIn
  · rw [Station.demand, hw]; exact float
  · refine ⟨?_, ?_, ?_, ?_, ?_, ?_, ?_, fun awake => ?_⟩
    case refine_8 =>
      rw [evaluate_dty_awake st u (by rw [assigned_dty]; exact awake), assigned_dty]
      exact ⟨by simp [awake], rfl⟩
    all_goals rw [dty, assigned_dty]

end Sys2Proof.Machine
end

section
/-! PROOFS. Demand is assigned in rotation order, and a pump takes each order by its state (R67, R71 to R73, R95, R96). -/

namespace Sys2Proof.Machine

/-! ### The first so many of a list (R71, R72) -/

section
variable {α : Type} {l : List α} {p : α → Bool}

/-- Short of the number, every member that could be chosen is chosen. -/
theorem mem_take_filter_short {x : α} {k : Nat} (hx : x ∈ l) (px : p x = true) (short : ((l.filter p).take k).length < k) :
    x ∈ (l.filter p).take k := by
  rw [List.length_take] at short
  rw [List.take_of_length_le (by omega)]
  exact List.mem_filter.mpr ⟨hx, px⟩

variable [DecidableEq α]

/-- What stands before a chosen member and could be chosen is chosen. -/
theorem mem_take_filter_before {x y : α} (k : Nat) (hx : x ∈ l) (px : p x = true) (hy : y ∈ (l.filter p).take k)
    (before : l.idxOf x < l.idxOf y) : x ∈ (l.filter p).take k := by
  induction l generalizing k with
  | nil => cases hx
  | cons a l ih =>
    have other : y ≠ a := by
      rintro rfl
      rw [List.idxOf_cons_self] at before
      exact absurd before (Nat.not_lt_zero _)
    by_cases same : x = a
    · subst same
      rw [List.filter_cons_of_pos px] at hy ⊢
      cases k with
      | zero => cases hy
      | succ k => exact List.mem_cons_self
    · have hx : x ∈ l := (List.mem_cons.mp hx).resolve_left same
      rw [List.idxOf_cons_ne _ (Ne.symm same), List.idxOf_cons_ne _ (Ne.symm other)] at before
      have before : l.idxOf x < l.idxOf y := Nat.lt_of_succ_lt_succ before
      by_cases pa : p a = true
      · rw [List.filter_cons_of_pos pa] at hy ⊢
        cases k with
        | zero => cases hy
        | succ k =>
          have hy : y ∈ (l.filter p).take k := (List.mem_cons.mp hy).resolve_left other
          exact List.mem_cons_of_mem _ (ih k hx hy before)
      · rw [List.filter_cons_of_neg pa] at hy ⊢
        exact ih k hx hy before

end

/-! ### The parts of an assignment -/

theorem inHeldSet_iff (st : Station) (n : PumpNo) : st.inHeldSet n = true ↔ st.pumps[n].settings.installed = true ∧
    (st.pumps[n].state = .starting ∨ st.pumps[n].state = .running ∨ (st.pumps[n].shed = true ∧
      (st.pumps[n].state = .stopping ∨ st.pumps[n].state = .resting ∨ st.pumps[n].state = .waiting))) := by
  unfold Station.inHeldSet PumpRec.keepsPlace
  generalize st.pumps[n] = x
  cases x.state <;> simp [PumpState.inMotion, PumpState.returning]

theorem eligible_iff (st : Station) (n : PumpNo) : st.eligible n = true ↔ st.pumps[n].settings.installed = true ∧
    (st.pumps[n].state = .ready ∨ st.pumps[n].state = .waiting) ∧ st.pumps[n].shed = false ∧
    st.pumps[n].history.length < st.pumps[n].settings.maxStarts := by
  simp only [Station.eligible, PumpRec.startLimited, Bool.and_eq_true, Bool.or_eq_true, beq_iff_eq, Bool.not_eq_true',
    decide_eq_false_iff_not, Nat.not_le, and_assoc]

theorem handRunning_iff (st : Station) (n : PumpNo) : st.handRunning n = true ↔ st.pumps[n].settings.installed = true ∧
    st.pumps[n].state = .hand ∧ st.settled (.runFb n) = true := by
  simp only [Station.handRunning, Bool.and_eq_true, beq_iff_eq, and_assoc]

/-- No eligible pump is a member of the held set. -/
theorem eligible_not_held {st : Station} {n : PumpNo} (free : st.eligible n = true) : st.inHeldSet n ≠ true := by
  rw [eligible_iff] at free
  rw [Ne, inHeldSet_iff]
  obtain ⟨-, state, shed, -⟩ := free
  rintro ⟨-, h | h | ⟨h, -⟩⟩
  · rw [h] at state; simp at state
  · rw [h] at state; simp at state
  · rw [shed] at h; cases h

section
variable {st : Station} {effective : Nat} (safe : st.rotationSafe)

theorem kept_held {n : PumpNo} (h : n ∈ (st.assign effective).kept) : st.inHeldSet n = true :=
  (List.mem_filter.mp (List.mem_of_mem_take h)).2

theorem filled_eligible {n : PumpNo} (h : n ∈ (st.assign effective).filled) : st.eligible n = true :=
  (List.mem_filter.mp (List.mem_of_mem_take h)).2

theorem assign_counts (st : Station) (effective : Nat) : (st.assign effective).kept.length ≤ (st.assign effective).need ∧
    (st.assign effective).kept.length + (st.assign effective).filled.length + (st.assign effective).unmet =
      (st.assign effective).need := by
  have kept : (st.assign effective).kept.length ≤ (st.assign effective).need := List.length_take_le _ _
  have filled : (st.assign effective).filled.length ≤ (st.assign effective).need - (st.assign effective).kept.length :=
    List.length_take_le _ _
  have unmet : (st.assign effective).unmet =
    (st.assign effective).need - (st.assign effective).kept.length - (st.assign effective).filled.length := rfl
  exact ⟨kept, by omega⟩

include safe

theorem held_listed {n : PumpNo} (h : st.inHeldSet n = true) : n ∈ st.dty.rotation :=
  (safe.2 n).mpr ((inHeldSet_iff st n).mp h).1

theorem eligible_listed {n : PumpNo} (h : st.eligible n = true) : n ∈ st.dty.rotation :=
  (safe.2 n).mpr ((eligible_iff st n).mp h).1

theorem held_before {x y : PumpNo} (hx : st.inHeldSet x = true) (hy : y ∈ (st.assign effective).kept)
    (before : st.dty.rotation.idxOf x < st.dty.rotation.idxOf y) : x ∈ (st.assign effective).kept :=
  mem_take_filter_before _ (held_listed safe hx) hx hy before

theorem eligible_before {x y : PumpNo} (hx : st.eligible x = true) (hy : y ∈ (st.assign effective).filled)
    (before : st.dty.rotation.idxOf x < st.dty.rotation.idxOf y) : x ∈ (st.assign effective).filled :=
  mem_take_filter_before _ (eligible_listed safe hx) hx hy before

/-- A member of the held set is passed over only when the need is met. -/
theorem kept_full {x : PumpNo} (hx : st.inHeldSet x = true) (out : x ∉ (st.assign effective).kept) :
    (st.assign effective).kept.length = (st.assign effective).need := by
  obtain ⟨most, -⟩ := assign_counts st effective
  refine Nat.le_antisymm most (Nat.le_of_not_lt fun short => out ?_)
  exact mem_take_filter_short (held_listed safe hx) hx short

/-- With an unmet count every pump of either set is chosen. -/
theorem unmet_chosen (unmet : 0 < (st.assign effective).unmet) {x : PumpNo} (hx : st.inHeldSet x = true ∨ st.eligible x = true) :
    x ∈ (st.assign effective).kept ∨ x ∈ (st.assign effective).filled := by
  obtain ⟨-, counts⟩ := assign_counts st effective
  obtain held | free := hx
  · left
    by_contra out
    have := kept_full safe held out
    omega
  · right
    have short : (st.assign effective).filled.length < (st.assign effective).need - (st.assign effective).kept.length := by omega
    exact mem_take_filter_short (eligible_listed safe free) free short

end

/-! ### The orders (Table 4-5) -/

section
variable (st : Station) (a : Assignment) (cutoff : Bool) (n : PumpNo)

theorem orderFor_uninstalled (h : st.pumps[n].settings.installed = false) : st.orderFor a cutoff n = none := by
  unfold Station.orderFor
  dsimp only
  rw [h]
  rfl

theorem orderFor_kept (installed : st.pumps[n].settings.installed = true) (h : n ∈ a.kept) :
    st.orderFor a cutoff n = some .keep := by
  simp only [Station.orderFor, installed, List.contains_iff_mem, h]
  rfl

theorem orderFor_filled (installed : st.pumps[n].settings.installed = true) (out : n ∉ a.kept) (h : n ∈ a.filled) :
    st.orderFor a cutoff n = if st.pumps[n].state = .ready then some .start else some .keep := by
  simp only [Station.orderFor, installed, List.contains_iff_mem, out, h]
  rfl

/-- A pump outside both parts is stopped in motion, withdrawn on its way back to its motor, and else left alone (R73). -/
theorem orderFor_out (installed : st.pumps[n].settings.installed = true) (out : n ∉ a.kept) (free : n ∉ a.filled) :
    let x := st.pumps[n]
    let withdrawn := x.state = .waiting ∨ (x.shed = true ∧ (cutoff = true ∨ x.state = .stopping ∨ x.state = .resting))
    (x.state.inMotion = true → st.orderFor a cutoff n = (if cutoff then some .cutoffStop else some .stop)) ∧
    (x.state.inMotion = false → withdrawn → st.orderFor a cutoff n = some .withdraw) ∧
    (x.state.inMotion = false → ¬withdrawn → st.orderFor a cutoff n = none) := by
  intro x withdrawn
  have back : (x.keepsPlace || x.state == .waiting || (cutoff && x.shed)) = true ↔ withdrawn := by
    simp only [withdrawn, PumpRec.keepsPlace]
    cases x.state <;> cases x.shed <;> cases cutoff <;> decide
  have rest : st.orderFor a cutoff n = if x.state.inMotion then (if cutoff then some .cutoffStop else some .stop)
      else if x.keepsPlace || x.state == .waiting || (cutoff && x.shed) then some .withdraw else none := by
    simp only [Station.orderFor, installed, List.contains_iff_mem, out, free]
    rfl
  rw [rest]
  refine ⟨fun h => if_pos h, fun h w => ?_, fun h w => ?_⟩
  · rw [if_neg (by simp [h]), if_pos (back.mpr w)]
  · rw [if_neg (by simp [h]), if_neg fun e => w (back.mp e)]

end

end Sys2Proof.Machine
end

section
/-! PROOFS. What an order makes of its pump (Table 6-3, R95, R96), and O41. -/

namespace Sys2Proof.Machine

/-! ### The start queue and the shed list through a move of a pump -/

theorem queued_iff (st : Station) (m : Motor) : st.queued m = true ↔ m ∈ st.stc.queue.map (·.motor) := by
  simp [Station.queued]

theorem resort_motors (st : Station) : (st.resort.stc.queue.map (·.motor)).Perm (st.stc.queue.map (·.motor)) := by
  show ((clearTail (sortQueue _ st.stc.queue)).map (·.motor)).Perm _
  rw [clearTail_motors]
  exact (sortQueue_perm _ _).map _

/-- Pump-down end re-sorts the queue and leaves the shed list and the outputs. -/
theorem testPumpDown_stc (st : Station) : (st.testPumpDown.stc.queue.map (·.motor)).Perm (st.stc.queue.map (·.motor)) ∧
    st.testPumpDown.stc.shedPumps = st.stc.shedPumps ∧ st.testPumpDown.ctu = st.ctu := by
  unfold Station.testPumpDown Station.alternate
  split
  · split
    · exact ⟨resort_motors { st with dty := { st.dty with rotation := rotateOnce st.dty.rotation } }, rfl, rfl⟩
    · exact ⟨resort_motors { st with dty := { st.dty with
        rotation := sortByHours (fun n => st.pumps[n].runTotal) st.dty.rotation } }, rfl, rfl⟩
    · exact ⟨.refl _, rfl, rfl⟩
  · exact ⟨.refl _, rfl, rfl⟩

section
variable (st : Station) (n : PumpNo)

/-- A pump that enters a state keeps its entry, its place on the shed list and its output. -/
theorem enter_stc (s : PumpState) : (∀ m, (st.enter n s).queued m = st.queued m) ∧
    (st.enter n s).stc.shedPumps = st.stc.shedPumps ∧ (st.enter n s).ctu = st.ctu := by
  have moved (t : Station) (p : PumpRec) (stc : t.stc.queue = st.stc.queue ∧ t.stc.shedPumps = st.stc.shedPumps ∧ t.ctu = st.ctu) :
      (∀ m, (t.setPump n p).testPumpDown.queued m = st.queued m) ∧
        (t.setPump n p).testPumpDown.stc.shedPumps = st.stc.shedPumps ∧ (t.setPump n p).testPumpDown.ctu = st.ctu := by
    obtain ⟨queue, shed, ctu⟩ := testPumpDown_stc (t.setPump n p)
    refine ⟨fun m => ?_, shed.trans stc.2.1, ctu.trans stc.2.2⟩
    rw [Bool.eq_iff_iff, queued_iff, queued_iff, queue.mem_iff, ← stc.1]
    rfl
  unfold Station.enter
  dsimp only
  split
  · exact moved st.ring _ ⟨rfl, rfl, rfl⟩
  · exact moved st _ ⟨rfl, rfl, rfl⟩

theorem withdraw_unqueued (m : Motor) : (st.withdraw m).queued m = false := by
  simp [Station.queued, Station.withdraw, Station.dequeue, Station.ring]

theorem enqueue_queued (m : Motor) : (st.enqueue m).queued m = true := by
  unfold Station.enqueue
  split
  next queued => exact queued
  · rw [queued_iff]
    refine (resort_motors { st with stc := { st.stc with queue := st.stc.queue ++ [⟨m, st.uptime, .none⟩] } }).mem_iff.mpr ?_
    simp

theorem clearDemand_ctu : (st.clearDemand n).ctu = st.ctu := by
  unfold Station.clearDemand
  dsimp only
  split <;> rfl

theorem clearDemand_uptime : (st.clearDemand n).uptime = st.uptime := (keeps_clearDemand st n).uptime

/-- A shed mark cleared is reported, and the pump leaves the shed list (R95, R88). -/
theorem clearDemand_shed (h : st.pumps[n].shed = true) : (st.clearDemand n).stc.shedPumps[n] = false := by
  have reported : st.clearDemand n = (st.setPump n { st.pumps[n] with demand := false, shed := false }).reportUnshed n := by
    unfold Station.clearDemand
    dsimp only
    rw [h]
    rfl
  rw [reported]
  simp [Station.reportUnshed, StartControl.unshed, Station.ring]

/-- Stop now (R100). -/
theorem stopNow_pump_eq : (st.stopNow n).pumps = st.pumps.set n ({ st.pumps[n] with deferred := .none }.entered st.uptime .stopping) := by
  have uptime : ((st.setPumpRun n false).setDeferred n .none).uptime = st.uptime := rfl
  rw [Station.stopNow, Station.enter_pumps, uptime]
  simp [Station.setDeferred]

theorem stopNow_stc : (st.stopNow n).stc.shedPumps = st.stc.shedPumps :=
  (enter_stc ((st.setPumpRun n false).setDeferred n .none) n .stopping).2.1

theorem stopNow_pumpRun : (st.stopNow n).ctu.pumpRun[n] = false := by
  rw [Station.stopNow, Station.enter_pumpRun]
  simp

/-- The record of a pump whose record alone was written. -/
theorem pump_of_set {n : PumpNo} {b : Station} {v : Vector PumpRec 6} {p : PumpRec} (h : b.pumps = v.set n p) : b.pumps[n] = p := by
  rw [h]
  exact Vector.getElem_set_self _

/-! ### START and KEEP (R96) -/

theorem orderStart_limited (ready : st.pumps[n].state = .ready)
    (limited : st.pumps[n].settings.maxStarts ≤ (pruned st.uptime st.pumps[n].history).length) :
    st.orderStart n = { st with pumps := st.pumps.set n { st.pumps[n] with
      demand := true, history := pruned st.uptime st.pumps[n].history } } := by
  have marked : (st.setPumpDemand n).prune n = { st with pumps := st.pumps.set n { st.pumps[n] with
      demand := true, history := pruned st.uptime st.pumps[n].history } } := by
    simp [Station.prune, Station.setPumpDemand, Station.setPump, Station.uptime]
  unfold Station.orderStart
  rw [ready]
  dsimp only
  rw [marked]
  refine if_pos ?_
  simpa [PumpRec.startLimited] using limited

theorem orderStart_waits (ready : st.pumps[n].state = .ready)
    (free : (pruned st.uptime st.pumps[n].history).length < st.pumps[n].settings.maxStarts) :
    (st.orderStart n).pumps = st.pumps.set n ({ st.pumps[n] with
      demand := true, history := pruned st.uptime st.pumps[n].history }.entered st.uptime .waiting) ∧
    (st.orderStart n).queued (.pump n) = true := by
  have marked : ((st.setPumpDemand n).prune n).pumps[n] = { st.pumps[n] with
      demand := true, history := pruned st.uptime st.pumps[n].history } := by
    simp [Station.prune, Station.setPumpDemand, Station.uptime]
  have started : st.orderStart n = ((st.setPumpDemand n).prune n).enterWaiting n := by
    unfold Station.orderStart
    rw [ready]
    refine if_neg ?_
    rw [marked]
    simpa [PumpRec.startLimited] using free
  have uptime : ((st.setPumpDemand n).prune n).uptime = st.uptime := rfl
  rw [started]
  refine ⟨?_, enqueue_queued _ _⟩
  rw [Station.enterWaiting, (dutySide_eq_iff.mp (Station.enqueue_dutySide _ _)).2, Station.enter_pumps, marked, uptime]
  simp [Station.prune, Station.setPumpDemand, Station.setPump]

theorem orderStart_back (back : st.pumps[n].state = .waiting ∨ st.pumps[n].state = .stopping ∨ st.pumps[n].state = .resting) :
    st.orderStart n = { st with pumps := st.pumps.set n { st.pumps[n] with demand := true } } := by
  unfold Station.orderStart
  obtain h | h | h := back <;> rw [h] <;> rfl

theorem orderStart_moving (moving : st.pumps[n].state = .starting ∨ st.pumps[n].state = .running) :
    st.orderStart n = { st with pumps := st.pumps.set n { st.pumps[n] with demand := true, deferred := .none } } := by
  have marked : (st.setPumpDemand n).setDeferred n .none =
      { st with pumps := st.pumps.set n { st.pumps[n] with demand := true, deferred := .none } } := by
    simp [Station.setPumpDemand, Station.setDeferred, Station.setPump]
  unfold Station.orderStart
  obtain h | h := moving <;> rw [h] <;> exact marked

/-! ### STOP, WITHDRAW and CUTOFF_STOP -/

variable {o : Order} (off : o = .stop ∨ o = .withdraw ∨ o = .cutoffStop)

include off

theorem order_rests (rests : st.pumps[n].state = .ready ∨ st.pumps[n].state = .stopping ∨ st.pumps[n].state = .resting) :
    st.order n o = st.clearDemand n := by
  obtain rfl | rfl | rfl := off <;> simp only [Station.order, Station.orderStop, Station.orderCutoff] <;>
    obtain h | h | h := rests <;> rw [h]

theorem order_withdrawn (waits : st.pumps[n].state = .waiting) :
    st.order n o = ((st.clearDemand n).withdraw (.pump n)).enter n .ready := by
  obtain rfl | rfl | rfl := off <;> simp only [Station.order, Station.orderStop, Station.orderCutoff] <;> rw [waits]

theorem order_starting (starts : st.pumps[n].state = .starting) :
    st.order n o = (st.clearDemand n).setDeferred n (if o = .cutoffStop then .cutoff else .normal) := by
  obtain rfl | rfl | rfl := off <;> simp only [Station.order, Station.orderStop, Station.orderCutoff] <;> rw [starts] <;> rfl

theorem order_stops (runs : st.pumps[n].state = .running) (now : o = .cutoffStop ∨ st.pumps[n].minRunElapsed = true) :
    st.order n o = (st.clearDemand n).stopNow n := by
  obtain rfl | rfl | rfl := off <;> simp only [Station.order, Station.orderStop, Station.orderCutoff] <;> rw [runs]
  · exact if_pos (now.resolve_left (by decide))
  · exact if_pos (now.resolve_left (by decide))

theorem order_defers (runs : st.pumps[n].state = .running) (later : o ≠ .cutoffStop) (young : st.pumps[n].minRunElapsed = false) :
    st.order n o = (st.clearDemand n).setDeferred n .normal := by
  obtain rfl | rfl | rfl := off
  · simp only [Station.order, Station.orderStop, runs, young]
    rfl
  · simp only [Station.order, Station.orderStop, runs, young]
    rfl
  · exact absurd rfl later

end

/-! ### Table 6-3 -/

/-- Nothing but pump n's record differs among the pumps. -/
def OnlyPump (n : PumpNo) (a b : Station) : Prop := ∀ k, k ≠ n → b.pumps[k] = a.pumps[k]

namespace OnlyPump

variable {n : PumpNo} {a st : Station} (h : OnlyPump n a st)

theorem refl (n : PumpNo) (a : Station) : OnlyPump n a a := fun _ _ => rfl

include h

theorem same {t : Station} (pumps : t.pumps = st.pumps) : OnlyPump n a t := fun k hk => by rw [pumps]; exact h k hk

theorem setPump (p : PumpRec) : OnlyPump n a (st.setPump n p) := fun k hk => (Station.setPump_other _ _ _ _ (Ne.symm hk)).trans (h k hk)

theorem enter (s : PumpState) : OnlyPump n a (st.enter n s) := fun k hk => by
  rw [Station.enter_pumps, set_other _ _ hk]; exact h k hk

theorem clearDemand : OnlyPump n a (st.clearDemand n) := fun k hk => by
  rw [Station.clearDemand_pumps, set_other _ _ hk]; exact h k hk

theorem stopNow : OnlyPump n a (st.stopNow n) := ((h.same (Station.setPumpRun_pumps _ n false)).setPump _).enter _

theorem withdraw (m : Motor) : OnlyPump n a (st.withdraw m) := h.same rfl

theorem enqueue (m : Motor) : OnlyPump n a (st.enqueue m) := h.same (dutySide_eq_iff.mp (st.enqueue_dutySide m)).2

/-- An order reaches its own pump alone. -/
theorem order (o : Order) : OnlyPump n a (st.order n o) := by
  have start : OnlyPump n a (st.orderStart n) := by
    unfold Station.orderStart
    split
    · dsimp only
      split
      · exact (h.setPump _).setPump _
      · exact (((h.setPump _).setPump _).enter _).enqueue _
    case h_2 | h_3 | h_4 => exact h.setPump _
    case h_5 | h_6 => exact (h.setPump _).setPump _
    all_goals exact h
  have stop : OnlyPump n a (st.orderStop n) := by
    unfold Station.orderStop
    split
    case h_4 => exact (h.clearDemand.withdraw _).enter _
    case h_5 => exact h.clearDemand.setPump _
    case h_6 =>
      split
      · exact h.clearDemand.stopNow
      · exact h.clearDemand.setPump _
    case h_1 | h_2 | h_3 => exact h.clearDemand
    all_goals exact h
  have cutoff : OnlyPump n a (st.orderCutoff n) := by
    unfold Station.orderCutoff
    split
    case h_4 => exact (h.clearDemand.withdraw _).enter _
    case h_5 => exact h.clearDemand.setPump _
    case h_6 => exact h.clearDemand.stopNow
    case h_1 | h_2 | h_3 => exact h.clearDemand
    all_goals exact h
  cases o with
  | start => exact start
  | keep => exact start
  | stop => exact stop
  | withdraw => exact stop
  | cutoffStop => exact cutoff

end OnlyPump

/-- A pump out of auto operation takes no order (R95). -/
theorem order_out (st : Station) (n : PumpNo) (o : Order) (out : st.pumps[n].state = .uninstalled ∨ st.pumps[n].state = .off ∨
    st.pumps[n].state = .hand ∨ st.pumps[n].state = .inhibited ∨ st.pumps[n].state = .faulted) : st.order n o = st := by
  cases o <;> simp only [Station.order, Station.orderStart, Station.orderStop, Station.orderCutoff] <;>
    obtain h | h | h | h | h := out <;> rw [h]

/-- START and KEEP by Table 6-3. -/
theorem order_start_follows (st : Station) (n : PumpNo) (o : Order) (on : o = .start ∨ o = .keep) :
    let a := st.pumps[n]
    let young := a.history.dropWhile fun g => decide (g + 36000 < st.uptime)
    let t := st.order n o
    let b := t.pumps[n]
    let entered := fun (p : PumpRec) (x : PumpState) (timer : Option Nat) =>
      { p with state := x, stateChange := st.uptime, timer := timer, minRunElapsed := false }
    (a.state = .ready → a.settings.maxStarts ≤ young.length →
      t = { st with pumps := st.pumps.set n { a with demand := true, history := young } }) ∧
    (a.state = .ready → young.length < a.settings.maxStarts →
      b = entered { a with demand := true, history := young } .waiting none ∧ t.queued (.pump n) = true) ∧
    (a.state = .waiting ∨ a.state = .stopping ∨ a.state = .resting →
      t = { st with pumps := st.pumps.set n { a with demand := true } }) ∧
    (a.state = .starting ∨ a.state = .running →
      t = { st with pumps := st.pumps.set n { a with demand := true, deferred := .none } }) := by
  intro a young t b entered
  have start : t = st.orderStart n := by obtain rfl | rfl := on <;> rfl
  simp only [b, start]
  refine ⟨orderStart_limited st n, fun ready free => ?_, orderStart_back st n, orderStart_moving st n⟩
  obtain ⟨pumps, queued⟩ := orderStart_waits st n ready free
  exact ⟨pump_of_set pumps, queued⟩

/-- STOP, WITHDRAW and CUTOFF_STOP by Table 6-3. -/
theorem order_stop_follows (st : Station) (n : PumpNo) (o : Order) (off : o = .stop ∨ o = .withdraw ∨ o = .cutoffStop) :
    let a := st.pumps[n]
    let t := st.order n o
    let b := t.pumps[n]
    let entered := fun (p : PumpRec) (x : PumpState) (timer : Option Nat) =>
      { p with state := x, stateChange := st.uptime, timer := timer, minRunElapsed := false }
    let cleared := { a with demand := false, shed := false }
    (a.state = .ready ∨ a.state = .stopping ∨ a.state = .resting → b = cleared ∧ t.ctu = st.ctu) ∧
    (a.state = .waiting → b = entered cleared .ready none ∧ t.queued (.pump n) = false) ∧
    (a.state = .starting →
      b = { cleared with deferred := if o = .cutoffStop then .cutoff else .normal } ∧ t.ctu = st.ctu) ∧
    (a.state = .running → o = .cutoffStop ∨ a.minRunElapsed = true →
      b = entered { cleared with deferred := .none } .stopping (some (st.uptime + 10 * a.settings.stopConfirmTime)) ∧
      t.ctu.pumpRun[n] = false) ∧
    (a.state = .running → o ≠ .cutoffStop → a.minRunElapsed = false →
      b = { cleared with deferred := .normal } ∧ t.ctu = st.ctu) ∧
    (a.state.mayBeDemanded = true → a.shed = true → t.stc.shedPumps[n] = false) := by
  intro a t b entered cleared
  have own : (st.clearDemand n).pumps[n] = cleared := by rw [Station.clearDemand_pumps]; exact Vector.getElem_set_self _
  have deferred (d : Deferred) : ((st.clearDemand n).setDeferred n d).pumps[n] = { cleared with deferred := d } := by
    rw [Station.setDeferred, Station.setPump_self, own]
  have uptime := clearDemand_uptime st n
  have ctu := clearDemand_ctu st n
  refine ⟨fun rests => ?_, fun waits => ?_, fun starts => ?_, fun runs now => ?_, fun runs later young => ?_, fun auto shed => ?_⟩
  · simp only [b, t, order_rests st n off rests]
    exact ⟨own, ctu⟩
  · simp only [b, t, order_withdrawn st n off waits]
    refine ⟨?_, ((enter_stc _ n .ready).1 _).trans (withdraw_unqueued _ _)⟩
    refine (pump_of_set (Station.enter_pumps _ n .ready)).trans ?_
    show ((st.clearDemand n).pumps[n]).entered (st.clearDemand n).uptime .ready = _
    rw [own, uptime]; rfl
  · simp only [b, t, order_starting st n off starts]
    exact ⟨deferred _, ctu⟩
  · simp only [b, t, order_stops st n off runs now]
    refine ⟨?_, stopNow_pumpRun _ n⟩
    refine (pump_of_set (stopNow_pump_eq _ n)).trans ?_
    rw [own, uptime]; rfl
  · simp only [b, t, order_defers st n off runs later young]
    exact ⟨deferred _, ctu⟩
  · have off_list := clearDemand_shed st n shed
    simp only [t]
    cases state : st.pumps[n].state with
    | ready => rw [order_rests st n off (.inl state)]; exact off_list
    | stopping => rw [order_rests st n off (.inr (.inl state))]; exact off_list
    | resting => rw [order_rests st n off (.inr (.inr state))]; exact off_list
    | waiting => rw [order_withdrawn st n off state, (enter_stc _ n .ready).2.1]; exact off_list
    | starting => rw [order_starting st n off state]; exact off_list
    | running =>
      by_cases now : o = .cutoffStop ∨ st.pumps[n].minRunElapsed = true
      · rw [order_stops st n off state now, stopNow_stc]; exact off_list
      · rw [not_or, Bool.not_eq_true] at now
        rw [order_defers st n off state now.1 now.2]; exact off_list
    | _ => simp only [a, state] at auto; cases auto

/-! ### The evaluation (R67) -/

theorem evaluate_sends (st : Station) (u : LevelUpdate) :
    let v := st.pruneAll
    let a := v.assign (v.demand u).effective
    let t := st.evaluate u
    let send := fun (x : Station) (n : PumpNo) => match t.dty.orders[n] with
      | none => x
      | some o => x.pumpEvent n fun y => y.order n o
    t.dty.hand = a.hand ∧ t.dty.need = a.need ∧ t.dty.unmet = a.unmet ∧
    (∀ n : PumpNo, t.dty.orders[n] = v.orderFor a (v.demand u).cutoff n) ∧
    ∃ x : Station, x.pumps = v.pumps ∧ x.stc = st.stc ∧ x.rkc = st.rkc ∧ x.ctu.pumpRun = st.ctu.pumpRun ∧
      x.dty.rotation = st.dty.rotation ∧ x.dty.orders = t.dty.orders ∧
      t = ((st.dty.rotation.foldl send x).testPumpDown).settleStc := by
  intro v a t send
  obtain ⟨l, m, dty⟩ := evaluate_dty st u
  have recorded := assigned_dty st u
  obtain ⟨pumps, stc, rkc, run⟩ := assigned_parts st u
  have orders : t.dty.orders = (st.assigned u).dty.orders := by simp only [t, dty]
  have rotation : (st.assigned u).dty.rotation = st.dty.rotation := by rw [recorded]
  have same : send = fun s n => s.send (st.assigned u).dty.orders n := by
    funext s n
    cases h : (st.assigned u).dty.orders[n] with
    | none => simp only [send, orders, Station.send, h]
    | some o => simp only [send, orders, Station.send, h]
  refine ⟨?_, ?_, ?_, fun n => ?_, st.assigned u, pumps, stc, rkc, run, rotation, orders.symm, ?_⟩
  · simp only [t, dty, recorded]; rfl
  · simp only [t, dty, recorded]; rfl
  · simp only [t, dty, recorded]; rfl
  · rw [orders, recorded]
    simp only [Fin.getElem_fin, Vector.getElem_ofFn]
    rfl
  · rw [same, ← rotation]
    exact evaluate_eq st u

/-- Settles O41. -/
theorem assignmentFollowsTheRotation : Obligations.AssignmentFollowsTheRotation := by
  refine ⟨evaluate_sends, fun st n o => ?_, fun st effective cutoff safe => ?_⟩
  · exact ⟨((ControlRun.refl st).order n o).keepsOuter, (OnlyPump.refl n st).order o, order_out st n o,
      order_start_follows st n o, order_stop_follows st n o⟩
  · refine ⟨fun n => ⟨handRunning_iff st n, inHeldSet_iff st n, eligible_iff st n⟩, rfl, rfl, (assign_counts st effective).2,
      fun _ => kept_held, fun _ => filled_eligible, fun _ _ => held_before safe, fun _ _ => eligible_before safe,
      fun ⟨_, held, out⟩ => kept_full safe held out, fun unmet _ => unmet_chosen safe unmet, fun n => ?_⟩
    refine ⟨fun kept => ?_, fun filled => ?_, orderFor_uninstalled st _ cutoff n, orderFor_out st _ cutoff n⟩
    · exact orderFor_kept st _ cutoff n ((inHeldSet_iff st n).mp (kept_held kept)).1 kept
    · have free := filled_eligible filled
      exact orderFor_filled st _ cutoff n ((eligible_iff st n).mp free).1 (fun kept => eligible_not_held free (kept_held kept)) filled

end Sys2Proof.Machine
end

section
/-! PROOFS. A pump at rest through the Start Controller's event: its place in the queue and on the shed list, its history, the joint
condition START_LIMITED (R75, R88, R110, R111). -/

namespace Sys2Proof.Machine

/-! ### The rake -/

/-- What the rake does keeps `P`: its own record, its entry in the queue, its point, what it asks of the drive. -/
structure RakeKeeps (P : Station → Prop) : Prop where
  rkc : ∀ (a : Station) (r : Rake), P a → P { a with rkc := r }
  drive : ∀ (a : Station) (d : Option Dir), P a → P (a.askDrive d)
  ring : ∀ a : Station, P a → P a.ring
  enqueue : ∀ a : Station, P a → P (a.enqueue .rake)
  withdraw : ∀ a : Station, P a → P a.withdrawRake
  jammed : ∀ a : Station, P a → P (a.report Alarm.rakeJammed true)

namespace RakeKeeps

variable {P : Station → Prop} (k : RakeKeeps P) {a : Station} (h : P a)

include k h

theorem rakeEnter (s : RakeState) : P (a.rakeEnter s) := by
  unfold Station.rakeEnter
  dsimp only
  split
  · exact k.drive _ _ (k.rkc _ _ h)
  · exact k.ring _ (k.drive _ _ (k.rkc _ _ h))

theorem rakeIdle : P a.rakeIdle := by
  unfold Station.rakeIdle Station.rakeTestWait
  split
  · exact k.enqueue _ (k.rakeEnter (k.rakeEnter h _) _)
  · exact k.rakeEnter h _

theorem rakeJam (c : JamCause) : P (a.rakeJam c) := k.jammed _ (k.rkc _ _ (k.rakeEnter h _))

theorem rakeAtTop : P a.rakeAtTop := by
  unfold Station.rakeAtTop
  split
  · exact k.rakeIdle (k.rkc _ _ h)
  · exact k.rakeEnter h _

theorem rakeTrip : P a.rakeTrip := by
  unfold Station.rakeTrip
  split
  · exact k.rakeJam h _
  · exact k.rakeEnter (k.rkc _ _ h) _

theorem rakeBegin (limit : Nat) : P (a.rakeBegin limit) := k.rkc _ _ h

theorem rakeDriven : P a.rakeDriven := by
  unfold Station.rakeDriven
  split
  · dsimp only
    split
    · exact k.rakeJam (k.rakeBegin h _) _
    · split
      · exact k.rakeEnter (k.rakeBegin h _) _
      · exact k.rakeBegin h _
  · dsimp only
    split
    · exact k.rakeAtTop (k.rakeBegin h _)
    · split
      · exact k.rakeTrip (k.rakeBegin h _)
      · exact k.rakeBegin h _
  · dsimp only
    split
    · exact k.rakeEnter (k.rakeBegin h _) _
    · exact k.rakeBegin h _
  all_goals exact h

theorem driveReport : P a.driveReport := by
  unfold Station.driveReport
  split
  · exact k.rakeDriven h
  · exact h

/-- A grant to the rake. -/
theorem grantRake : P a.grantRake := by
  unfold Station.grantRake
  split
  · dsimp only
    split
    · exact k.driveReport (k.rakeEnter (k.rkc _ _ h) _)
    · exact k.driveReport (k.rakeEnter (k.rkc _ _ (k.rkc _ _ h)) _)
  · exact h

/-- A shed order to the rake. -/
theorem shedRake : P a.shedRake := by
  unfold Station.shedRake
  split
  · exact k.enqueue _ (k.rakeEnter (k.rkc _ _ h) _)
  · exact k.withdraw _ h

end RakeKeeps

/-! ### The queue and the shed list -/

/-- What the other motors' sheds and grants leave of pump n: its state, its absence from the queue and from the shed list. -/
structure LeavesPump (n : PumpNo) (a b : Station) : Prop where
  state : b.pumps[n].state = a.pumps[n].state
  queue : a.queued (.pump n) = false → b.queued (.pump n) = false
  shed : a.stc.shedPumps[n] = false → b.stc.shedPumps[n] = false

/-- An entry that the queue does not hold is not in a shorter or a reordered one. -/
theorem unqueued_of_mem {a b : Station} {m : Motor} (within : m ∈ b.stc.queue.map (·.motor) → m ∈ a.stc.queue.map (·.motor))
    (h : a.queued m = false) : b.queued m = false := by
  refine Bool.eq_false_iff.mpr fun queued => ?_
  rw [(queued_iff a m).mpr (within ((queued_iff b m).mp queued))] at h
  cases h

namespace LeavesPump

variable {n : PumpNo} {a b c : Station}

theorem refl (n : PumpNo) (a : Station) : LeavesPump n a a := ⟨rfl, id, id⟩

theorem trans (h : LeavesPump n a b) (k : LeavesPump n b c) : LeavesPump n a c :=
  ⟨k.state.trans h.state, k.queue ∘ h.queue, k.shed ∘ h.shed⟩

/-- Marks of the Start Controller that are neither queue nor shed list. -/
theorem of_marks (pumps : b.pumps = a.pumps) (queue : b.stc.queue = a.stc.queue) (shed : b.stc.shedPumps = a.stc.shedPumps) :
    LeavesPump n a b :=
  ⟨by rw [pumps], unqueued_of_mem (by rw [queue]; exact id), by rw [shed]; exact id⟩

theorem report (a : Station) (k : PointNo) (on : Bool) : LeavesPump n a (a.report k on) :=
  .of_marks (by simp) (by simp) (by simp)

theorem reportPump (a : Station) (m : PumpNo) : LeavesPump n a (a.reportPump m) := .of_marks (by simp) (by simp) (by simp)

theorem dequeue (a : Station) (m : Motor) : LeavesPump n a (a.dequeue m) :=
  ⟨rfl, unqueued_of_mem fun h => ((List.filter_sublist (l := a.stc.queue)).map _).subset h, id⟩

theorem hold (a : Station) (r : Hold) : LeavesPump n a (a.hold r) :=
  ⟨rfl, unqueued_of_mem (by rw [Station.hold, holdHead_motors]; exact id), id⟩

theorem unshed (a : Station) (m : Motor) : LeavesPump n a { a with stc := a.stc.unshed m } := by
  cases m with
  | rake => exact .of_marks rfl rfl rfl
  | pump m =>
    refine ⟨rfl, unqueued_of_mem id, fun h => ?_⟩
    show (a.stc.shedPumps.set m false)[n] = false
    by_cases hm : n = m
    · subst hm; simp
    · rw [set_other _ _ hm]; exact h

theorem addShed (a : Station) {m : Motor} (other : m ≠ .pump n) : LeavesPump n a { a with stc := a.stc.addShed m } := by
  cases m with
  | rake => exact .of_marks rfl rfl rfl
  | pump m =>
    refine ⟨rfl, unqueued_of_mem id, fun h => ?_⟩
    show (a.stc.shedPumps.set m true)[n] = false
    rw [set_other _ _ fun e => other (by rw [e])]
    exact h

/-! ### Other pumps -/

section
variable {m : PumpNo} (other : n ≠ m)

include other

theorem setPump (a : Station) (p : PumpRec) : LeavesPump n a (a.setPump m p) :=
  ⟨by rw [Station.setPump_other _ _ _ _ (Ne.symm other)], unqueued_of_mem id, id⟩

theorem enter (a : Station) (s : PumpState) : LeavesPump n a (a.enter m s) := by
  obtain ⟨queued, shed, -⟩ := enter_stc a m s
  exact ⟨by rw [Station.enter_pumps, set_other _ _ other], by rw [queued]; exact id, by rw [shed]; exact id⟩

theorem stopNow (a : Station) : LeavesPump n a (a.stopNow m) := by
  have output : LeavesPump n a (a.setPumpRun m false) := .of_marks rfl rfl rfl
  exact (output.trans (.setPump other _ _)).trans (.enter other _ _)

theorem shedPump (a : Station) : LeavesPump n a (a.shedPump m) := by
  have unshed (t : Station) : LeavesPump n t (t.reportUnshed m) := (LeavesPump.unshed t (.pump m)).trans (.of_marks rfl rfl rfl)
  unfold Station.shedPump
  split
  · dsimp only
    split
    · exact (LeavesPump.stopNow other a).trans (.setPump other _ _)
    · exact (LeavesPump.stopNow other a).trans (unshed _)
  · exact unshed a

theorem grantPump (a : Station) : LeavesPump n a (a.grantPump m) := by
  unfold Station.grantPump
  split
  · have output (t : Station) : LeavesPump n t (t.setPumpRun m true) := .of_marks rfl rfl rfl
    exact ((((LeavesPump.setPump other a _).trans (.setPump other _ _)).trans (output _)).trans (.enter other _ _)).trans (.reportPump _ m)
  · exact .refl n a

end

/-! ### The rake -/

theorem enqueueRake (a : Station) : LeavesPump n a (a.enqueue .rake) := by
  unfold Station.enqueue
  split
  · exact .of_marks rfl rfl rfl
  · refine ⟨rfl, unqueued_of_mem fun h => ?_, id⟩
    have listed := (resort_motors { a with stc := { a.stc with queue := a.stc.queue ++ [⟨.rake, a.uptime, .none⟩] } }).mem_iff.mp h
    simpa using listed

/-- The rake's own moves leave every pump. -/
theorem rakeKeeps (n : PumpNo) (a : Station) : RakeKeeps (LeavesPump n a) where
  rkc _ _ h := h.trans (.of_marks rfl rfl rfl)
  drive _ _ h := h.trans (.of_marks rfl rfl rfl)
  ring _ h := h.trans (.of_marks rfl rfl rfl)
  enqueue t h := h.trans (.enqueueRake t)
  withdraw t h := h.trans ((LeavesPump.dequeue t .rake).trans (.of_marks rfl rfl rfl))
  jammed t h := h.trans (.report t _ _)

end LeavesPump

/-! ### The event -/

/-- A pump at rest is no shed candidate. -/
theorem rest_no_candidate {st : Station} {n : PumpNo} (still : st.pumps[n].state.inMotion = false) :
    ∀ m ∈ st.shedCandidates, m ≠ .pump n := by
  have commits : st.commits n = false := by rw [Station.commits, still, Bool.and_false]
  rintro m hm rfl
  simp only [Station.shedCandidates, List.mem_append, List.mem_map, List.mem_filter] at hm
  obtain (⟨k, ⟨-, hk⟩, e⟩ | hm) | ⟨k, ⟨-, hk⟩, e⟩ := hm
  · cases e; rw [commits] at hk; cases hk
  · split at hm
    · simp at hm
    · cases hm
  · cases e; rw [commits] at hk; cases hk

theorem shedMotor_leaves {n : PumpNo} (a : Station) {m : Motor} (other : m ≠ .pump n) : LeavesPump n a (a.shedMotor m) := by
  have listed := LeavesPump.addShed a other
  cases m with
  | pump m =>
    have apart : n ≠ m := fun e => other (by rw [e])
    exact (listed.trans (.shedPump apart _)).trans (.reportPump _ m)
  | rake => exact (LeavesPump.rakeKeeps n a).shedRake listed

theorem shedPass_leaves {n : PumpNo} {a : Station} (still : a.pumps[n].state.inMotion = false) : LeavesPump n a a.shedPass := by
  have all (l : List Motor) (apart : ∀ m ∈ l, m ≠ .pump n) (t : Station) : LeavesPump n t (l.foldl Station.shedMotor t) := by
    induction l generalizing t with
    | nil => exact .refl n t
    | cons m l ih =>
      exact (shedMotor_leaves t (apart m List.mem_cons_self)).trans (ih (fun k hk => apart k (List.mem_cons_of_mem _ hk)) _)
  have marked : LeavesPump n a (({ a with stc := { a.stc with loadShed := true } }).report Alarm.loadShed true) := by
    refine LeavesPump.trans ?_ (.report _ _ _)
    exact .of_marks rfl rfl rfl
  obtain ⟨rest, candidates, -⟩ := shedChoice_splits a a.shedCandidates a.loadAfterShedding a.committedLoad
  unfold Station.shedPass
  split
  · exact .refl n a
  next m ms chosen =>
    refine marked.trans (all _ (fun k hk => rest_no_candidate still k ?_) _)
    rw [candidates, chosen]
    exact List.mem_append_left _ hk

theorem shedPasses_leaves {n : PumpNo} (k : Nat) {a : Station} (still : a.pumps[n].state.inMotion = false) :
    LeavesPump n a (Station.shedPasses k a) := by
  induction k generalizing a with
  | zero => exact .refl n a
  | succ k ih =>
    unfold Station.shedPasses
    split
    · have pass := shedPass_leaves still
      exact pass.trans (ih (by rw [pass.state]; exact still))
    · exact .refl n a

theorem grant_leaves {n : PumpNo} {a : Station} (rests : a.pumps[n].state.atRest) (m : Motor) : LeavesPump n a (a.grant m) := by
  have delivered {t : Station} (ht : t.pumps[n].state ≠ .waiting) : LeavesPump n t (t.deliverGrant m) := by
    cases m with
    | rake => exact (LeavesPump.rakeKeeps n t).grantRake (.refl n t)
    | pump m =>
      by_cases hm : n = m
      · subst hm
        show LeavesPump n t (t.grantPump n)
        rw [Station.grantPump, if_neg ht]
        exact .refl n t
      · exact .grantPump hm t
  have headed (t : Station) : LeavesPump n t t.holdNewHead := by
    unfold Station.holdNewHead
    split
    · exact .refl n t
    · exact .hold t _
  have taken : LeavesPump n a ({ a.dequeue m with stc := { (a.dequeue m).stc.unshed m with lastGrant := some a.uptime } }).armSpacing :=
    ((LeavesPump.dequeue a m).trans (.unshed _ m)).trans (.of_marks rfl rfl rfl)
  exact (taken.trans (delivered (by rw [taken.state]; exact rests.1))).trans (headed _)

/-- A pump at rest keeps its state, and is neither queued nor shed by the event. -/
theorem settleStc_leaves {n : PumpNo} {a : Station} (rests : a.pumps[n].state.atRest) : LeavesPump n a a.settleStc := by
  have tested {t : Station} (ht : t.pumps[n].state.atRest) : LeavesPump n t t.grantTest := by
    unfold Station.grantTest
    split
    · exact .refl n t
    · split
      · split
        · exact grant_leaves ht _
        · exact .hold t _
      · exact .hold t _
  have shed (t : Station) : LeavesPump n t t.testLoadShed := by
    unfold Station.testLoadShed
    split
    · refine LeavesPump.trans ?_ (.report _ _ _)
      exact .of_marks rfl rfl rfl
    · exact .refl n t
  have judged (t : Station) : LeavesPump n t t.judgeBudget := by
    unfold Station.judgeBudget
    split
    · split
      · exact .refl n t
      · exact .of_marks rfl rfl rfl
    · refine LeavesPump.trans ?_ (.report _ _ _)
      exact .of_marks rfl rfl rfl
  have quiet (t : Station) : LeavesPump n t { t with stc := { t.stc with heard := false } } := .of_marks rfl rfl rfl
  unfold Station.settleStc
  split
  · have passes := shedPasses_leaves 8 rests.2
    exact (((passes.trans (tested (by rw [passes.state]; exact rests))).trans (shed _)).trans (judged _)).trans (quiet _)
  · exact .refl n a

/-! ### History and joint condition -/

/-- The history of pump n keeps its limit, and leaves room for a start while the pump waits (R96, R110). -/
def PumpRec.roomy (p : PumpRec) : Prop :=
  p.history.length ≤ p.settings.maxStarts ∧ (p.state = .waiting → p.history.length < p.settings.maxStarts)

theorem pruned_length (now : Nat) (history : List Nat) : (pruned now history).length ≤ history.length :=
  (List.dropWhile_sublist _).length_le

/-- Sheds do not touch a history, and a grant to a waiting pump finds room in it. -/
theorem settleStc_roomy {st : Station} {n : PumpNo} (h : st.pumps[n].roomy) : st.settleStc.pumps[n].roomy := by
  have other {a b : Station} (same : b.pumpSide n = a.pumpSide n) (ha : a.pumps[n].roomy) : b.pumps[n].roomy := by
    rw [Station.pumpSide, Station.pumpSide, Prod.mk.injEq] at same
    rw [same.1]; exact ha
  refine StcKeeps.settleStc (P := fun a => a.pumps[n].roomy) ⟨fun _ _ h => h, fun a k on _ h => by simpa using h, fun a m h => ?_,
    fun a h => other (a.shedRake_pumpSide n) h, fun a m h => ?_, fun a h => other (a.grantRake_pumpSide n) h⟩ h
  · by_cases hm : n = m
    · subst hm
      rw [Station.reportPump_pumps]
      have stopped : ((a.stopNow n).pumps[n]).roomy := by
        rw [pump_of_set (stopNow_pump_eq a n)]
        exact ⟨h.1, fun e => by cases e⟩
      unfold Station.shedPump
      split
      · dsimp only
        split
        · rw [Station.setPump_self]; exact stopped
        · exact stopped
      · exact h
    · exact other ((Station.reportPump_pumpSide _ _ hm).trans (Station.shedPump_pumpSide _ _ hm)) h
  · by_cases hm : n = m
    · subst hm
      unfold Station.grantPump
      split
      next waits =>
        have room := (pruned_length a.uptime a.pumps[n].history).trans_lt (h.2 waits)
        have started (p : PumpRec) (hp : p.history.length ≤ p.settings.maxStarts) :
            (((((a.prune n).setPump n p).setPumpRun n true).enter n .starting).reportPump n).pumps[n].roomy := by
          have record : (((((a.prune n).setPump n p).setPumpRun n true).enter n .starting).reportPump n).pumps[n] =
              p.entered a.uptime .starting := by simp [Station.setPumpRun, Station.uptime]
          rw [record]
          exact ⟨hp, fun e => by cases e⟩
        refine started _ ?_
        simpa [Station.prune] using room
      · exact h
    · exact other (Station.grantPump_pumpSide _ _ hm) h

/-- START_LIMITED shows its condition. -/
def Station.limitedShown (st : Station) : Prop := st.alt.points[Alarm.startLimited].condition = st.startLimitedCondition

theorem reportPump_limitedShown (st : Station) (n : PumpNo) : (st.reportPump n).limitedShown := joint_condition_judged _

theorem report_limitedShown {st : Station} {k : PointNo} (other : k ≠ Alarm.startLimited) (on : Bool) (h : st.limitedShown) :
    (st.report k on).limitedShown := by
  unfold Station.limitedShown Station.startLimitedCondition
  rw [Station.report_others _ _ other.symm, Station.report_pumps]
  exact h

/-- Judged at the end of each pump's handling, the condition is shown after the event too (R111). -/
theorem settleStc_limited {st : Station} (h : st.limitedShown) : st.settleStc.limitedShown := by
  have rake : RakeKeeps Station.limitedShown :=
    { rkc := fun _ _ h => h
      drive := fun _ _ h => h
      ring := fun _ h => h
      enqueue := fun a h => by
        unfold Station.enqueue
        split <;> exact h
      withdraw := fun _ h => h
      jammed := fun _ h => report_limitedShown (by decide) _ h }
  refine StcKeeps.settleStc ⟨fun _ _ h => h, fun a k on hk h => ?_, fun a m _ => reportPump_limitedShown _ m,
    fun _ => rake.shedRake, fun a m h => ?_, fun _ => rake.grantRake⟩ h
  · refine report_limitedShown ?_ on h
    obtain rfl | rfl := hk <;> decide
  · unfold Station.grantPump
    split
    · exact reportPump_limitedShown _ m
    · exact h

end Sys2Proof.Machine
end

section
/-! PROOFS. A pump record replaced: max_starts applied at once, the pump moved, its place and marks (R58 to R60, R110). -/

namespace Sys2Proof.Machine

/-! ### max_starts applied at once (R58) -/

theorem pruned_pruned (now : Nat) (history : List Nat) : pruned now (pruned now history) = pruned now history :=
  List.dropWhile_idempotent _ _

theorem newest_length (k : Nat) (history : List Nat) : (newest k history).length = min k history.length := by
  simp only [newest, List.length_drop]
  omega

/-- The history of the pump, pruned and shortened to the limit. -/
def PumpRec.shortened (p : PumpRec) (now : Nat) : PumpRec := { p with history := newest p.settings.maxStarts (pruned now p.history) }

theorem shortened_limited (p : PumpRec) (now : Nat) :
    (p.shortened now).startLimited = true ↔ p.settings.maxStarts ≤ (pruned now p.history).length := by
  simp only [PumpRec.startLimited, PumpRec.shortened, newest_length, decide_eq_true_eq]
  omega

section
variable (st : Station) (n : PumpNo)

theorem applyMaxStarts_eq : st.applyMaxStarts n =
    if st.pumps[n].state = .waiting ∧ st.pumps[n].settings.maxStarts ≤ (pruned st.uptime st.pumps[n].history).length then
      ((st.setPump n (st.pumps[n].shortened st.uptime)).withdraw (.pump n)).enter n .ready
    else st.setPump n (st.pumps[n].shortened st.uptime) := by
  have shortened : (st.prune n).setPump n { (st.prune n).pumps[n] with
      history := newest (st.prune n).pumps[n].settings.maxStarts (st.prune n).pumps[n].history } =
        st.setPump n (st.pumps[n].shortened st.uptime) := by
    simp [Station.prune, Station.setPump, PumpRec.shortened]
  unfold Station.applyMaxStarts
  dsimp only
  rw [shortened, Station.setPump_self]
  simp only [shortened_limited]
  rfl

/-- Every pump but a WAITING one that is now start-limited stays where it is. -/
theorem applyMaxStarts_stays (h : st.pumps[n].state ≠ .waiting) :
    st.applyMaxStarts n = st.setPump n (st.pumps[n].shortened st.uptime) := by
  rw [applyMaxStarts_eq, if_neg fun e => h e.1]

/-- That one returns to READY, out of the queue, with its demand. -/
theorem applyMaxStarts_returns (waits : st.pumps[n].state = .waiting)
    (limited : st.pumps[n].settings.maxStarts ≤ (pruned st.uptime st.pumps[n].history).length) :
    (st.applyMaxStarts n).pumps[n] = (st.pumps[n].shortened st.uptime).entered st.uptime .ready ∧
    (st.applyMaxStarts n).queued (.pump n) = false := by
  rw [applyMaxStarts_eq, if_pos ⟨waits, limited⟩]
  refine ⟨?_, ((enter_stc _ n .ready).1 _).trans (withdraw_unqueued _ _)⟩
  refine (pump_of_set (Station.enter_pumps _ n .ready)).trans ?_
  show ((st.setPump n (st.pumps[n].shortened st.uptime)).pumps[n]).entered st.uptime .ready = _
  rw [Station.setPump_self]

theorem applyMaxStarts_roomy : (st.applyMaxStarts n).pumps[n].roomy := by
  have within : (st.pumps[n].shortened st.uptime).history.length ≤ (st.pumps[n].shortened st.uptime).settings.maxStarts := by
    simp only [PumpRec.shortened, newest_length]
    exact Nat.min_le_left _ _
  by_cases h : st.pumps[n].state = .waiting ∧ st.pumps[n].settings.maxStarts ≤ (pruned st.uptime st.pumps[n].history).length
  · rw [(applyMaxStarts_returns st n h.1 h.2).1]
    exact ⟨within, fun e => by cases e⟩
  · rw [applyMaxStarts_eq, if_neg h, Station.setPump_self]
    refine ⟨within, fun waits => ?_⟩
    have free : ¬ st.pumps[n].settings.maxStarts ≤ (pruned st.uptime st.pumps[n].history).length := fun e => h ⟨waits, e⟩
    simp only [PumpRec.shortened, newest_length]
    omega

end

/-! ### The end of an accepted write -/

/-- What follows the new settings: the start limit, word to the Start Controller, the pump's reports, the event (R58, R82, R111). -/
def Station.accepted (st : Station) (n : PumpNo) : Station := (((st.applyMaxStarts n).ring).reportPump n).settleStc

section
variable (st : Station) (n : PumpNo)

theorem accepted_arranged : Arranged st (st.accepted n) :=
  ((((Shifts.refl st).applyMaxStarts n).ring).reportPump n).toArranged.trans (settleStc_arranged _)

theorem accepted_run : ControlRun st (st.accepted n) :=
  (((((ControlRun.refl st).applyMaxStarts n).ring).reportPump n)).settleStc

theorem accepted_limitedShown : (st.accepted n).limitedShown := settleStc_limited (reportPump_limitedShown _ n)

theorem accepted_roomy : (st.accepted n).pumps[n].roomy := by
  refine settleStc_roomy ?_
  rw [Station.reportPump_pumps]
  exact applyMaxStarts_roomy st n

/-- A pump at rest keeps the record that the write left. -/
theorem accepted_rests (rests : (st.applyMaxStarts n).pumps[n].state.atRest) :
    (st.accepted n).pumps[n] = (st.applyMaxStarts n).pumps[n] := by
  have side := settleStc_pumpSide (st := ((st.applyMaxStarts n).ring).reportPump n) (n := n)
    (by rw [Station.reportPump_pumps]; exact rests) (reportPump_faultShown _ n)
  rw [Station.pumpSide, Station.pumpSide, Prod.mk.injEq, Station.reportPump_pumps] at side
  exact side.1

/-- The event leaves it out of the queue and of the shed list. -/
theorem accepted_leaves (rests : (st.applyMaxStarts n).pumps[n].state.atRest) :
    LeavesPump n (st.applyMaxStarts n) (st.accepted n) := by
  have reported : LeavesPump n (st.applyMaxStarts n) (((st.applyMaxStarts n).ring).reportPump n) := by
    refine LeavesPump.trans ?_ (.reportPump _ n)
    exact .of_marks rfl rfl rfl
  exact reported.trans (settleStc_leaves (by rw [Station.reportPump_pumps]; exact rests))

/-- A pump that does not wait has no start in the event. -/
theorem settleStc_history {st : Station} {n : PumpNo} (h : st.pumps[n].state ≠ .waiting) :
    st.settleStc.pumps[n].history = st.pumps[n].history := by
  have other {a b : Station} (same : b.pumpSide n = a.pumpSide n)
      (ha : a.pumps[n].state ≠ .waiting ∧ a.pumps[n].history = st.pumps[n].history) :
      b.pumps[n].state ≠ .waiting ∧ b.pumps[n].history = st.pumps[n].history := by
    rw [Station.pumpSide, Station.pumpSide, Prod.mk.injEq] at same
    rw [same.1]; exact ha
  refine (StcKeeps.settleStc (P := fun a => a.pumps[n].state ≠ .waiting ∧ a.pumps[n].history = st.pumps[n].history)
    ⟨fun _ _ h => h, fun a k on _ h => by simpa using h, fun a m h => ?_, fun a h => other (a.shedRake_pumpSide n) h,
      fun a m h => ?_, fun a h => other (a.grantRake_pumpSide n) h⟩ ⟨h, rfl⟩).2
  · by_cases hm : n = m
    · subst hm
      rw [Station.reportPump_pumps]
      have stopped : (a.stopNow n).pumps[n].state ≠ .waiting ∧ (a.stopNow n).pumps[n].history = st.pumps[n].history := by
        rw [pump_of_set (stopNow_pump_eq a n)]
        exact ⟨fun e => (by cases e), h.2⟩
      unfold Station.shedPump
      split
      · dsimp only
        split
        · rw [Station.setPump_self]; exact stopped
        · exact stopped
      · exact h
    · exact other ((Station.reportPump_pumpSide _ _ hm).trans (Station.shedPump_pumpSide _ _ hm)) h
  · by_cases hm : n = m
    · subst hm
      rw [Station.grantPump, if_neg h.1]
      exact h
    · exact other (Station.grantPump_pumpSide _ _ hm) h

theorem accepted_history (h : st.pumps[n].state ≠ .waiting) :
    (st.accepted n).pumps[n].history = newest st.pumps[n].settings.maxStarts (pruned st.uptime st.pumps[n].history) := by
  have stays := applyMaxStarts_stays st n h
  refine (settleStc_history ?_).trans ?_
  · rw [Station.reportPump_pumps, stays]
    show (st.setPump n _).pumps[n].state ≠ _
    rw [Station.setPump_self]; exact h
  · rw [Station.reportPump_pumps, stays]
    show (st.setPump n _).pumps[n].history = _
    rw [Station.setPump_self]; rfl

/-- With only installed pumps waiting or in motion the duty record stays. -/
theorem accepted_dty (h : st.pumps[n].state ≠ .waiting) (safe : ∀ m : PumpNo, st.pumps[m].settings.installed = true ∨
    st.pumps[m].state ≠ .waiting ∧ st.pumps[m].state.inMotion = false) : (st.accepted n).dty = st.dty := by
  have stays := applyMaxStarts_stays st n h
  have reported : (((st.applyMaxStarts n).ring).reportPump n).dutySide = (st.applyMaxStarts n).dutySide := by simp
  obtain ⟨dty, pumps⟩ := dutySide_eq_iff.mp reported
  refine ((settleStc_dty fun m => ?_).trans dty).trans (by rw [stays]; rfl)
  rw [pumps, stays]
  by_cases hm : n = m
  · subst hm; rw [Station.setPump_self]; exact safe n
  · rw [Station.setPump_other _ _ _ _ hm]; exact safe m

end

/-! ### Pump-down end seen from the other pumps -/

namespace OnlyPump

variable {n : PumpNo} {a st : Station} (h : OnlyPump n a st)

include h

theorem takenOff : OnlyPump n a (st.takenOff n) := by
  have off : OnlyPump n a ((st.withdrawPump n).setPumpRun n false) := h.same (st.withdrawPump_pumps n)
  exact (off.clearDemand.setPump _).setPump _

theorem motorFault : OnlyPump n a (st.motorFault n) := by
  have faulted : st.motorFault n = (st.takenOff n).enterFaulted n .motorFault := rfl
  rw [faulted]
  exact (h.takenOff.enter .faulted).setPump _

theorem enterAuto : OnlyPump n a (st.enterAuto n) := by
  unfold Station.enterAuto
  dsimp only
  split
  · exact (h.enter .ready).motorFault
  · split
    · exact (h.enter .ready).stopNow
    · exact h.enter .ready

end OnlyPump

/-- Whatever pump n does, pump-down end is not reached (R63). -/
def Station.heldApart (n : PumpNo) (st : Station) : Prop :=
  st.dty.altMark = false ∨ st.dty.held ≠ 0 ∨ st.dty.effective ≠ 0 ∨ ∃ k, k ≠ n ∧ st.holdsOff k = true

theorem heldApart_of_not_ended {st : Station} {n : PumpNo} (h : st.pumpDownEnd = false) (free : st.holdsOff n = false) :
    st.heldApart n := by
  by_contra apart
  simp only [Station.heldApart, not_or, not_exists, not_and, Bool.not_eq_false, Bool.not_eq_true, not_not] at apart
  obtain ⟨marked, held, effective, others⟩ := apart
  have none_ : (allPumps.any fun k => st.holdsOff k) = false := by
    simp only [List.any_eq_false, Bool.not_eq_true]
    intro k _
    by_cases hk : k = n
    · rw [hk]; exact free
    · exact others k hk
  simp [Station.pumpDownEnd, marked, held, effective, none_] at h

namespace Station.heldApart

variable {n : PumpNo} {a b : Station}

theorem of_only (h : a.heldApart n) (dty : b.dty = a.dty) (only : OnlyPump n a b) : b.heldApart n := by
  unfold Station.heldApart at h ⊢
  rw [dty]
  refine h.imp_right (Or.imp_right (Or.imp_right ?_))
  rintro ⟨k, hk, holds⟩
  exact ⟨k, hk, by rw [Station.holdsOff, only k hk]; exact holds⟩

theorem not_ended (h : a.heldApart n) : a.testPumpDown = a := by
  refine testPumpDown_not ?_
  obtain h | h | h | ⟨k, -, holds⟩ := h
  · simp [Station.pumpDownEnd, h]
  · simp [Station.pumpDownEnd, h]
  · simp [Station.pumpDownEnd, h]
  · exact pumpDownEnd_heldOff holds

theorem enter_dty (h : a.heldApart n) (s : PumpState) : (a.enter n s).dty = a.dty := by
  have moved (t : Station) (p : PumpRec) (dty : t.dty = a.dty) (pumps : t.pumps = a.pumps) : (t.setPump n p).testPumpDown.dty = a.dty := by
    have only : OnlyPump n a (t.setPump n p) := ((OnlyPump.refl n a).same pumps).setPump p
    rw [(h.of_only (b := t.setPump n p) dty only).not_ended]
    exact dty
  unfold Station.enter
  dsimp only
  split
  · exact moved a.ring _ rfl rfl
  · exact moved a _ rfl rfl

theorem enter (h : a.heldApart n) (s : PumpState) : (a.enter n s).heldApart n :=
  h.of_only (h.enter_dty s) ((OnlyPump.refl n a).enter s)

theorem enterFaulted_dty (h : a.heldApart n) (cause : PumpCause) : (a.enterFaulted n cause).dty = a.dty :=
  Eq.trans (b := (a.enter n .faulted).dty) rfl (h.enter_dty .faulted)

theorem motorFault_dty (h : a.heldApart n) : (a.motorFault n).dty = a.dty := by
  have withdrawn : (a.withdrawPump n).dty = a.dty := by
    unfold Station.withdrawPump
    split <;> rfl
  have dty : (a.takenOff n).dty = a.dty := (clearDemand_dty ((a.withdrawPump n).setPumpRun n false) n).trans withdrawn
  have faulted : a.motorFault n = (a.takenOff n).enterFaulted n .motorFault := rfl
  rw [faulted]
  exact ((h.of_only dty (OnlyPump.refl n a).takenOff).enterFaulted_dty .motorFault).trans dty

theorem stopNow_dty (h : a.heldApart n) : (a.stopNow n).dty = a.dty := by
  have off : OnlyPump n a (a.setPumpRun n false) := (OnlyPump.refl n a).same rfl
  have apart : ((a.setPumpRun n false).setDeferred n .none).heldApart n := h.of_only rfl (off.setPump _)
  exact apart.enter_dty .stopping

/-- An entry into auto operation leaves the duty record. -/
theorem enterAuto_dty (h : a.heldApart n) : (a.enterAuto n).dty = a.dty := by
  have ready := h.enter .ready
  have entered := h.enter_dty .ready
  unfold Station.enterAuto
  dsimp only
  split
  · exact ready.motorFault_dty.trans entered
  · split
    · exact ready.stopNow_dty.trans entered
    · exact entered

end Station.heldApart

end Sys2Proof.Machine
end

section
/-! PROOFS. WRITE PUMP RECORD is judged, then replaces the settings and moves the pump, its place and its marks (R58 to R60). -/

namespace Sys2Proof.Machine

/-! ### What a write without a verdict against it moves -/

/-- The settings replaced, a pump removed or installed by them (R59), before max_starts is applied. -/
def Station.written (st : Station) (n : PumpNo) (c : PumpSettings) : Station :=
  if st.pumps[n].settings.installed && !c.installed then st.uninstall n c
  else if !st.pumps[n].settings.installed && c.installed then st.install n c
  else st.setPump n { st.pumps[n] with settings := c }

/-- The record that a removal leaves. -/
def PumpRec.removed (p : PumpRec) (now : Nat) (c : PumpSettings) : PumpRec :=
  ({ p with demand := false, shed := false, settings := c, cause := none, deferred := .none, runLost := false }).entered now .uninstalled

section
variable (st : Station) (n : PumpNo) {c : PumpSettings}

theorem written_removal (h : st.pumps[n].settings.installed = true) (removed : c.installed = false) :
    st.written n c = st.uninstall n c := by
  rw [Station.written, h, removed]; rfl

theorem written_installation (h : st.pumps[n].settings.installed = false) (added : c.installed = true) :
    st.written n c = st.install n c := by
  rw [Station.written, h, added]; rfl

theorem written_resettled (h : c.installed = st.pumps[n].settings.installed) :
    st.written n c = st.setPump n { st.pumps[n] with settings := c } := by
  rw [Station.written, h, Bool.and_not_self, Bool.not_and_self]; rfl

/-- A removal, an installation, or settings of a pump that stays as it is. -/
theorem written_cases {P : Station → Prop}
    (removal : st.pumps[n].settings.installed = true → c.installed = false → P (st.uninstall n c))
    (installation : st.pumps[n].settings.installed = false → c.installed = true → P (st.install n c))
    (resettled : c.installed = st.pumps[n].settings.installed → P (st.setPump n { st.pumps[n] with settings := c })) :
    P (st.written n c) := by
  cases h : st.pumps[n].settings.installed <;> cases hc : c.installed
  · rw [written_resettled st n (by rw [h, hc])]; exact resettled (by rw [h, hc])
  · rw [written_installation st n h hc]; exact installation h hc
  · rw [written_removal st n h hc]; exact removal h hc
  · rw [written_resettled st n (by rw [h, hc])]; exact resettled (by rw [h, hc])

theorem uninstall_pumps : (st.uninstall n c).pumps = st.pumps.set n (st.pumps[n].removed st.uptime c) := by
  have cleared := st.clearDemand_pumps n
  have uptime : (st.clearDemand n).uptime = st.uptime := ((ControlRun.refl st).clearDemand n).keepsOuter.uptime
  have pumps (t : Station) (p : PumpRec) : ((t.setPump n p).enter n .uninstalled).pumps =
      t.pumps.set n (p.entered t.uptime .uninstalled) := by
    simp [Station.uptime, Station.setPump]
  refine (pumps (st.clearDemand n) _).trans ?_
  rw [uptime, cleared]
  simp [PumpRec.removed]

/-- The station with the new settings and the longer list, from which an installed pump leaves UNINSTALLED. -/
def Station.enlisted (st : Station) (n : PumpNo) (c : PumpSettings) : Station :=
  (st.setPump n { st.pumps[n] with settings := c }).setRotation (st.dty.rotation ++ [n])

theorem install_eq : st.install n c =
    if st.ctu.selectors[n].position = .auto then (st.enlisted n c).enterAuto n
    else (st.enlisted n c).enter n st.ctu.selectors[n].position.manual := by
  have moved : st.install n c = match st.ctu.selectors[n].position with
      | .auto => (st.enlisted n c).enterAuto n
      | .hand => (st.enlisted n c).enter n .hand
      | .off => (st.enlisted n c).enter n .off := rfl
  rw [moved]
  cases st.ctu.selectors[n].position <;> rfl

theorem enlisted_pump : (st.enlisted n c).pumps[n] = { st.pumps[n] with settings := c } := by
  show (st.setPump n _).pumps[n] = _
  rw [Station.setPump_self]

/-- By its selector the pump comes out of UNINSTALLED (R59). -/
theorem install_pump : (st.install n c).pumps[n].state = (match st.ctu.selectors[n].position with
        | .off => .off
        | .hand => .hand
        | .auto => if st.settled (.pumpFault n) then .faulted else if st.settled (.runFb n) then .stopping else .ready) ∧
      (st.install n c).pumps[n].settings = c ∧ (st.install n c).pumps[n].history = st.pumps[n].history := by
  have manual (s : PumpState) : ((st.enlisted n c).enter n s).pumps[n] = { st.pumps[n] with settings := c }.entered st.uptime s := by
    refine (pump_of_set ((st.enlisted n c).enter_pumps n s)).trans ?_
    rw [enlisted_pump]
    rfl
  have auto := (st.enlisted n c).enterAuto_pump n
  dsimp only at auto
  rw [enlisted_pump] at auto
  obtain ⟨state, -, settings, history⟩ := auto
  rw [install_eq]
  cases h : st.ctu.selectors[n].position with
  | auto => exact ⟨state, settings, history⟩
  | hand => rw [if_neg (by decide), manual]; exact ⟨rfl, rfl, rfl⟩
  | off => rw [if_neg (by decide), manual]; exact ⟨rfl, rfl, rfl⟩

theorem install_rests : (st.install n c).pumps[n].state.atRest := by
  rw [(install_pump st n).1]
  split
  · exact ⟨by decide, rfl⟩
  · exact ⟨by decide, rfl⟩
  · split
    · exact ⟨by decide, rfl⟩
    · split <;> exact ⟨by decide, rfl⟩

/-! ### What every such write leaves -/

variable (c)

theorem written_pump : (st.written n c).pumps[n].settings = c ∧ (st.written n c).pumps[n].history = st.pumps[n].history ∧
    (st.pumps[n].state ≠ .waiting → (st.written n c).pumps[n].state ≠ .waiting) := by
  refine written_cases st n (P := fun t => t.pumps[n].settings = c ∧ t.pumps[n].history = st.pumps[n].history ∧
    (st.pumps[n].state ≠ .waiting → t.pumps[n].state ≠ .waiting)) (fun _ _ => ?_) (fun _ _ => ?_) (fun _ => ?_)
  · rw [pump_of_set (uninstall_pumps st n)]
    exact ⟨rfl, rfl, fun _ e => by cases e⟩
  · exact ⟨(install_pump st n).2.1, (install_pump st n).2.2, fun _ => (install_rests st n).1⟩
  · rw [Station.setPump_self]
    exact ⟨rfl, rfl, id⟩

theorem written_rewrites : Rewrites st (st.written n c) :=
  written_cases st n (fun _ removed => uninstall_rewrites st n removed) (fun absent added => install_rewrites st n absent added)
    (fun same => resettle_rewrites st n same)

theorem written_only : OnlyPump n st (st.written n c) := by
  have own {t : Station} {p : PumpRec} (pumps : t.pumps = st.pumps.set n p) : OnlyPump n st t := fun k hk => by
    rw [pumps, set_other _ _ hk]
  refine written_cases st n (fun _ _ => own (uninstall_pumps st n)) (fun _ _ => ?_) (fun _ => own rfl)
  have enlisted : OnlyPump n st (st.enlisted n c) := own rfl
  rw [install_eq]
  split
  · exact enlisted.enterAuto
  · exact enlisted.enter _

variable {c}

/-! ### The duty record -/

theorem npos_of_settings {a b : Station} (h : ∀ m : PumpNo, b.pumps[m].settings = a.pumps[m].settings) : b.npos = a.npos := by
  simp only [Station.npos, h]

/-- The write of a pump record ends with the rotation list, or a reordering of it, that the write made. -/
theorem accepted_duty : ∃ l m, (st.accepted n).dty = { st.dty with rotation := l, altMark := m } ∧ l.Perm st.dty.rotation := by
  obtain ⟨l, m, duty⟩ := (accepted_run st n).duty
  have members := (accepted_arranged st n).members
  rw [duty] at members
  exact ⟨l, m, duty, members⟩

/-- A number taken off the list, the demand held to the pumps that are left (R59). -/
def Station.delisted (st : Station) (n : PumpNo) : Station :=
  let st := st.setRotation (st.dty.rotation.filter (· ≠ n))
  { st with dty := { st.dty with held := min st.dty.held st.npos } }

theorem delisted_dty : (st.delisted n).dty =
    { st.dty with rotation := st.dty.rotation.filter (· ≠ n), held := min st.dty.held (st.delisted n).npos } := rfl

/-- The pump of a removal on its way to UNINSTALLED, before the list is taken in hand. -/
def Station.vacated (st : Station) (n : PumpNo) (c : PumpSettings) : Station :=
  ((st.clearDemand n).setPump n
    { (st.clearDemand n).pumps[n] with settings := c, cause := none, deferred := .none, runLost := false }).enter n .uninstalled

variable (c) in
theorem uninstall_eq : st.uninstall n c = (st.vacated n c).delisted n := rfl

variable (c) in
theorem vacated_dty : ∃ l m, l.Perm st.dty.rotation ∧ (st.heldApart n → l = st.dty.rotation) ∧
    (st.vacated n c).dty = { st.dty with rotation := l, altMark := m } := by
  have cleared := clearDemand_dty st n
  have only : OnlyPump n st (st.clearDemand n) := (OnlyPump.refl n st).clearDemand
  unfold Station.vacated
  generalize { (st.clearDemand n).pumps[n] with settings := c, cause := none, deferred := .none, runLost := false } = p
  generalize st.clearDemand n = t at cleared only
  have same : (t.setPump n p).dty = st.dty := cleared
  have entered := (Shifts.refl (t.setPump n p)).enter n .uninstalled
  obtain ⟨l, m, duty⟩ := ((ControlRun.refl (t.setPump n p)).enter n .uninstalled).duty
  have members := entered.members
  rw [duty, same] at members
  refine ⟨l, m, members, fun apart => ?_, by rw [duty, same]⟩
  have stands := (apart.of_only same (only.setPump p)).enter_dty .uninstalled
  rw [duty] at stands
  exact (congrArg Duty.rotation stands).trans (congrArg Duty.rotation same)

variable (c) in
theorem uninstall_dty : ∃ l m, l.Perm st.dty.rotation ∧ (st.heldApart n → l = st.dty.rotation) ∧
    (st.uninstall n c).dty = { st.dty with
      rotation := l.filter (· ≠ n), altMark := m, held := min st.dty.held (st.uninstall n c).npos } := by
  obtain ⟨l, m, members, apart, duty⟩ := vacated_dty st n c
  refine ⟨l, m, members, apart, ?_⟩
  rw [uninstall_eq, delisted_dty, duty]

theorem install_rotation : (st.install n c).dty.rotation.Perm (st.dty.rotation ++ [n]) ∧
    (st.heldApart n → (st.install n c).dty.rotation = st.dty.rotation ++ [n]) := by
  have apart (h : st.heldApart n) : (st.enlisted n c).heldApart n :=
    h.of_only (b := st.setPump n { st.pumps[n] with settings := c }) rfl ((OnlyPump.refl n st).setPump _)
  rw [install_eq]
  split
  · exact ⟨((Shifts.refl _).enterAuto n).members, fun h => congrArg Duty.rotation (apart h).enterAuto_dty⟩
  · exact ⟨((Shifts.refl _).enter n _).members, fun h => congrArg Duty.rotation ((apart h).enter_dty _)⟩

/-! ### An accepted write -/

section
variable (c)

theorem accepted_outer : KeepsOuter st ((st.written n c).accepted n) := (written_rewrites st n c).outer.trans (accepted_arranged _ n).outer

theorem accepted_settings (m : PumpNo) : ((st.written n c).accepted n).pumps[m].settings = if m = n then c else st.pumps[m].settings := by
  rw [(accepted_arranged _ n).settings]
  split
  next h => rw [h]; exact (written_pump st n c).1
  next h => rw [written_only st n c m h]

theorem accepted_history_length : ((st.written n c).accepted n).pumps[n].history.length ≤ c.maxStarts := by
  have settings := accepted_settings st n c n
  rw [if_pos rfl] at settings
  exact (accepted_roomy (st.written n c) n).1.trans_eq (congrArg PumpSettings.maxStarts settings)

/-- The start history is pruned and shortened. -/
theorem accepted_history_kept (h : st.pumps[n].state ≠ .waiting) : ((st.written n c).accepted n).pumps[n].history =
    newest c.maxStarts (pruned st.uptime st.pumps[n].history) := by
  obtain ⟨settings, history, still⟩ := written_pump st n c
  rw [accepted_history _ n (still h), settings, history, (written_rewrites st n c).outer.uptime]

end

/-- A WAITING pump that is now start-limited returns to READY with its demand kept (R58). -/
theorem accepted_returns (installed : st.pumps[n].settings.installed = true) (stays : c.installed = true)
    (waits : st.pumps[n].state = .waiting) (limited : c.maxStarts ≤ (pruned st.uptime st.pumps[n].history).length) :
    let t := (st.written n c).accepted n
    t.pumps[n].state = .ready ∧ t.pumps[n].demand = st.pumps[n].demand ∧
    t.pumps[n].history = newest c.maxStarts (pruned st.uptime st.pumps[n].history) ∧ t.queued (.pump n) = false := by
  have write := written_resettled st n (c := c) (by rw [installed, stays])
  have record : (st.written n c).pumps[n] = { st.pumps[n] with settings := c } := by rw [write, Station.setPump_self]
  have uptime : (st.written n c).uptime = st.uptime := (written_rewrites st n c).outer.uptime
  obtain ⟨returned, unqueued⟩ := applyMaxStarts_returns (st.written n c) n (by rw [record]; exact waits)
    (by rw [record, uptime]; exact limited)
  have rests : ((st.written n c).applyMaxStarts n).pumps[n].state.atRest := by
    rw [returned]; exact ⟨fun e => (by cases e), rfl⟩
  have leaves := (accepted_leaves _ n rests).queue unqueued
  have stands := accepted_rests _ n rests
  rw [returned, record, uptime] at stands
  dsimp only
  rw [stands]
  exact ⟨rfl, rfl, rfl, leaves⟩

/-- A pump that the write left at rest keeps its record but for the history. -/
theorem accepted_rests_shortened {a : Station} (rests : a.pumps[n].state.atRest) :
    (a.accepted n).pumps[n] = a.pumps[n].shortened a.uptime ∧
    (a.stc.shedPumps[n] = false → (a.accepted n).stc.shedPumps[n] = false) := by
  have stays := applyMaxStarts_stays a n rests.1
  have record : (a.applyMaxStarts n).pumps[n] = a.pumps[n].shortened a.uptime := by rw [stays, Station.setPump_self]
  have still : (a.applyMaxStarts n).pumps[n].state.atRest := by rw [record]; exact rests
  refine ⟨(accepted_rests a n still).trans record, fun h => (accepted_leaves a n still).shed ?_⟩
  rw [stays]
  exact h

/-- With a sound pump record the list is as the write left it. -/
theorem accepted_rotation (rests : (st.written n c).pumps[n].state.atRest) (safe : ∀ m : PumpNo, st.pumps[m].settings.installed = true ∨
    st.pumps[m].state ≠ .waiting ∧ st.pumps[m].state.inMotion = false) :
    ((st.written n c).accepted n).dty = (st.written n c).dty := by
  refine accepted_dty _ n rests.1 fun m => ?_
  by_cases hm : m = n
  · subst hm; exact .inr rests
  · rw [written_only st n c m hm]; exact safe m

/-- A pump removed: its record, its marks, its place in the list (R59). -/
theorem accepted_removal (installed : st.pumps[n].settings.installed = true) (removed : c.installed = false) :
    let t := (st.written n c).accepted n
    t.pumps[n] = (st.pumps[n].removed st.uptime c).shortened st.uptime ∧
    (st.pumps[n].shed = true → t.stc.shedPumps[n] = false) ∧ t.dty.held = min st.dty.held t.npos ∧
    (∀ k, k ∈ t.dty.rotation ↔ k ∈ st.dty.rotation ∧ k ≠ n) ∧
    (st.heldApart n → (∀ m : PumpNo, st.pumps[m].settings.installed = true ∨
        st.pumps[m].state ≠ .waiting ∧ st.pumps[m].state.inMotion = false) →
      t.dty.rotation = st.dty.rotation.filter fun k => k != n) := by
  have write := written_removal st n installed removed
  have record : (st.written n c).pumps[n] = st.pumps[n].removed st.uptime c := by rw [write]; exact pump_of_set (uninstall_pumps st n)
  have uptime : (st.written n c).uptime = st.uptime := (written_rewrites st n c).outer.uptime
  have rests : (st.written n c).pumps[n].state.atRest := by rw [record]; exact ⟨fun e => (by cases e), rfl⟩
  obtain ⟨kept, shed⟩ := accepted_rests_shortened n rests
  obtain ⟨l, m, members, apart, duty⟩ := uninstall_dty st n c
  rw [← write] at duty
  obtain ⟨l', m', duty', members'⟩ := accepted_duty (st.written n c) n
  have npos := npos_of_settings (accepted_arranged (st.written n c) n).settings
  have filtered : l.filter (· ≠ n) = l.filter fun k => k != n :=
    List.filter_congr fun k _ => by rw [Bool.eq_iff_iff, decide_eq_true_eq, bne_iff_ne]
  dsimp only
  refine ⟨by rw [kept, record, uptime], fun marked => shed ?_, ?_, fun k => ?_, fun free safe => ?_⟩
  · have off : (st.written n c).stc.shedPumps = (st.clearDemand n).stc.shedPumps := by
      rw [write]
      exact (enter_stc _ n .uninstalled).2.1
    rw [off]
    exact clearDemand_shed st n marked
  · rw [duty', duty, npos]
  · rw [duty', members'.mem_iff, duty, List.mem_filter, members.mem_iff, decide_eq_true_eq]
  · rw [accepted_rotation st n rests safe, duty, ← apart free]
    exact filtered

/-- A pump installed: its place at the tail of the list, its state by its selector (R59). -/
theorem accepted_installation (absent : st.pumps[n].settings.installed = false) (added : c.installed = true) :
    let t := (st.written n c).accepted n
    (∀ k, k ∈ t.dty.rotation ↔ k ∈ st.dty.rotation ∨ k = n) ∧
    (st.heldApart n → (∀ m : PumpNo, st.pumps[m].settings.installed = true ∨
        st.pumps[m].state ≠ .waiting ∧ st.pumps[m].state.inMotion = false) →
      t.dty.rotation = st.dty.rotation ++ [n]) ∧
    t.pumps[n].state = (match st.ctu.selectors[n].position with
      | .off => .off
      | .hand => .hand
      | .auto => if st.settled (.pumpFault n) then .faulted else if st.settled (.runFb n) then .stopping else .ready) := by
  have write := written_installation st n absent added
  have rests : (st.written n c).pumps[n].state.atRest := by rw [write]; exact install_rests st n
  obtain ⟨kept, -⟩ := accepted_rests_shortened n rests
  obtain ⟨members, apart⟩ := install_rotation st n (c := c)
  dsimp only
  refine ⟨fun k => ?_, fun free safe => ?_, ?_⟩
  · rw [(accepted_arranged (st.written n c) n).members.mem_iff, write, members.mem_iff, List.mem_append, List.mem_singleton]
  · rw [accepted_rotation st n rests safe, write]
    exact apart free
  · rw [kept, write]
    exact (install_pump st n).1

end

end Sys2Proof.Machine
end

section
/-! PROOFS. The verdicts on WRITE PUMP RECORD and the request itself (R58 to R60, Table 4-1). -/

namespace Sys2Proof.Machine

/-! ### The verdicts -/

section
variable (st : Station) (n : PumpNo) {v : List Nat}

/-- A field outside its range (Table 4-1). -/
theorem writePumpRecord_outOfRange {k : Nat} (h : firstFailing (pumpFieldChecks v) = some k) :
    st.writePumpRecord n v = (.final .refusedRange (byte (k - 1)), st) := by
  rw [Station.writePumpRecord, h]

/-- A pump that is not at rest is not removed (R59). -/
theorem writePumpRecord_busy (passed : firstFailing (pumpFieldChecks v) = none) (installed : st.pumps[n].settings.installed = true)
    (removed : (PumpSettings.ofValues v).installed = false) (ready : st.pumps[n].state ≠ .ready) (off : st.pumps[n].state ≠ .off)
    (hand : st.pumps[n].state ≠ .hand) (faulted : st.pumps[n].state ≠ .faulted) : st.writePumpRecord n v = (.state, st) := by
  rw [Station.writePumpRecord, passed]
  simp only [installed, removed, Bool.not_false, Bool.and_self, if_true]
  split
  case h_1 e => exact absurd e ready
  case h_2 e => exact absurd e off
  case h_3 e => exact absurd e hand
  case h_4 e => exact absurd e faulted
  all_goals rfl

/-- The setpoints must allow one pump more (R59). -/
theorem writePumpRecord_unfit {test k : Nat} (passed : firstFailing (pumpFieldChecks v) = none)
    (absent : st.pumps[n].settings.installed = false) (added : (PumpSettings.ofValues v).installed = true)
    (failing : st.dty.setpoints.failing (st.npos + 1) = some (test, k)) :
    st.writePumpRecord n v = (.final .refusedState (byte test ++ byte k), st) := by
  rw [Station.writePumpRecord, passed]
  simp only [absent, added, failing, Bool.false_and, Bool.not_false, Bool.and_self, if_true, Bool.false_eq_true, if_false]

theorem writePumpRecord_accepted (passed : firstFailing (pumpFieldChecks v) = none)
    (free : st.pumps[n].settings.installed = true → (PumpSettings.ofValues v).installed = false →
      st.pumps[n].state = .ready ∨ st.pumps[n].state = .off ∨ st.pumps[n].state = .hand ∨ st.pumps[n].state = .faulted)
    (fit : st.pumps[n].settings.installed = false → (PumpSettings.ofValues v).installed = true →
      st.dty.setpoints.failing (st.npos + 1) = none) :
    st.writePumpRecord n v = (.done [], ((st.written n (PumpSettings.ofValues v)).applyMaxStarts n).ring) := by
  rw [Station.writePumpRecord, passed]
  dsimp only
  cases installed : st.pumps[n].settings.installed <;> cases new : (PumpSettings.ofValues v).installed
  · rw [written_resettled st n (by rw [installed, new])]; rfl
  · rw [written_installation st n installed new, fit installed new]; rfl
  · rw [written_removal st n installed new]
    obtain h | h | h | h := free installed new <;> rw [h] <;> rfl
  · rw [written_resettled st n (by rw [installed, new])]; rfl

theorem writePump_refused {k : Nat} (number : k = n.val + 1) {r : Reply}
    (refused : (st.prune n).writePumpRecord n v = (r, st.prune n)) (verdict : r.status ≠ .done) :
    st.writePump k v = (r, (st.prune n).judgeStartLimited) := by
  rw [Station.writePump, pumpOfNumber_some number]
  dsimp only
  rw [refused, carriedOut, if_neg verdict]

theorem writePump_accepted {k : Nat} (number : k = n.val + 1) {c : PumpSettings}
    (accepted : (st.prune n).writePumpRecord n v = (.done [], (((st.prune n).written n c).applyMaxStarts n).ring)) :
    st.writePump k v = (.done [], ((st.prune n).written n c).accepted n) := by
  rw [Station.writePump, pumpOfNumber_some number]
  dsimp only
  rw [accepted]
  exact if_pos rfl

end

/-! ### The request -/

theorem writePumpRecord_answered {s : State} {p : PortId} {rest ps : List Byte} (h : s.st.admits p .configure (.fixed 13) rest ps) :
    exec (.writePumpRecord p rest) s = .next { s with st := Station.answer p 0x61 ((s.st.rise p (1 + rest.length)).writePump
      (ofBe (ps.take 1)) (readFields PumpSettings.widths (ps.drop 1))) } :=
  State.on_intake_admits (k := ⟨0x61, .configure, .fixed 13⟩)
    (fun ps t => t.writePump (nth (params (1 :: PumpSettings.widths) ps) 0) (params (1 :: PumpSettings.widths) ps).tail) h

/-- A refused write prunes the history of its pump and has START_LIMITED judged, no more (R110, R111). -/
theorem pruned_judged (s : State) (p : PortId) (rest : List Byte) (n : PumpNo) (r : Reply) :
    let x := s.taken p rest 0x61 r
    let t := Station.answer p 0x61 (r, ((s.st.rise p (1 + rest.length)).prune n).judgeStartLimited)
    KeepsControl { x with pumps := s.st.pumps.set n { s.st.pumps[n] with history := pruned s.st.uptime s.st.pumps[n].history } } t ∧
    (∀ q, t.port q = x.port q) ∧ t.alt.points[Alarm.startLimited].condition = t.startLimitedCondition ∧
    ∀ k : PointNo, k ≠ Alarm.startLimited → t.alt.points[k] = s.st.alt.points[k] := by
  have kept : ∀ w : Station, KeepsControl
      { w.putReply p 0x61 r with pumps := w.pumps.set n { w.pumps[n] with history := pruned w.uptime w.pumps[n].history } }
      ((w.prune n).judgeStartLimited.putReply p 0x61 r) ∧ ∀ q, ((w.prune n).judgeStartLimited.putReply p 0x61 r).port q =
        (w.putReply p 0x61 r).port q := by
    intro w
    obtain ⟨t, q, b, shape⟩ := (w.prune n).report_shape Alarm.startLimited (w.prune n).startLimitedCondition
    rw [Station.judgeStartLimited, shape]
    cases p
    · exact ⟨⟨rfl, rfl, rfl, rfl, rfl, rfl, rfl, rfl, rfl, rfl, rfl, rfl, rfl, rfl⟩, fun q => by cases q <;> rfl⟩
    · exact ⟨⟨rfl, rfl, rfl, rfl, rfl, rfl, rfl, rfl, rfl, rfl, rfl, rfl, rfl, rfl⟩, fun q => by cases q <;> rfl⟩
  dsimp only
  have pumps := s.st.rise_pumps p (1 + rest.length)
  obtain ⟨control, ports⟩ := kept (s.st.rise p (1 + rest.length))
  refine ⟨?_, ports, ?_, ?_⟩
  · simp only [Station.uptime, Station.rise_pumps, Station.rise_clock] at control
    exact control
  · rw [Station.answer, startLimitedCondition_putReply, Station.putReply_alt]
    exact joint_condition_judged _
  · intro k hk
    rw [Station.answer, Station.putReply_alt]
    exact (Station.report_others _ _ hk).trans (by rw [Station.prune_alt, Station.rise_alt])

/-- A pump that may be removed, or that is not there, does not hold off pump-down end (R63). -/
theorem holdsOff_false {st : Station} {n : PumpNo} (h : st.pumps[n].settings.installed = false ∨ st.pumps[n].state = .ready ∨
    st.pumps[n].state = .off ∨ st.pumps[n].state = .hand ∨ st.pumps[n].state = .faulted) : st.holdsOff n = false := by
  rw [Station.holdsOff]
  obtain h | h | h | h | h := h
  · rw [h, Bool.false_and]
  all_goals rw [h]; exact Bool.and_false _

/-- The station that the write is judged on: that of the request, the history of the named pump pruned. -/
theorem pruned_at_request (st : Station) (p : PortId) (k : Nat) (n : PumpNo) :
    let u := (st.rise p k).prune n
    u.pumps[n] = { st.pumps[n] with history := pruned st.uptime st.pumps[n].history } ∧ OnlyPump n st u ∧
    u.dty = st.dty ∧ u.npos = st.npos ∧ u.uptime = st.uptime ∧ u.ctu = st.ctu ∧ KeepsOuter (st.rise p k) u := by
  intro u
  have pumps : u.pumps = st.pumps.set n { st.pumps[n] with history := pruned st.uptime st.pumps[n].history } := by
    simp only [u, Station.prune_pumps, Station.rise_pumps, Station.uptime, Station.rise_clock]
  have own := pump_of_set pumps
  have only : OnlyPump n st u := fun k hk => by rw [pumps, set_other _ _ hk]
  refine ⟨own, only, by simp [u], npos_of_settings fun m => ?_, by simp [u, Station.uptime], by simp [u], keeps_setPump _ n _⟩
  by_cases hm : m = n
  · subst hm; rw [own]
  · rw [only m hm]

section
variable (st : Station) (p : PortId) (code : Byte) (r : Reply)

theorem npos_putReply : (st.putReply p code r).npos = st.npos := npos_of_settings fun m => by rw [Station.putReply_pumps]

theorem queued_putReply (m : Motor) : (st.putReply p code r).queued m = st.queued m := by
  cases p <;> rfl

end

/-- Settles O38: the verdicts in their order, then what each kind of accepted write leaves. -/
theorem pumpRecordIsJudgedThenReplaced : Obligations.PumpRecordIsJudgedThenReplaced := by
  intro s p rest ps h number v c
  have handled : exec (.writePumpRecord p rest) s =
      .next { s with st := Station.answer p 0x61 ((s.st.rise p (1 + rest.length)).writePump number v) } := writePumpRecord_answered h
  refine ⟨fun bad => ?_, ?_⟩
  · rw [handled, Station.writePump, pumpOfNumber_none bad]
    rfl
  intro n hn a young refused
  have refuse {r : Reply} (verdict : ((s.st.rise p (1 + rest.length)).prune n).writePumpRecord n v =
      (r, (s.st.rise p (1 + rest.length)).prune n)) (final : r.status ≠ .done) : refused r := by
    rw [writePump_refused _ n hn verdict final] at handled
    exact ⟨_, handled, rfl, pruned_judged s p rest n r⟩
  obtain ⟨own, only, dty, npos, uptime, ctu, outer⟩ := pruned_at_request s.st p (1 + rest.length) n
  have accepted := writePumpRecord_accepted ((s.st.rise p (1 + rest.length)).prune n) n (v := v)
  have done {c : PumpSettings} := writePump_accepted (s.st.rise p (1 + rest.length)) n (v := v) (c := c) hn
  generalize (s.st.rise p (1 + rest.length)).prune n = u at refuse own only dty npos uptime ctu outer accepted done
  refine ⟨fun k failing => ?_, fun passed => ⟨fun installed removed ready off hand faulted => ?_,
    fun test k absent added failing => ?_, fun free fit => ?_⟩⟩
  · exact refuse (writePumpRecord_outOfRange u n failing) fun e => by cases e
  · refine refuse (writePumpRecord_busy u n passed ?_ removed ?_ ?_ ?_ ?_) (by decide) <;> rw [own] <;> assumption
  · exact refuse (writePumpRecord_unfit u n passed (by rw [own]; exact absent) added (by rw [dty, npos]; exact failing)) fun e => by cases e
  have write : (s.st.rise p (1 + rest.length)).writePump number v = (.done [], (u.written n c).accepted n) :=
    done (accepted passed (by rw [own]; exact free) (by rw [own, dty, npos]; exact fit))
  have again : pruned u.uptime u.pumps[n].history = young := by rw [own, uptime]; exact pruned_pruned _ _
  have settings := accepted_settings u n c
  have apart (ended : s.st.pumpDownEnd = false) (holds : s.st.holdsOff n = false) : u.heldApart n :=
    (heldApart_of_not_ended ended holds).of_only dty only
  have sound (safe : s.st.pumpsSafe) (m : PumpNo) : u.pumps[m].settings.installed = true ∨
      u.pumps[m].state ≠ .waiting ∧ u.pumps[m].state.inMotion = false := by
    by_cases hm : m = n
    · subst hm; rw [own]; exact pumpsSafe_installed safe m
    · rw [only m hm]; exact pumpsSafe_installed safe m
  have answered (t : Station) : Station.answer p 0x61 (.done [], t) = t.putReply p 0x61 (.done []) := rfl
  rw [write, answered] at handled
  have reply := (outer.trans (accepted_outer u n c)).putReply p 0x61 (.done [])
  have limited := accepted_limitedShown (u.written n c) n
  have length := accepted_history_length u n c
  refine ⟨_, handled, rfl, reply, ?_⟩
  dsimp only
  rw [startLimitedCondition_putReply, Station.putReply_alt, Station.putReply_pumps, Station.putReply_dty,
    Station.putReply_stc]
  refine ⟨(settings n).trans (if_pos rfl), accepted_limitedShown _ n, accepted_history_length u n c, fun still => ?_,
    fun installed stays waits limited => ?_, fun k hk => ?_, fun installed removed => ?_, fun absent added => ?_⟩
  · rw [accepted_history_kept u n c (by rw [own]; exact still), again]
    rfl
  · obtain ⟨state, demand, history, unqueued⟩ := accepted_returns u n (c := c) (by rw [own]; exact installed) stays
      (by rw [own]; exact waits) (by rw [again]; exact limited)
    rw [own] at demand
    rw [again] at history
    exact ⟨state, demand, history, (queued_putReply ..).trans unqueued⟩
  · rw [settings, if_neg hk, only k hk]
  · obtain ⟨record, shed, held, members, rotation⟩ := accepted_removal u n (c := c) (by rw [own]; exact installed) removed
    rw [own] at record shed
    rw [dty] at held members rotation
    rw [record, npos_putReply]
    refine ⟨rfl, rfl, rfl, rfl, rfl, shed, rfl, rfl, rfl, held, members, fun ended safe => rotation (apart ended ?_) (sound safe)⟩
    exact holdsOff_false (.inr (free installed removed))
  · obtain ⟨members, rotation, state⟩ := accepted_installation u n (c := c) (by rw [own]; exact absent) added
    rw [dty] at members rotation
    simp only [Station.settled, ctu] at state
    exact ⟨members, fun ended safe => rotation (apart ended (holdsOff_false (.inl absent))) (sound safe), state⟩

end Sys2Proof.Machine
end

section
/-! PROOFS. WRITE STATION CONSTANTS: the 58 tests in order, and what the owners make of accepted constants (R80, R82, R86, R158, R182). -/

namespace Sys2Proof.Machine

/-! ### The first failing test -/

theorem firstFailing_none_iff (l : List Bool) : firstFailing l = none ↔ l.all id = true := by
  simp [firstFailing]

theorem firstFailing_some {l : List Bool} {k : Nat} (h : firstFailing l = some k) :
    1 ≤ k ∧ k ≤ l.length ∧ l[k - 1]? = some false ∧ ∀ j, j + 1 < k → l[j]? = some true := by
  obtain ⟨i, found, rfl⟩ := Option.map_eq_some_iff.mp h
  obtain ⟨bound, fails, before⟩ := List.findIdx?_eq_some_iff_getElem.mp found
  refine ⟨by omega, bound, ?_, fun j hj => ?_⟩
  · rw [Nat.add_sub_cancel, List.getElem?_eq_getElem bound]
    simpa using fails
  · rw [List.getElem?_eq_getElem (by omega)]
    simpa using before j (by omega)

theorem Constants.checks_length (c : Constants) : c.checks.length = 58 := by simp [Constants.checks]

/-! ### The owners -/

theorem stcConstants_settings (st : Station) (old : Constants) (n : PumpNo) :
    (st.stcConstants old).pumps[n].settings = st.pumps[n].settings := by
  refine ((settleStc_arranged _).settings n).trans ?_
  split <;> split <;> split <;> rfl

theorem rakeConstants_settings (st : Station) (old : Constants) (n : PumpNo) :
    (st.rakeConstants old).pumps[n].settings = st.pumps[n].settings := by
  unfold Station.rakeConstants
  split
  · rfl
  · exact ((settleStc_arranged _).settings n).trans ((Shifts.refl st).rearmInterval.settings n)

theorem beaconJudged_iff (points : Vector PointRec 32) (priorities : Vector Nat 32) :
    beaconJudged points priorities = true ↔ ∃ j : PointNo, points[j].state = .activeUnack ∧ priorities[j] = 1 := by
  simp only [beaconJudged, List.any_eq_true, Bool.and_eq_true, beq_iff_eq]
  exact exists_congr fun j => ⟨And.right, fun h => ⟨List.mem_finRange j, h⟩⟩

theorem writeConstants_refused (st : Station) {c : Constants} {k : Nat} (failing : firstFailing c.checks = some k) :
    st.writeConstants c = (.final .refusedRange (byte k), st) := by
  rw [Station.writeConstants, failing]

/-- The station once the owners have taken the constants `c`. -/
def Station.constantsTaken (st : Station) (c : Constants) : Station :=
  ((({ st with consts := c }).stcConstants st.consts).rakeConstants st.consts).judgeBeacon

theorem writeConstants_accepted (st : Station) {c : Constants} (passed : firstFailing c.checks = none) :
    st.writeConstants c = (.done [], st.constantsTaken c) := by
  rw [Station.writeConstants, passed]
  rfl

/-- But for the constants the owners leave every record outside their own as it was. -/
theorem constantsTaken_outer (st : Station) (c : Constants) : KeepsOuter { st with consts := c } (st.constantsTaken c) :=
  (((ControlRun.refl _).stcConstants _).rakeConstants _).keepsOuter.trans (keeps_judgeBeacon _)

theorem constantsTaken_settings (st : Station) (c : Constants) (n : PumpNo) :
    (st.constantsTaken c).pumps[n].settings = st.pumps[n].settings :=
  (rakeConstants_settings _ _ n).trans (stcConstants_settings _ _ n)

theorem constantsTaken_beacon (st : Station) (c : Constants) :
    (st.constantsTaken c).alt.beaconDemand = true ↔
      ∃ j : PointNo, (st.constantsTaken c).alt.points[j].state = .activeUnack ∧ c.priorities[j] = 1 := by
  have consts : (st.constantsTaken c).consts = c := (constantsTaken_outer st c).consts
  refine Iff.trans ?_ (beaconJudged_iff _ _)
  rw [← congrArg Constants.priorities consts]
  exact Iff.rfl

theorem constantsTaken_keepsLoads (st : Station) {c : Constants} (passed : firstFailing c.checks = none) :
    KeepsLoads st (st.constantsTaken c) := by
  have kept := writeConstants_keepsLoads st c
  rwa [writeConstants_accepted st passed] at kept

/-! ### The request -/

theorem exec_writeStationConstants {s : State} {p : PortId} {rest ps : List Byte}
    (h : s.st.admits p .configure (.fixed 74) rest ps) : exec (.writeStationConstants p rest) s = .next { s with
      st := Station.answer p 0x63 ((s.st.rise p (1 + rest.length)).writeConstants
        (Constants.ofValues (readFields Constants.widths ps))) } :=
  State.on_intake_admits (k := ⟨0x63, .configure, .fixed 74⟩)
    (fun ps t => t.writeConstants (Constants.ofValues (params Constants.widths ps))) h

/-- Settles O54. -/
theorem constantsAreJudgedThenTaken : Obligations.ConstantsAreJudgedThenTaken := by
  refine ⟨fun c => ⟨c.checks_length, firstFailing_none_iff _, fun k failing => ?_⟩, fun s p rest ps admitted => ?_⟩
  · obtain ⟨first, last, fails, before⟩ := firstFailing_some failing
    exact ⟨first, c.checks_length ▸ last, fails, before⟩
  intro c
  have handled := exec_writeStationConstants admitted
  refine ⟨fun k failing => ?_, fun passed => ?_⟩
  · rw [handled, writeConstants_refused _ failing]
    rfl
  rw [writeConstants_accepted _ passed, Station.answer] at handled
  have outer := constantsTaken_outer (s.st.rise p (1 + rest.length)) c
  have settings := constantsTaken_settings (s.st.rise p (1 + rest.length)) c
  have beacon := constantsTaken_beacon (s.st.rise p (1 + rest.length)) c
  have loads : KeepsLoads s.st (((s.st.rise p (1 + rest.length)).constantsTaken c).putReply p 0x63 (.done [])) :=
    ((KeepsLoads.refl s.st).setPort ((s.st.port p).rise (1 + rest.length)) p |>.trans
    (constantsTaken_keepsLoads _ passed)).side (Station.putReply_loadSide _ p 0x63 (.done []))
  generalize (s.st.rise p (1 + rest.length)).constantsTaken c = t at handled outer settings beacon loads
  refine ⟨_, handled, rfl, ?_⟩
  refine ⟨?_, putReply_slot .., ?_, ?_, ?_, ?_, ?_, ?_, fun i => ?_, ?_, ?_, loads.table, fun safe => (loads.load safe).2.1,
    fun n => ?_⟩
  · simpa using outer.consts
  · simpa using outer.clock
  · simpa using outer.lve
  · simpa using outer.crv
  · simpa using outer.ofm
  · simpa using outer.trb
  · simpa using outer.sst
  · simpa using outer.inputs i
  · simpa using outer.selectors
  · simpa using beacon
  · simpa using settings n

end Sys2Proof.Machine
end

section
/-! PROOFS. The start queue: its fixed order through re-sorts and additions, and a withdrawal (R76 to R78). -/

namespace Sys2Proof.Machine

/-! ### Sorting by the key -/

/-- Sorted by the key: no entry stands in front of one of a lower key. -/
def QueueSorted (key : Motor → Nat) (q : List QEntry) : Prop := q.Pairwise fun a b => key a.motor ≤ key b.motor

theorem insertEntry_sorted (key : Motor → Nat) (e : QEntry) {q : List QEntry} (h : QueueSorted key q) :
    QueueSorted key (insertEntry key e q) := by
  induction q with
  | nil => exact List.pairwise_singleton _ _
  | cons x xs ih =>
    obtain ⟨least, rest⟩ := List.pairwise_cons.mp h
    unfold insertEntry
    split
    next lower =>
      refine List.pairwise_cons.mpr ⟨fun y hy => ?_, h⟩
      obtain rfl | hy := List.mem_cons.mp hy
      · exact lower.le
      · exact lower.le.trans (least y hy)
    next higher =>
      refine List.pairwise_cons.mpr ⟨fun y hy => ?_, ih rest⟩
      obtain rfl | hy := List.mem_cons.mp ((insertEntry_perm key e xs).mem_iff.mp hy)
      · exact Nat.le_of_not_lt higher
      · exact least y hy

theorem sortQueue_sorted (key : Motor → Nat) (q : List QEntry) : QueueSorted key (sortQueue key q) := by
  induction q with
  | nil => exact List.Pairwise.nil
  | cons e es ih => exact insertEntry_sorted key e ih

/-- A queue whose keys rise strictly is in its order already. -/
theorem sortQueue_fixed {key : Motor → Nat} {q : List QEntry} (h : q.Pairwise fun a b => key a.motor < key b.motor) :
    sortQueue key q = q := by
  induction q with
  | nil => rfl
  | cons e es ih =>
    obtain ⟨least, rest⟩ := List.pairwise_cons.mp h
    rw [sortQueue, ih rest]
    cases es with
    | nil => rfl
    | cons x xs => exact if_pos (least x List.mem_cons_self)

theorem clearTail_fixed {q : List QEntry} (h : ∀ e ∈ q.tail, e.hold = .none) : clearTail q = q := by
  cases q with
  | nil => rfl
  | cons e es =>
    refine congrArg (e :: ·) ((List.map_congr_left fun x hx => ?_).trans (List.map_id es))
    rw [← h x hx]
    rfl

theorem clearTail_names (q : List QEntry) :
    (clearTail q).map (fun e => (e.motor, e.enqueued)) = q.map fun e => (e.motor, e.enqueued) := by
  cases q with
  | nil => rfl
  | cons e es => simp [clearTail]

theorem clearTail_head (q : List QEntry) : (clearTail q).head? = q.head? := by cases q <;> rfl

/-- An entry without a hold reason is not touched. -/
theorem mem_clearTail {q : List QEntry} {e : QEntry} (h : e ∈ q) (free : e.hold = .none) : e ∈ clearTail q := by
  cases q with
  | nil => exact h
  | cons x xs =>
    obtain rfl | later := List.mem_cons.mp h
    · exact List.mem_cons_self
    · refine List.mem_cons_of_mem _ (List.mem_map.mpr ⟨e, later, ?_⟩)
      rw [← free]

/-! ### The order of R76 -/

/-- The first motor may stand in front of the second: pumps by their place in the rotation list, the RAKE in front of them while the
screen is blinded and behind them otherwise. -/
def mayPrecede (rotation : List PumpNo) (blinded : Bool) : Motor → Motor → Prop := fun a b =>
  match a, b with
  | .pump x, .pump y => rotation.idxOf x ≤ rotation.idxOf y
  | .rake, .pump _ => blinded = true
  | .pump _, .rake => blinded = false
  | .rake, .rake => True

/-- The order in force. -/
abbrev Station.before (st : Station) : Motor → Motor → Prop := mayPrecede st.dty.rotation st.rkc.blinded

section

variable {st : Station} (short : st.dty.rotation.length ≤ 6)

include short

theorem mayPrecede_of_key {a b : Motor}
    (h : queueKey st.dty.rotation st.rkc.blinded a ≤ queueKey st.dty.rotation st.rkc.blinded b) : st.before a b := by
  have place (n : PumpNo) : st.dty.rotation.idxOf n ≤ 6 := List.idxOf_le_length.trans short
  cases a with
  | pump x =>
    cases b with
    | pump y => exact Nat.le_of_add_le_add_left h
    | rake =>
      cases hb : st.rkc.blinded with
      | false => exact hb
      | true => simp [queueKey, hb] at h
  | rake =>
    cases b with
    | pump y =>
      cases hb : st.rkc.blinded with
      | true => exact hb
      | false =>
        have := place y
        simp only [queueKey, hb, Bool.false_eq_true, if_false] at h
        omega
    | rake => trivial

/-- Of two distinct motors, pumps of the rotation list, the one that may stand in front has the lower key. -/
theorem key_lt_of_mayPrecede {a b : Motor} (h : st.before a b) (distinct : a ≠ b)
    (listed : ∀ n, a = .pump n → n ∈ st.dty.rotation) :
    queueKey st.dty.rotation st.rkc.blinded a < queueKey st.dty.rotation st.rkc.blinded b := by
  have place (n : PumpNo) : st.dty.rotation.idxOf n ≤ 6 := List.idxOf_le_length.trans short
  cases a with
  | pump x =>
    cases b with
    | pump y =>
      have apart : st.dty.rotation.idxOf x ≠ st.dty.rotation.idxOf y := fun e =>
        distinct (congrArg Motor.pump ((List.idxOf_inj (listed x rfl)).mp e))
      exact Nat.add_lt_add_left (Nat.lt_of_le_of_ne h apart) 1
    | rake =>
      have clear : st.rkc.blinded = false := h
      have := place x
      simp only [queueKey, clear, Bool.false_eq_true, if_false]
      omega
  | rake =>
    cases b with
    | pump y =>
      have blinded : st.rkc.blinded = true := h
      simp only [queueKey, blinded, if_true]
      omega
    | rake => exact absurd rfl distinct

/-- A re-sort puts the queue in its order. -/
theorem resort_ordered : (st.resort.stc.queue.map (·.motor)).Pairwise st.before := by
  rw [Station.resort_stc, clearTail_motors, List.pairwise_map]
  exact (sortQueue_sorted _ _).imp fun h => mayPrecede_of_key short h

/-- A queue in its order stays as it is. -/
theorem resort_fixed (nodup : (st.stc.queue.map (·.motor)).Nodup)
    (listed : ∀ n, .pump n ∈ st.stc.queue.map (·.motor) → n ∈ st.dty.rotation)
    (ordered : (st.stc.queue.map (·.motor)).Pairwise st.before) (free : ∀ e ∈ st.stc.queue.tail, e.hold = .none) :
    st.resort.stc.queue = st.stc.queue := by
  have rising : (st.stc.queue.map (·.motor)).Pairwise fun a b =>
      queueKey st.dty.rotation st.rkc.blinded a < queueKey st.dty.rotation st.rkc.blinded b := by
    refine List.Pairwise.imp_of_mem (fun {a b} ha _ h => ?_) (ordered.and nodup)
    exact key_lt_of_mayPrecede short h.1 h.2 fun n hn => listed n (hn ▸ ha)
  rw [List.pairwise_map] at rising
  rw [Station.resort_stc]
  show clearTail (sortQueue _ _) = _
  rw [sortQueue_fixed rising, clearTail_fixed free]

end

/-- A re-sort moves entries and clears hold reasons behind the head (R76). -/
theorem resort_names (st : Station) :
    (st.resort.stc.queue.map fun e => (e.motor, e.enqueued)).Perm (st.stc.queue.map fun e => (e.motor, e.enqueued)) := by
  rw [Station.resort_stc, clearTail_names]
  exact (sortQueue_perm _ _).map _

theorem resort_head (st : Station) : ∀ e ∈ st.resort.stc.queue.head?, e ∈ st.stc.queue := by
  intro e he
  rw [Station.resort_stc, clearTail_head] at he
  exact (sortQueue_perm _ _).mem_iff.mp (List.mem_of_head? he)

/-- The queue with a new entry at its end, before the re-sort. -/
def Station.withEntry (st : Station) (m : Motor) : Station :=
  { st with stc := { st.stc with queue := st.stc.queue ++ [(⟨m, st.uptime, .none⟩ : QEntry)] } }

/-- An addition (R77). -/
theorem enqueue_unqueued {st : Station} {m : Motor} (absent : st.queued m = false) :
    st.enqueue m = (st.withEntry m).resort.ring := by
  rw [Station.enqueue, if_neg (by rw [absent]; decide)]
  rfl

/-- The part of O44 about the start queue: its order through re-sorts and additions, and a withdrawal. -/
theorem startQueue_keeps_order (st : Station) (m : Motor) (short : st.dty.rotation.length ≤ 6) :
    let motors := fun q : List QEntry => q.map (·.motor)
    let names := fun q : List QEntry => q.map fun e => (e.motor, e.enqueued)
    let q := st.stc.queue
    let sorted := st.resort.stc.queue
    let added := (st.enqueue m).stc.queue
    st.resort = { st with stc := { st.stc with queue := sorted } } ∧
    (names sorted).Perm (names q) ∧ (motors sorted).Pairwise st.before ∧ (∀ e ∈ sorted.head?, e ∈ q) ∧
    (∀ e ∈ sorted.tail, e.hold = .none) ∧
    ((motors q).Nodup → (∀ n, .pump n ∈ motors q → n ∈ st.dty.rotation) → (motors q).Pairwise st.before →
      (∀ e ∈ q.tail, e.hold = .none) → sorted = q) ∧
    (st.queued m = true → added = q) ∧
    (st.queued m = false → (names added).Perm ((m, st.uptime) :: names q) ∧ (motors added).Pairwise st.before ∧
      ⟨m, st.uptime, .none⟩ ∈ added) ∧
    (st.enqueue m).stc.heard = true ∧
    (st.withdraw m).stc.queue = q.filter (fun e => e.motor != m) ∧ (st.withdraw m).stc.heard = true := by
  refine ⟨rfl, resort_names st, resort_ordered short, resort_head st, clearTail_holds _, resort_fixed short, fun present => ?_,
    fun absent => ?_, rfl, rfl, rfl⟩
  · show (st.enqueue m).stc.queue = _
    rw [Station.enqueue, if_pos present]
    rfl
  · rw [enqueue_unqueued absent]
    refine ⟨(resort_names (st.withEntry m)).trans ?_, resort_ordered (st := st.withEntry m) short, ?_⟩
    · rw [Station.withEntry, List.map_append]
      exact List.perm_append_comm
    · exact mem_clearTail ((sortQueue_perm _ _).mem_iff.mpr (List.mem_append_right _ (List.mem_singleton_self _))) rfl

end Sys2Proof.Machine
end

section
/-! PROOFS. What a shed pass takes, and what it makes of each motor that it takes (R86 to R88, R106, R129). -/

namespace Sys2Proof.Machine

/-! ### The Start Controller's marks through the moves of motors -/

/-- The Start Controller's record but for the queue and the word that reached it. -/
def Station.marks (st : Station) : StartControl := { st.stc with queue := [], heard := false }

section

variable (st : Station) (n : PumpNo)

@[simp] theorem Station.setPump_marks (p : PumpRec) : (st.setPump n p).marks = st.marks := rfl
@[simp] theorem Station.setPumpRun_marks (on : Bool) : (st.setPumpRun n on).marks = st.marks := rfl
@[simp] theorem Station.setDeferred_marks (d : Deferred) : (st.setDeferred n d).marks = st.marks := rfl
@[simp] theorem Station.prune_marks : (st.prune n).marks = st.marks := rfl
@[simp] theorem Station.ring_marks : st.ring.marks = st.marks := rfl
@[simp] theorem Station.hold_marks (h : Hold) : (st.hold h).marks = st.marks := rfl
@[simp] theorem Station.withdraw_marks (m : Motor) : (st.withdraw m).marks = st.marks := rfl
@[simp] theorem Station.withRkc_marks (r : Rake) : ({ st with rkc := r } : Station).marks = st.marks := rfl
@[simp] theorem Station.askDrive_marks (d : Option Dir) : (st.askDrive d).marks = st.marks := rfl
@[simp] theorem Station.rakeBegin_marks (k : Nat) : (st.rakeBegin k).marks = st.marks := rfl

@[simp] theorem Station.report_marks (k : PointNo) (on : Bool) : (st.report k on).marks = st.marks := by simp [Station.marks]

@[simp] theorem Station.reportPump_marks : (st.reportPump n).marks = st.marks := by simp [Station.reportPump, Station.judgeStartLimited]

@[simp] theorem Station.enqueue_marks (m : Motor) : (st.enqueue m).marks = st.marks := by
  unfold Station.enqueue
  split <;> rfl

@[simp] theorem Station.testPumpDown_marks : st.testPumpDown.marks = st.marks := by
  unfold Station.testPumpDown Station.alternate
  split
  · split <;> rfl
  · rfl

@[simp] theorem Station.enter_marks (s : PumpState) : (st.enter n s).marks = st.marks := by
  simp [Station.enter, apply_ite Station.marks]

@[simp] theorem Station.stopNow_marks : (st.stopNow n).marks = st.marks := by simp [Station.stopNow]

@[simp] theorem Station.rakeEnter_marks (s : RakeState) : (st.rakeEnter s).marks = st.marks := by
  unfold Station.rakeEnter
  dsimp only
  split <;> rfl

end

/-- A pump's shed takes it on the shed list, and off it again when its demand does not stand; the rest of the record stays. -/
theorem shedPump_marks (st : Station) (n : PumpNo) :
    (st.shedPump n).marks = st.marks ∨ (st.shedPump n).marks = st.marks.unshed (.pump n) := by
  unfold Station.shedPump
  have unshed (t : Station) : (t.reportUnshed n).marks = t.marks.unshed (.pump n) := rfl
  split
  · dsimp only
    split
    · exact .inl (by simp)
    · exact .inr (by rw [unshed, Station.stopNow_marks])
  · exact .inr (unshed st)

/-! ### The choice (R87) -/

/-- What a motor adds to connected load. -/
def Station.connectedPower (st : Station) (m : Motor) : Nat := if st.motorConnects m then st.motorPower m else 0

/-- The figures that remain once the motors `ms` are taken lie within the limit. -/
def Station.within (st : Station) (connected committed : Nat) (ms : List Motor) : Prop :=
  connected - (ms.map st.connectedPower).sum ≤ st.activeLimit ∧ committed - (ms.map st.motorPower).sum ≤ st.activeLimit

theorem within_cons (st : Station) (connected committed : Nat) (m : Motor) (ms : List Motor) :
    st.within connected committed (m :: ms) ↔
      st.within (connected - st.connectedPower m) (committed - st.motorPower m) ms := by
  simp only [Station.within, List.map_cons, List.sum_cons, Nat.sub_sub]

/-- The choice takes candidates in their order until both figures lie within the limit, and none after that. -/
theorem shedChoice_takes (st : Station) (l : List Motor) (connected committed : Nat) :
    let chosen := st.shedChoice l connected committed
    chosen <+: l ∧ (chosen ≠ l → st.within connected committed chosen) ∧
      ∀ k, k < chosen.length → ¬st.within connected committed (chosen.take k) := by
  induction l generalizing connected committed with
  | nil => exact ⟨List.prefix_refl _, fun h => absurd rfl h, fun k hk => absurd hk (Nat.not_lt_zero k)⟩
  | cons m l ih =>
    unfold Station.shedChoice
    by_cases reached : connected ≤ st.activeLimit ∧ committed ≤ st.activeLimit
    · rw [if_pos reached]
      exact ⟨List.nil_prefix, fun _ => reached, fun k hk => absurd hk (Nat.not_lt_zero k)⟩
    · rw [if_neg reached]
      obtain ⟨pre, stops, goes⟩ := ih (connected - st.connectedPower m) (committed - st.motorPower m)
      refine ⟨List.prefix_cons_inj m |>.mpr pre, fun h => (within_cons ..).mpr (stops fun e => h (congrArg (m :: ·) e)),
        fun k hk => ?_⟩
      cases k with
      | zero => exact reached
      | succ k =>
        rw [List.take_succ_cons, within_cons]
        exact goes k (Nat.lt_of_succ_lt_succ hk)

/-! ### A pump shed -/

/-- A pump record after a shed of the pump in motion (R106). -/
def PumpRec.shedNow (p : PumpRec) (now : Nat) : PumpRec := { p with
  state := .stopping, stateChange := now, minRunElapsed := false, deferred := .none
  timer := some (now + 10 * p.settings.stopConfirmTime), shed := p.demand || p.shed }

theorem PumpRec.shedNow_demanded {p : PumpRec} (now : Nat) (demand : p.demand = true) :
    { ({ p with deferred := .none } : PumpRec).entered now .stopping with shed := true } = p.shedNow now := by
  simp [PumpRec.entered, PumpRec.shedNow, PumpSettings.timerFor, secs, demand]

theorem PumpRec.shedNow_undemanded {p : PumpRec} (now : Nat) (demand : p.demand = false) :
    ({ p with deferred := .none } : PumpRec).entered now .stopping = p.shedNow now := by
  simp [PumpRec.entered, PumpRec.shedNow, PumpSettings.timerFor, secs, demand]

theorem shedPump_moving {st : Station} {n : PumpNo} (moving : st.pumps[n].state.inMotion = true) :
    (st.shedPump n).pumps[n] = st.pumps[n].shedNow st.uptime ∧ (st.shedPump n).ctu.pumpRun[n] = false ∧
      (st.shedPump n).marks = (if st.pumps[n].demand then st.marks else st.marks.unshed (.pump n)) := by
  have record := pump_of_set (stopNow_pump_eq st n)
  have output := stopNow_pumpRun st n
  rw [Station.shedPump, if_pos moving]
  cases demand : st.pumps[n].demand with
  | true =>
    refine ⟨?_, output, st.stopNow_marks n⟩
    rw [if_pos rfl, Station.setPump_self, record, PumpRec.shedNow_demanded _ demand]
  | false =>
    refine ⟨record.trans (PumpRec.shedNow_undemanded _ demand), output, ?_⟩
    show (st.stopNow n).marks.unshed (.pump n) = _
    rw [Station.stopNow_marks]
    rfl

/-- A shed order that finds the pump at rest leaves its record and its output. -/
theorem shedPump_resting {st : Station} {n : PumpNo} (still : st.pumps[n].state.inMotion = false) :
    st.shedPump n = st.reportUnshed n := if_neg (by rw [still]; decide)

/-- The sheds of the other motors leave a pump's record, its output and its fault point. -/
theorem shedMotor_pumpSide (st : Station) {m : Motor} {n : PumpNo} (other : m ≠ .pump n) :
    (st.shedMotor m).pumpSide n = st.pumpSide n := by
  cases m with
  | pump k =>
    have apart : n ≠ k := fun e => other (congrArg Motor.pump e.symm)
    exact (Station.reportPump_pumpSide _ _ apart).trans (Station.shedPump_pumpSide _ _ apart)
  | rake => exact Station.shedRake_pumpSide _ n

theorem shedMotors_pumpSide (l : List Motor) (st : Station) {n : PumpNo} (absent : .pump n ∉ l) :
    (l.foldl Station.shedMotor st).pumpSide n = st.pumpSide n := by
  induction l generalizing st with
  | nil => rfl
  | cons m l ih =>
    obtain ⟨apart, later⟩ := List.ne_and_not_mem_of_not_mem_cons absent
    exact (ih _ later).trans (shedMotor_pumpSide st apart.symm)

/-- A pump at rest keeps its record and its output off through any sheds. -/
theorem shedMotors_resting (l : List Motor) {st : Station} {n : PumpNo} (still : st.pumps[n].state.inMotion = false)
    (off : st.ctu.pumpRun[n] = false) : (l.foldl Station.shedMotor st).pumps[n] = st.pumps[n] ∧
      (l.foldl Station.shedMotor st).ctu.pumpRun[n] = false := by
  induction l generalizing st with
  | nil => exact ⟨rfl, off⟩
  | cons m l ih =>
    have step : (st.shedMotor m).pumps[n] = st.pumps[n] ∧ (st.shedMotor m).ctu.pumpRun[n] = false := by
      by_cases own : m = .pump n
      · subst own
        have rests := shedPump_resting (st := { st with stc := st.stc.addShed (.pump n) }) still
        rw [Station.shedMotor, Station.reportPump_pumps, Station.reportPump_pumpRun, rests]
        exact ⟨rfl, off⟩
      · have side := shedMotor_pumpSide st own
        simp only [Station.pumpSide, Prod.mk.injEq] at side
        exact ⟨side.1, side.2.1.trans off⟩
    obtain ⟨record, output⟩ := ih (st := st.shedMotor m) (by rw [step.1]; exact still) step.2
    exact ⟨record.trans step.1, output⟩

theorem shedMotors_uptime (l : List Motor) (st : Station) : (l.foldl Station.shedMotor st).uptime = st.uptime :=
  (keeps_shedMotors l st).uptime

/-- A pump in motion that is among the motors shed stops, with its output off (R106). -/
theorem shedMotors_pump {l : List Motor} {st : Station} {n : PumpNo} (listed : .pump n ∈ l)
    (moving : st.pumps[n].state.inMotion = true) :
    (l.foldl Station.shedMotor st).pumps[n] = st.pumps[n].shedNow st.uptime ∧
      (l.foldl Station.shedMotor st).ctu.pumpRun[n] = false := by
  obtain ⟨before, after, rfl, absent⟩ := List.eq_append_cons_of_mem listed
  rw [List.foldl_append, List.foldl_cons]
  have record : (before.foldl Station.shedMotor st).pumps[n] = st.pumps[n] := congrArg Prod.fst (shedMotors_pumpSide before st absent)
  have uptime := shedMotors_uptime before st
  generalize before.foldl Station.shedMotor st = u at record uptime
  have shed : (u.shedMotor (.pump n)).pumps[n] = st.pumps[n].shedNow st.uptime ∧ (u.shedMotor (.pump n)).ctu.pumpRun[n] = false := by
    obtain ⟨stopped, off, -⟩ := shedPump_moving (st := { u with stc := u.stc.addShed (.pump n) }) (n := n)
      (by rw [← record] at moving; exact moving)
    rw [Station.shedMotor, Station.reportPump_pumps, Station.reportPump_pumpRun]
    rw [← record, ← uptime]
    exact ⟨stopped, off⟩
  obtain ⟨kept, off⟩ := shedMotors_resting after (by rw [shed.1]; rfl) shed.2
  exact ⟨kept.trans shed.1, off⟩

/-! ### The shed list (R88) -/

theorem shedMotor_marks (st : Station) (m : Motor) :
    (st.shedMotor m).marks = st.marks.addShed m ∨ (st.shedMotor m).marks = (st.marks.addShed m).unshed m := by
  cases m with
  | pump n =>
    rw [Station.shedMotor, Station.reportPump_marks]
    exact shedPump_marks { st with stc := st.stc.addShed (.pump n) } n
  | rake =>
    rw [Station.shedMotor, Station.shedRake]
    split
    · exact .inl (by simp; rfl)
    · exact .inr rfl

/-- A shed of one motor leaves the marks that are not its own. -/
theorem shedMotor_keeps (st : Station) (m : Motor) : (st.shedMotor m).stc.loadShed = st.stc.loadShed ∧
    (∀ n, m ≠ .pump n → (st.shedMotor m).stc.shedPumps[n] = st.stc.shedPumps[n]) ∧
    (m ≠ .rake → (st.shedMotor m).stc.shedRake = st.stc.shedRake) := by
  have load : ∀ c : StartControl, c = (st.shedMotor m).marks → c.loadShed = st.stc.loadShed ∧
      (∀ n, m ≠ .pump n → c.shedPumps[n] = st.stc.shedPumps[n]) ∧ (m ≠ .rake → c.shedRake = st.stc.shedRake) := by
    rintro c rfl
    obtain marks | marks := shedMotor_marks st m <;> rw [marks] <;> cases m with
    | pump k =>
      refine ⟨rfl, fun n other => ?_, fun _ => rfl⟩
      have apart : n ≠ k := fun e => other (congrArg Motor.pump e.symm)
      simp only [StartControl.addShed, StartControl.unshed, set_other _ _ apart]
      rfl
    | rake => exact ⟨rfl, fun _ _ => rfl, fun other => absurd rfl other⟩
  exact load (st.shedMotor m).marks rfl

theorem shedMotors_keep (l : List Motor) (st : Station) : (l.foldl Station.shedMotor st).stc.loadShed = st.stc.loadShed ∧
    (∀ n, .pump n ∉ l → (l.foldl Station.shedMotor st).stc.shedPumps[n] = st.stc.shedPumps[n]) ∧
    (.rake ∉ l → (l.foldl Station.shedMotor st).stc.shedRake = st.stc.shedRake) := by
  induction l generalizing st with
  | nil => exact ⟨rfl, fun _ _ => rfl, fun _ => rfl⟩
  | cons m l ih =>
    obtain ⟨load, pumps, rake⟩ := shedMotor_keeps st m
    obtain ⟨loads, others, rakes⟩ := ih (st.shedMotor m)
    refine ⟨loads.trans load, fun n absent => ?_, fun absent => ?_⟩ <;>
      obtain ⟨apart, later⟩ := List.ne_and_not_mem_of_not_mem_cons absent
    · exact (others n later).trans (pumps n apart.symm)
    · exact (rakes later).trans (rake apart.symm)

/-- A pump shed once stands on the shed list while its demand stands (R88, R106). -/
theorem shedMotors_listed {l : List Motor} {st : Station} {n : PumpNo} (listed : .pump n ∈ l) (nodup : l.Nodup)
    (moving : st.pumps[n].state.inMotion = true) : (l.foldl Station.shedMotor st).stc.shedPumps[n] = st.pumps[n].demand := by
  obtain ⟨before, after, rfl, absent⟩ := List.eq_append_cons_of_mem listed
  have once : .pump n ∉ after := (List.nodup_cons.mp (List.nodup_append.mp nodup).2.1).1
  rw [List.foldl_append, List.foldl_cons, (shedMotors_keep after _).2.1 n once]
  have record : (before.foldl Station.shedMotor st).pumps[n] = st.pumps[n] := congrArg Prod.fst (shedMotors_pumpSide before st absent)
  generalize before.foldl Station.shedMotor st = u at record
  rw [← record] at moving ⊢
  obtain ⟨-, -, marks⟩ := shedPump_moving (st := { u with stc := u.stc.addShed (.pump n) }) (n := n) moving
  have list := congrArg (fun c : StartControl => c.shedPumps[n]) marks
  rw [Station.shedMotor, Station.reportPump_stc]
  refine list.trans ?_
  show (if u.pumps[n].demand then _ else _ : StartControl).shedPumps[n] = _
  cases u.pumps[n].demand <;> simp [StartControl.addShed, StartControl.unshed, Station.marks]

/-! ### The rake shed -/

/-- A rake record after a shed of the rake in motion (R129). -/
def Rake.shedNow (r : Rake) (now : Nat) : Rake :=
  { r with state := .waiting, stateChange := now, timer := none, drivePending := false, demand := true }

theorem shedRake_moving {st : Station} (moving : st.rkc.state.inMotion = true) :
    st.shedRake.rkc = st.rkc.shedNow st.uptime ∧ st.shedRake.ctu.drive = st.ctu.drive.request st.clock none ∧
      st.shedRake.queued .rake = true ∧ st.shedRake.stc.shedRake = st.stc.shedRake := by
  rw [Station.shedRake, if_pos moving]
  refine ⟨?_, ?_, enqueue_queued _ _, ?_⟩
  · rw [enqueue_rkc, rakeEnter_rkc]
    rfl
  · rw [enqueue_drive, rakeEnter_drive]
    rfl
  · have marks : (({ st with rkc := { st.rkc with demand := true } } : Station).rakeEnter .waiting |>.enqueue .rake).marks =
        st.marks := by simp
    exact (congrArg StartControl.shedRake marks :)

/-- The sheds of the pumps leave the rake's record, its drive and its entry in the queue. -/
theorem shedMotors_rake (l : List Motor) {st : Station} (absent : .rake ∉ l) :
    (l.foldl Station.shedMotor st).rkc = st.rkc ∧ (l.foldl Station.shedMotor st).ctu.drive = st.ctu.drive ∧
      (l.foldl Station.shedMotor st).queued .rake = st.queued .rake := by
  induction l generalizing st with
  | nil => exact ⟨rfl, rfl, rfl⟩
  | cons m l ih =>
    obtain ⟨apart, later⟩ := List.ne_and_not_mem_of_not_mem_cons absent
    obtain ⟨rkc, drive, queued⟩ := ih (st := st.shedMotor m) later
    cases m with
    | rake => exact absurd rfl apart
    | pump n =>
      have side : (st.shedMotor (.pump n)).rakeSide = st.rakeSide := by simp [Station.shedMotor]; rfl
      obtain ⟨record, driven⟩ := rake_of_rakeSide side
      have stopped (t : Station) : (t.stopNow n).queued .rake = t.queued .rake := (enter_stc _ n .stopping).1 .rake
      have entry : (st.shedMotor (.pump n)).queued .rake = st.queued .rake := by
        rw [Station.shedMotor, Station.queued, Station.reportPump_stc]
        show (Station.shedPump _ n).queued .rake = _
        unfold Station.shedPump
        split
        · dsimp only
          split <;> exact stopped _
        · rfl
      exact ⟨rkc.trans record, drive.trans driven, queued.trans entry⟩

theorem shedMotors_rakeShed {l : List Motor} {st : Station} (listed : .rake ∈ l) (once : l.count .rake ≤ 1)
    (moving : st.rkc.state.inMotion = true) : (l.foldl Station.shedMotor st).rkc = st.rkc.shedNow st.uptime ∧
      (l.foldl Station.shedMotor st).ctu.drive = st.ctu.drive.request st.clock none ∧
      (l.foldl Station.shedMotor st).queued .rake = true ∧ (l.foldl Station.shedMotor st).stc.shedRake = true := by
  obtain ⟨before, after, rfl, absent⟩ := List.eq_append_cons_of_mem listed
  have later : .rake ∉ after := by
    rw [List.count_append, List.count_cons_self] at once
    exact List.count_eq_zero.mp (by omega)
  rw [List.foldl_append, List.foldl_cons]
  obtain ⟨rkc, drive, -⟩ := shedMotors_rake before (st := st) absent
  have outer := keeps_shedMotors before st
  generalize before.foldl Station.shedMotor st = u at rkc drive outer
  obtain ⟨record, asked, queued, marked⟩ := shedRake_moving (st := { u with stc := u.stc.addShed .rake })
    (by rw [← rkc] at moving; exact moving)
  obtain ⟨kept, driven, waits⟩ := shedMotors_rake after (st := u.shedMotor .rake) later
  refine ⟨?_, ?_, waits.trans queued, ((shedMotors_keep after _).2.2 later).trans marked⟩
  · rw [kept, ← rkc, ← outer.uptime]
    exact record
  · rw [driven, ← drive, ← outer.clock]
    exact asked

/-! ### The pass (R87) -/

/-- LOAD_SHED turns on as a pass that sheds begins (R89). -/
def Station.shedBegun (st : Station) : Station :=
  ({ st with stc := { st.stc with loadShed := true } } : Station).report Alarm.loadShed true

theorem shedBegun_stc (st : Station) : st.shedBegun.stc = { st.stc with loadShed := true } := Station.report_stc ..

theorem shedBegun_rkc (st : Station) : st.shedBegun.rkc = st.rkc := Station.report_rkc ..

theorem shedBegun_pumpSide (st : Station) (n : PumpNo) : st.shedBegun.pumpSide n = st.pumpSide n :=
  Station.report_pumpSide _ n (Alarm.ne_pumpFault n (by decide)) true

/-- The motors that a pass takes. -/
def Station.chosen (st : Station) : List Motor := st.shedChoice st.shedCandidates st.loadAfterShedding st.committedLoad

theorem shedPass_none {st : Station} (h : st.chosen = []) : st.shedPass = st := by
  rw [Station.chosen] at h
  rw [Station.shedPass, h]

theorem shedPass_some {st : Station} (h : st.chosen ≠ []) : st.shedPass = st.chosen.foldl Station.shedMotor st.shedBegun := by
  unfold Station.shedPass Station.chosen at *
  split
  next e => exact absurd e h
  next e => rw [e]; rfl

theorem mem_chosen {st : Station} {m : Motor} (h : m ∈ st.chosen) : st.moves m = true := by
  have candidate : m ∈ st.shedCandidates := (shedChoice_takes st st.shedCandidates _ _).1.subset h
  simp only [Station.shedCandidates, List.mem_append, List.mem_map, List.mem_filter] at candidate
  obtain (⟨n, ⟨-, moving⟩, rfl⟩ | rake) | ⟨n, ⟨-, moving⟩, rfl⟩ := candidate
  · exact moving
  · split at rake
    next moving => rw [List.mem_singleton.mp rake]; exact moving
    · cases rake
  · exact moving

theorem chosen_pump_moving {st : Station} {n : PumpNo} (h : .pump n ∈ st.chosen) : st.pumps[n].state.inMotion = true :=
  (Bool.and_eq_true_iff.mp (mem_chosen h)).2

/-- The rake stands among the candidates once at most. -/
theorem chosen_rake_once (st : Station) : st.chosen.count .rake ≤ 1 := by
  have pumps (l : List PumpNo) : (l.map Motor.pump).count .rake = 0 := List.count_eq_zero.mpr (by simp)
  refine ((shedChoice_takes st st.shedCandidates _ _).1.sublist.count_le _).trans ?_
  rw [Station.shedCandidates, List.count_append, List.count_append, pumps, pumps]
  split <;> simp

theorem shedPass_pump_kept {st : Station} {n : PumpNo} (h : .pump n ∉ st.chosen) : st.shedPass.pumpSide n = st.pumpSide n := by
  by_cases none : st.chosen = []
  · rw [shedPass_none none]
  · rw [shedPass_some none, shedMotors_pumpSide _ _ h, shedBegun_pumpSide]

theorem shedPass_rake_kept {st : Station} (h : .rake ∉ st.chosen) : st.shedPass.rkc = st.rkc := by
  by_cases none : st.chosen = []
  · rw [shedPass_none none]
  · rw [shedPass_some none, (shedMotors_rake _ h).1, shedBegun_rkc]

theorem shedPass_pump {st : Station} {n : PumpNo} (h : .pump n ∈ st.chosen) :
    st.shedPass.pumps[n] = st.pumps[n].shedNow st.uptime ∧ st.shedPass.ctu.pumpRun[n] = false ∧
      (st.rotationSafe → st.shedPass.stc.shedPumps[n] = st.pumps[n].demand) := by
  have record : st.shedBegun.pumps[n] = st.pumps[n] := congrArg Prod.fst (shedBegun_pumpSide st n)
  have uptime : st.shedBegun.uptime = st.uptime := Station.report_uptime ..
  have moving := chosen_pump_moving h
  rw [← record] at moving
  obtain ⟨stopped, off⟩ := shedMotors_pump h moving
  rw [shedPass_some (List.ne_nil_of_mem h)]
  refine ⟨by rw [stopped, record, uptime], off, fun safe => ?_⟩
  have nodup := (shedCandidates_sound safe).1.sublist (shedChoice_takes st _ st.loadAfterShedding st.committedLoad).1.sublist
  rw [shedMotors_listed h nodup moving, record]

theorem shedPass_rake {st : Station} (h : .rake ∈ st.chosen) : st.shedPass.rkc = st.rkc.shedNow st.uptime ∧
    st.shedPass.ctu.drive = st.ctu.drive.request st.clock none ∧ st.shedPass.queued .rake = true ∧
    st.shedPass.stc.shedRake = true := by
  have uptime : st.shedBegun.uptime = st.uptime := Station.report_uptime ..
  have clock : st.shedBegun.clock = st.clock := Station.report_clock ..
  have drive : st.shedBegun.ctu.drive = st.ctu.drive := Station.report_drive ..
  have shed := shedMotors_rakeShed (st := st.shedBegun) h (chosen_rake_once st) (by rw [shedBegun_rkc]; exact mem_chosen h)
  rw [shedPass_some (List.ne_nil_of_mem h)]
  rwa [shedBegun_rkc, uptime, clock, drive] at shed

theorem shedPass_loadShed {st : Station} (h : st.chosen ≠ []) : st.shedPass.stc.loadShed = true := by
  rw [shedPass_some h, (shedMotors_keep _ _).1, shedBegun_stc]

theorem shedCandidates_cons {st : Station} {lead : PumpNo} {others : List PumpNo} (h : st.dty.rotation = lead :: others) :
    st.shedCandidates = (others.reverse.filter st.commits).map .pump ++ (if st.rkc.state.inMotion then [.rake] else []) ++
      (if st.commits lead then [.pump lead] else []) := by
  rw [Station.shedCandidates, h]
  cases hl : st.commits lead <;> simp [hl]

theorem overloaded_iff (st : Station) :
    st.overloaded = true ↔ ¬(st.loadAfterShedding ≤ st.activeLimit ∧ st.committedLoad ≤ st.activeLimit) := by
  simp only [Station.overloaded, Bool.or_eq_true, decide_eq_true_eq]
  omega

/-- The part of O44 about a shed pass: whom it takes, and what it makes of them. -/
theorem shedPass_takes_the_candidates (st : Station) :
    let power := fun m : Motor => match m with
      | .pump n => st.pumps[n].settings.ratedPower
      | .rake => st.consts.rakeKw
    let connected := fun ms : List Motor =>
      st.loadAfterShedding - (ms.map fun m => if st.motorConnects m then power m else 0).sum
    let committed := fun ms : List Motor => st.committedLoad - (ms.map power).sum
    let within := fun ms : List Motor => connected ms ≤ st.activeLimit ∧ committed ms ≤ st.activeLimit
    let chosen := st.shedChoice st.shedCandidates st.loadAfterShedding st.committedLoad
    let t := st.shedPass
    (∀ lead rest, st.dty.rotation = lead :: rest → st.shedCandidates =
      (rest.reverse.filter st.commits).map .pump ++ (if st.rkc.state.inMotion then [.rake] else []) ++
      (if st.commits lead then [.pump lead] else [])) ∧
    chosen <+: st.shedCandidates ∧ (chosen ≠ st.shedCandidates → within chosen) ∧
    (∀ k, k < chosen.length → ¬within (chosen.take k)) ∧
    (chosen = [] → t = st) ∧ (chosen ≠ [] → t.stc.loadShed = true) ∧ KeepsOuter st t ∧
    (∀ n : PumpNo, .pump n ∉ chosen → t.pumps[n] = st.pumps[n]) ∧
    (.rake ∉ chosen → t.rkc = st.rkc) ∧
    (∀ n : PumpNo, .pump n ∈ chosen → t.pumps[n] = st.pumps[n].shedNow st.uptime ∧
      t.ctu.pumpRun[n] = false ∧ (st.rotationSafe → t.stc.shedPumps[n] = st.pumps[n].demand)) ∧
    (.rake ∈ chosen → t.rkc = st.rkc.shedNow st.uptime ∧
      t.ctu.drive = st.ctu.drive.request st.clock none ∧ t.queued .rake = true ∧ t.stc.shedRake = true) ∧
    (st.overloaded = true ↔ ¬within []) := by
  obtain ⟨taken, stops, goes⟩ := shedChoice_takes st st.shedCandidates st.loadAfterShedding st.committedLoad
  have powers : st.motorPower = fun m : Motor => match m with
      | .pump n => st.pumps[n].settings.ratedPower
      | .rake => st.consts.rakeKw := by
    funext m
    cases m <;> rfl
  simp only [Station.within, powers] at stops goes
  exact ⟨fun _ _ => shedCandidates_cons, taken, stops, goes, shedPass_none, shedPass_loadShed, keeps_shedPass st,
    fun n h => congrArg Prod.fst (shedPass_pump_kept h), shedPass_rake_kept, fun n => shedPass_pump, shedPass_rake, overloaded_iff st⟩

end Sys2Proof.Machine
end

section
/-! PROOFS. The grant test, what a grant makes of its motor, and how the Start Controller's event ends (R81 to R85, R97, R122). -/

namespace Sys2Proof.Machine

/-! ### The end of the event -/

/-- What the Start Controller does after its grant test: LOAD_SHED and the budget hold are judged, and the word is taken (R85, R89). -/
def Station.eventEnd (st : Station) : Station :=
  { st.testLoadShed.judgeBudget with stc := { st.testLoadShed.judgeBudget.stc with heard := false } }

theorem stcEvent_eq (st : Station) : st.stcEvent = (Station.shedPasses 8 st).grantTest.eventEnd := rfl

theorem testLoadShed_stc (st : Station) : st.testLoadShed.stc = { st.stc with
    loadShed := st.stc.loadShed && (st.settled .genRun || !st.stc.shedEmpty) } := by
  unfold Station.testLoadShed
  split
  next ends =>
    obtain ⟨-, gen, empty⟩ := ends
    rw [Station.report_stc, gen, empty, Bool.false_or, Bool.not_true, Bool.and_false]
  next stays =>
    have kept : (st.stc.loadShed && (st.settled .genRun || !st.stc.shedEmpty)) = st.stc.loadShed := by
      cases hl : st.stc.loadShed <;> cases hg : st.settled .genRun <;> cases he : st.stc.shedEmpty <;> simp [hl, hg, he] at stays ⊢
    rw [kept]

theorem judgeBudget_stc (st : Station) : st.judgeBudget.stc = { st.stc with
    budgetSince := if st.stc.budgetHeld then some (st.stc.budgetSince.getD st.uptime) else none
    capacityHeld := st.stc.budgetHeld && st.stc.capacityHeld } := by
  unfold Station.judgeBudget
  cases held : st.stc.budgetHeld with
  | true =>
    rw [if_pos rfl, if_pos rfl, Bool.true_and]
    split
    next since => rw [since, Option.getD_some, ← since]
    next unset => rw [unset, Option.getD_none]
  | false =>
    rw [if_neg (by decide), if_neg (by decide), Bool.false_and, Station.report_stc]

section

variable (st : Station)

theorem eventEnd_stc : st.eventEnd.stc = { st.stc with
    loadShed := st.stc.loadShed && (st.settled .genRun || !st.stc.shedEmpty)
    budgetSince := if st.stc.budgetHeld then some (st.stc.budgetSince.getD st.uptime) else none
    capacityHeld := st.stc.budgetHeld && st.stc.capacityHeld, heard := false } := by
  have uptime : st.testLoadShed.uptime = st.uptime := (keeps_testLoadShed st).uptime
  rw [Station.eventEnd, judgeBudget_stc, testLoadShed_stc, uptime]
  rfl

/-- The motors, their outputs and the duty record are not touched. -/
theorem eventEnd_kept : st.eventEnd.pumps = st.pumps ∧ st.eventEnd.rkc = st.rkc ∧ st.eventEnd.ctu.drive = st.ctu.drive ∧
    st.eventEnd.ctu.pumpRun = st.ctu.pumpRun := by
  unfold Station.eventEnd Station.judgeBudget Station.testLoadShed
  split <;> split <;> [split; skip; split; skip] <;> simp

@[simp] theorem eventEnd_pumps : st.eventEnd.pumps = st.pumps := (eventEnd_kept st).1
@[simp] theorem eventEnd_rkc : st.eventEnd.rkc = st.rkc := (eventEnd_kept st).2.1
@[simp] theorem eventEnd_drive : st.eventEnd.ctu.drive = st.ctu.drive := (eventEnd_kept st).2.2.1
@[simp] theorem eventEnd_pumpRun : st.eventEnd.ctu.pumpRun = st.ctu.pumpRun := (eventEnd_kept st).2.2.2

theorem eventEnd_outer : KeepsOuter st st.eventEnd :=
  ((keeps_testLoadShed st).trans (keeps_judgeBudget _)).trans (keeps_stc _ _)

@[simp] theorem eventEnd_queued (m : Motor) : st.eventEnd.queued m = st.queued m := by
  rw [Station.queued, eventEnd_stc]
  rfl

theorem eventEnd_activeLimit : st.eventEnd.activeLimit = st.activeLimit := by
  rw [Station.activeLimit, eventEnd_stc, (eventEnd_outer st).consts]
  rfl

theorem eventEnd_connectedLoad : st.eventEnd.connectedLoad = st.connectedLoad := by
  simp only [Station.connectedLoad, Station.rakeLoad, Station.connects, Station.power, eventEnd_pumps, eventEnd_rkc,
    (eventEnd_outer st).consts, eventEnd_stc]
  rfl

theorem eventEnd_committedLoad : st.eventEnd.committedLoad = st.committedLoad := by
  simp only [Station.committedLoad, Station.rakeLoad, Station.commits, Station.power, eventEnd_pumps, eventEnd_rkc,
    (eventEnd_outer st).consts]
  rfl

/-- A point that the end of the event does not report stays. -/
theorem eventEnd_points {k : PointNo} (load : k ≠ Alarm.loadShed) (capacity : st.stc.budgetHeld = true ∨ k ≠ Alarm.capacityHeld) :
    st.eventEnd.alt.points[k] = st.alt.points[k] := by
  have tested : st.testLoadShed.alt.points[k] = st.alt.points[k] := by
    unfold Station.testLoadShed
    split
    · exact Station.report_others _ _ load
    · rfl
  have judged : st.testLoadShed.judgeBudget.alt.points[k] = st.testLoadShed.alt.points[k] := by
    unfold Station.judgeBudget
    split
    · split <;> rfl
    next unheld =>
      obtain held | other := capacity
      · rw [testLoadShed_stc] at unheld
        exact absurd held unheld
      · exact Station.report_others _ _ other
  exact judged.trans tested

end

/-! ### With the loads within the limit -/

theorem shedPasses_within (k : Nat) {st : Station} (within : st.overloaded = false) : Station.shedPasses k st = st := by
  cases k with
  | zero => rfl
  | succ k => rw [Station.shedPasses, if_neg (by rw [within]; decide)]

/-- With the loads within the limit the event is a grant test (R82). -/
theorem settleStc_within {st : Station} (heard : st.stc.heard = true) (within : st.overloaded = false) :
    st.settleStc = st.grantTest.eventEnd := by
  rw [Station.settleStc, if_pos heard, stcEvent_eq, shedPasses_within 8 within]

/-! ### The grant test (R82) -/

section

variable {st : Station}

theorem grantTest_empty (h : st.stc.queue = []) : st.grantTest = st := by
  unfold Station.grantTest
  rw [h]

variable {e : QEntry} {es : List QEntry} (h : st.stc.queue = e :: es)

include h

theorem grantTest_grants (fits : st.budgetFits e.motor = true) (elapsed : st.spacingElapsed = true) :
    st.grantTest = st.grant e.motor := by
  unfold Station.grantTest
  rw [h]
  exact (if_pos fits).trans (if_pos elapsed)

theorem grantTest_spacing (fits : st.budgetFits e.motor = true) (young : st.spacingElapsed = false) :
    st.grantTest = st.hold .spacing := by
  unfold Station.grantTest
  rw [h]
  exact (if_pos fits).trans (if_neg (by rw [young]; decide))

theorem grantTest_budget (exceeds : st.budgetFits e.motor = false) : st.grantTest = st.hold .budget := by
  unfold Station.grantTest
  rw [h]
  exact if_neg (by rw [exceeds]; decide)

theorem hold_queue (r : Hold) : (st.hold r).stc.queue = { e with hold := r } :: es := by
  show holdHead r st.stc.queue = _
  rw [h]
  rfl

end

/-! ### The grant (R83) -/

/-- The Start Controller's part of a grant: the motor leaves queue and shed list, the grant is recorded, the spacing armed. -/
def Station.grantTaken (st : Station) (m : Motor) : Station :=
  ({ st.dequeue m with stc := { (st.dequeue m).stc.unshed m with lastGrant := some st.uptime } } : Station).armSpacing

theorem grant_eq (st : Station) (m : Motor) : st.grant m = ((st.grantTaken m).deliverGrant m).holdNewHead := rfl

theorem grantTaken_unqueued (st : Station) (m : Motor) : (st.grantTaken m).queued m = false := by
  cases m <;> exact withdraw_unqueued st _

theorem grantTaken_marks (st : Station) (m : Motor) : (st.grantTaken m).marks = { st.marks.unshed m with
    lastGrant := some st.uptime, spacingExpiry := some (st.uptime + secs st.consts.startSpacing) } := by
  cases m <;> simp [Station.grantTaken, Station.armSpacing, Station.marks, StartControl.unshed, Station.uptime]

theorem holdNewHead_queued (st : Station) (m : Motor) : st.holdNewHead.queued m = st.queued m := by
  unfold Station.holdNewHead
  split
  · rfl
  · rw [Bool.eq_iff_iff, queued_iff, queued_iff, Station.hold, holdHead_motors]

theorem holdNewHead_marks (st : Station) : st.holdNewHead.marks = st.marks := by
  unfold Station.holdNewHead
  split <;> rfl

theorem holdNewHead_kept (st : Station) : st.holdNewHead = { st with stc := st.holdNewHead.stc } := by
  unfold Station.holdNewHead
  split <;> rfl

/-! ### A pump granted (R97) -/

/-- A pump record after its grant. -/
def PumpRec.granted (p : PumpRec) (now : Nat) : PumpRec := { p with
  history := pruned now p.history ++ [now], startsToday := satAdd Config.top16 p.startsToday 1
  startsTotal := satAdd Config.top32 p.startsTotal 1, deferred := .none, shed := false
  state := .starting, stateChange := now, timer := some (now + secs p.settings.confirmTime), minRunElapsed := false }

theorem grantPump_waiting {st : Station} {n : PumpNo} (waits : st.pumps[n].state = .waiting) :
    (st.grantPump n).pumps = st.pumps.set n (st.pumps[n].granted st.uptime) ∧ (st.grantPump n).ctu.pumpRun[n] = true ∧
      (st.grantPump n).marks = st.marks ∧ ∀ m, (st.grantPump n).queued m = st.queued m := by
  rw [Station.grantPump, if_pos waits]
  dsimp only
  refine ⟨?_, ?_, ?_, fun m => ?_⟩
  · simp [Station.prune, Station.setPumpRun, PumpRec.entered, PumpRec.granted, PumpSettings.timerFor, Station.uptime]
  · simp
  · simp
  · rw [Station.queued, Station.reportPump_stc]
    exact (enter_stc _ n .starting).1 m

/-! ### The rake granted (R122) -/

theorem rakeEnter_queue (st : Station) (s : RakeState) : (st.rakeEnter s).stc.queue = st.stc.queue := by
  unfold Station.rakeEnter
  dsimp only
  split <;> rfl

/-- A phase of the rake with none of its contacts on begins at the report at once, or waits for it (R117). -/
theorem driveReport_clear {st : Station} (trip : st.settled .torqueTrip = false)
    (phase : st.rkc.state = .lowering ∧ st.settled .limBottom = false ∨ st.rkc.state = .raising ∧ st.settled .limTop = false) :
    st.driveReport = st ∨ ∃ limit, st.driveReport = st.rakeBegin limit := by
  unfold Station.driveReport
  split
  · right
    have contact (k : Nat) (i : Input) : (st.rakeBegin k).settled i = st.settled i := rfl
    obtain ⟨state, bottom⟩ | ⟨state, top⟩ := phase <;> rw [Station.rakeDriven, state] <;> dsimp only
    · rw [contact, contact, trip, bottom]
      exact ⟨_, rfl⟩
    · rw [contact, contact, trip, top]
      exact ⟨_, rfl⟩
  · exact .inl rfl

/-- The state that a rake's cycle begins in: a homing raise, or the lowering (R122, R128). -/
def Rake.firstPhase (r : Rake) : RakeState := if r.homing then .raising else .lowering

/-- The rake as a grant finds its cycle: the retries full, the demand taken by a cycle that is no homing raise. -/
def Station.cycleBegun (st : Station) : Station :=
  { st with rkc := { st.rkc with retries := st.consts.retries, demand := st.rkc.homing && st.rkc.demand } }

theorem grantRake_waits {st : Station} (waits : st.rkc.state = .waiting) :
    st.grantRake = (st.cycleBegun.rakeEnter st.rkc.firstPhase).driveReport := by
  rw [Station.grantRake, if_pos waits]
  dsimp only
  unfold Station.cycleBegun Rake.firstPhase
  split <;> simp [*]

/-- The rake's record and drive after a grant that finds no contact of its first phase on. -/
theorem grantRake_clear {st : Station} (waits : st.rkc.state = .waiting) (trip : st.settled .torqueTrip = false)
    (top : st.rkc.homing = true → st.settled .limTop = false) (bottom : st.rkc.homing = false → st.settled .limBottom = false) :
    let t := st.grantRake
    t.rkc.state = st.rkc.firstPhase ∧ t.rkc.retries = st.consts.retries ∧ t.rkc.demand = (st.rkc.homing && st.rkc.demand) ∧
      t.ctu.drive = st.ctu.drive.request st.clock st.rkc.firstPhase.direction ∧ t.marks = st.marks ∧
      t.stc.queue = st.stc.queue := by
  rw [grantRake_waits waits]
  have contact (i : Input) : (st.cycleBegun.rakeEnter st.rkc.firstPhase).settled i = st.settled i :=
    (keeps_rakeEnter st.cycleBegun _).settled i
  have record := rakeEnter_rkc st.cycleBegun st.rkc.firstPhase
  have drive := rakeEnter_drive st.cycleBegun st.rkc.firstPhase
  have marks := st.cycleBegun.rakeEnter_marks st.rkc.firstPhase
  have queue := rakeEnter_queue st.cycleBegun st.rkc.firstPhase
  generalize st.cycleBegun.rakeEnter st.rkc.firstPhase = v at contact record drive marks queue
  have phase : v.rkc.state = .lowering ∧ v.settled .limBottom = false ∨ v.rkc.state = .raising ∧ v.settled .limTop = false := by
    rw [record, contact, contact, Rake.firstPhase]
    cases homing : st.rkc.homing with
    | true => exact .inr ⟨rfl, top homing⟩
    | false => exact .inl ⟨rfl, bottom homing⟩
  have same : v.driveReport.rkc.state = v.rkc.state ∧ v.driveReport.rkc.retries = v.rkc.retries ∧
      v.driveReport.rkc.demand = v.rkc.demand ∧ v.driveReport.ctu.drive = v.ctu.drive ∧ v.driveReport.marks = v.marks ∧
      v.driveReport.stc.queue = v.stc.queue := by
    obtain same | ⟨limit, same⟩ := driveReport_clear ((contact _).trans trip) phase <;> rw [same] <;>
      exact ⟨rfl, rfl, rfl, rfl, rfl, rfl⟩
  obtain ⟨state, retries, demand, asked, kept, entries⟩ := same
  rw [record] at state retries demand
  exact ⟨state, retries, demand, asked.trans drive, kept.trans marks, entries.trans queue⟩

/-! ### The loads after a grant (R82) -/

/-- A sum that grows at one pump alone. -/
theorem sumPumps_le_add {f g : PumpNo → Nat} {n : PumpNo} {c : Nat} (own : g n ≤ f n + c) (others : ∀ k, k ≠ n → g k = f k) :
    sumPumps g ≤ sumPumps f + c := by
  have each (k : PumpNo) : g k ≤ f k + if k = n then c else 0 := by
    by_cases hk : k = n
    · rw [if_pos hk, hk]; exact own
    · rw [if_neg hk, others k hk]; exact Nat.le_add_right _ _
  calc sumPumps g = ∑ k, g k := (Fin.sum_univ_def g).symm
    _ ≤ ∑ k, (f k + if k = n then c else 0) := Finset.sum_le_sum fun k _ => each k
    _ = sumPumps f + c := by rw [Finset.sum_add_distrib, Finset.sum_ite_eq' Finset.univ n, if_pos (Finset.mem_univ n), Fin.sum_univ_def]; rfl

/-- A grant adds at most the power of its motor to the connected load. -/
theorem deliverGrant_connected (st : Station) (m : Motor) :
    (st.deliverGrant m).connectedLoad ≤ st.connectedLoad + st.motorPower m := by
  have shifts := deliverGrant_shifts (.refl st) m
  cases m with
  | pump n =>
    have rake : (st.deliverGrant (.pump n)).rakeLoad = st.rakeLoad := by
      have record : (st.deliverGrant (.pump n)).rkc = st.rkc := (rake_of_rakeSide (st.grantPump_rakeSide n)).1
      rw [Station.rakeLoad, record, shifts.outer.consts, Station.rakeLoad]
    have power (k : PumpNo) : (st.deliverGrant (.pump n)).power k = st.power k :=
      congrArg PumpSettings.ratedPower (shifts.settings k)
    rw [Station.connectedLoad, Station.connectedLoad, rake, Nat.add_right_comm]
    refine Nat.add_le_add_right (sumPumps_le_add (n := n) ?_ fun k other => ?_) _
    · refine Nat.le_trans ?_ (Nat.le_add_left _ _)
      rw [power]
      split
      · exact Nat.le_refl _
      · exact Nat.zero_le _
    · have record : (st.deliverGrant (.pump n)).pumps[k] = st.pumps[k] := congrArg Prod.fst (Station.grantPump_pumpSide st k other)
      simp only [Station.connects, shifts.seen, record, power]
      rfl
  | rake =>
    have pumps : (st.deliverGrant .rake).pumps = st.pumps := (dutySide_eq_iff.mp st.grantRake_dutySide).2
    have load : (st.deliverGrant .rake).rakeLoad ≤ st.consts.rakeKw := by
      rw [Station.rakeLoad, shifts.outer.consts]
      split
      · exact Nat.le_refl _
      · exact Nat.zero_le _
    have others : (st.deliverGrant .rake).connects = st.connects ∧ (st.deliverGrant .rake).power = st.power := by
      constructor <;> funext k
      · rw [Station.connects, shifts.seen, pumps]; rfl
      · rw [Station.power, pumps]; rfl
    rw [Station.connectedLoad, Station.connectedLoad, others.1, others.2]
    exact Nat.add_le_add (Nat.le_add_right _ _) load |>.trans (Nat.le_refl _)

theorem grant_connected {st : Station} {m : Motor} (budget : st.budgetFits m = true) :
    (st.grant m).connectedLoad ≤ (st.grant m).activeLimit := by
  simp only [Station.budgetFits, Bool.and_eq_true, decide_eq_true_eq] at budget
  have held (t : Station) : t.holdNewHead.connectedLoad = t.connectedLoad := by
    unfold Station.holdNewHead
    split <;> rfl
  have taken : (st.grantTaken m).connectedLoad = st.connectedLoad ∧ (st.grantTaken m).motorPower m = st.motorPower m := by
    cases m <;> exact ⟨rfl, rfl⟩
  have added := deliverGrant_connected (st.grantTaken m) m
  rw [taken.1, taken.2] at added
  rw [(grant_shifts st m).activeLimit, grant_eq, held]
  exact added.trans budget.1

end Sys2Proof.Machine
end

section
/-! PROOFS. SPACING_EXPIRY and BUDGET_EXPIRY: the head of the queue is judged (R81 to R85). -/

namespace Sys2Proof.Machine

/-! ### The grant's record through the motor's own part -/

/-- The last grant and the spacing armed from it (R81). -/
def Station.grantRecord (st : Station) : Option Nat × Option Nat := (st.stc.lastGrant, st.stc.spacingExpiry)

theorem Station.marks_grant (st : Station) : (st.marks.lastGrant, st.marks.spacingExpiry) = st.grantRecord := rfl

theorem grantTaken_record (st : Station) (m : Motor) :
    (st.grantTaken m).grantRecord = (some st.uptime, some (st.uptime + 10 * st.consts.startSpacing)) := by
  rw [← Station.marks_grant, grantTaken_marks]
  rfl

/-- The rake's own moves leave it. -/
theorem rakeKeeps_grantRecord (x : Option Nat × Option Nat) : RakeKeeps fun st => st.grantRecord = x where
  rkc _ _ h := h
  drive _ _ h := h
  ring _ h := h
  enqueue a h := by rw [← Station.marks_grant, Station.enqueue_marks]; exact h
  withdraw _ h := h
  jammed a h := by rw [← Station.marks_grant, Station.report_marks]; exact h

theorem deliverGrant_keeps_grant (st : Station) (m : Motor) : (st.deliverGrant m).grantRecord = st.grantRecord := by
  cases m with
  | rake => exact (rakeKeeps_grantRecord st.grantRecord).grantRake rfl
  | pump n =>
    by_cases waits : st.pumps[n].state = .waiting
    · rw [← Station.marks_grant, Station.deliverGrant, (grantPump_waiting waits).2.2.1]
      rfl
    · rw [Station.deliverGrant, Station.grantPump, if_neg waits]

/-! ### The head judged -/

section

variable {v : Station} (heard : v.stc.heard = true) (within : v.overloaded = false)

include heard within

theorem settleStc_idle (empty : v.stc.queue = []) : v.settleStc = v.eventEnd := by
  rw [settleStc_within heard within, grantTest_empty empty]

variable {e : QEntry} {es : List QEntry} (queue : v.stc.queue = e :: es)

include queue

theorem settleStc_holds_spacing (fits : v.budgetFits e.motor = true) (young : v.spacingElapsed = false) :
    v.settleStc = (v.hold .spacing).eventEnd := by
  rw [settleStc_within heard within, grantTest_spacing queue fits young]

theorem settleStc_holds_budget (exceeds : v.budgetFits e.motor = false) : v.settleStc = (v.hold .budget).eventEnd := by
  rw [settleStc_within heard within, grantTest_budget queue exceeds]

theorem settleStc_grants (fits : v.budgetFits e.motor = true) (elapsed : v.spacingElapsed = true) :
    v.settleStc = (v.grant e.motor).eventEnd := by
  rw [settleStc_within heard within, grantTest_grants queue fits elapsed]

/-- A head held for SPACING ends a hold for BUDGET (R85). -/
theorem spacing_held (fits : v.budgetFits e.motor = true) (young : v.spacingElapsed = false) :
    let t := v.settleStc
    t.stc.queue = { e with hold := .spacing } :: es ∧ t.pumps = v.pumps ∧ t.rkc = v.rkc ∧ t.stc.lastGrant = v.stc.lastGrant ∧
      t.stc.budgetSince = none ∧ t.stc.capacityHeld = false := by
  have head := hold_queue queue .spacing
  have unheld : (v.hold .spacing).stc.budgetHeld = false := by rw [StartControl.budgetHeld, head]; rfl
  rw [settleStc_holds_spacing heard within queue fits young]
  dsimp only
  rw [eventEnd_stc, unheld]
  exact ⟨head, eventEnd_pumps _, eventEnd_rkc _, rfl, rfl, rfl⟩

/-- A head held for BUDGET is held since the event that first found it so (R85). -/
theorem budget_held (exceeds : v.budgetFits e.motor = false) :
    let t := v.settleStc
    t.stc.queue = { e with hold := .budget } :: es ∧ t.pumps = v.pumps ∧ t.rkc = v.rkc ∧ t.stc.lastGrant = v.stc.lastGrant ∧
      t.stc.budgetSince = some (v.stc.budgetSince.getD v.uptime) ∧ t.stc.capacityHeld = v.stc.capacityHeld ∧
      t.alt.points[Alarm.capacityHeld] = v.alt.points[Alarm.capacityHeld] := by
  have head := hold_queue queue .budget
  have held : (v.hold .budget).stc.budgetHeld = true := by rw [StartControl.budgetHeld, head]; rfl
  have point := eventEnd_points (v.hold .budget) (k := Alarm.capacityHeld) (by decide) (.inl held)
  rw [settleStc_holds_budget heard within queue exceeds]
  dsimp only
  rw [eventEnd_stc, held]
  exact ⟨head, eventEnd_pumps _, eventEnd_rkc _, rfl, rfl, Bool.true_and _, point⟩

/-! ### A grant at the end of an event -/

variable (fits : v.budgetFits e.motor = true) (elapsed : v.spacingElapsed = true)

include fits elapsed

theorem granted_loads : v.settleStc.connectedLoad ≤ v.settleStc.activeLimit ∧ v.settleStc.committedLoad ≤ v.settleStc.activeLimit := by
  rw [settleStc_grants heard within queue fits elapsed, eventEnd_connectedLoad, eventEnd_committedLoad, eventEnd_activeLimit]
  exact ⟨grant_connected fits, grant_fits fits⟩

theorem granted_record : v.settleStc.stc.lastGrant = some v.uptime ∧
    v.settleStc.stc.spacingExpiry = some (v.uptime + 10 * v.consts.startSpacing) := by
  have delivered := (deliverGrant_keeps_grant (v.grantTaken e.motor) e.motor).trans (grantTaken_record v e.motor)
  rw [← Station.marks_grant, ← holdNewHead_marks, Station.marks_grant, ← grant_eq] at delivered
  rw [settleStc_grants heard within queue fits elapsed, eventEnd_stc]
  exact Prod.mk.inj delivered

theorem granted_pump {n : PumpNo} (motor : e.motor = .pump n) (waits : v.pumps[n].state = .waiting) :
    let t := v.settleStc
    t.pumps = v.pumps.set n (v.pumps[n].granted v.uptime) ∧ t.ctu.pumpRun[n] = true ∧ t.queued (.pump n) = false := by
  have waiting : (v.grantTaken (.pump n)).pumps[n].state = .waiting := waits
  obtain ⟨pumps, output, -, queued⟩ := grantPump_waiting waiting
  rw [settleStc_grants heard within queue fits elapsed, motor, grant_eq]
  dsimp only
  rw [eventEnd_pumps, eventEnd_pumpRun, eventEnd_queued, holdNewHead_queued, holdNewHead_kept]
  exact ⟨pumps, output, (queued _).trans (grantTaken_unqueued ..)⟩

theorem granted_rake (motor : e.motor = .rake) (waits : v.rkc.state = .waiting) (trip : v.settled .torqueTrip = false)
    (top : v.rkc.homing = true → v.settled .limTop = false) (bottom : v.rkc.homing = false → v.settled .limBottom = false) :
    let t := v.settleStc
    t.pumps = v.pumps ∧ t.queued .rake = false ∧ t.rkc.retries = v.consts.retries ∧ t.rkc.state = v.rkc.firstPhase ∧
      t.rkc.demand = (v.rkc.homing && v.rkc.demand) ∧
      t.ctu.drive = v.ctu.drive.request v.clock v.rkc.firstPhase.direction := by
  obtain ⟨state, retries, demand, drive, -, entries⟩ := grantRake_clear (st := v.grantTaken .rake) waits trip top bottom
  have pumps : (v.grantTaken .rake).grantRake.pumps = v.pumps := (dutySide_eq_iff.mp (v.grantTaken .rake).grantRake_dutySide).2
  have unqueued : (v.grantTaken .rake).grantRake.queued .rake = false := by
    rw [Station.queued, entries]
    exact grantTaken_unqueued v .rake
  rw [settleStc_grants heard within queue fits elapsed, motor, grant_eq]
  dsimp only
  rw [eventEnd_pumps, eventEnd_rkc, eventEnd_drive, eventEnd_queued, holdNewHead_queued, holdNewHead_kept]
  exact ⟨pumps, unqueued, retries, state, demand, drive⟩

end

/-! ### The expiries -/

/-- The spacing expiry reaches the Start Controller (R81). -/
def Station.spacingDue (u : Station) : Station := ({ u with stc := { u.stc with spacingExpiry := none } } : Station).ring

/-- The budget expiry turns CAPACITY_HELD on and reaches the Start Controller (R85). -/
def Station.budgetDue (u : Station) : Station :=
  (({ u with stc := { u.stc with capacityHeld := true } } : Station).report Alarm.capacityHeld true).ring

/-- An expiry that is read at its own moment has its effect when it comes due. -/
theorem Station.armed_live {st u : Station} {expiry : Station → Option Nat} (f : Station → Station) (h : st.comesDue (expiry st) u) :
    st.live (fun t => t.atTick (expiry t) f) = f u := by
  rw [Station.live_running _ _ h.1, ← Station.comesDue_live f h, Station.live_running _ _ h.1]

theorem exec_spacingExpiry {s : State} {u : Station} (h : s.st.comesDue s.st.stc.spacingExpiry u) :
    exec .spacingExpiry s = .next { s with st := u.spacingDue.settleStc } :=
  congrArg (fun x : Station => Host.Outcome.next (State.mk x s.pending))
    (Station.armed_live (expiry := fun t => t.stc.spacingExpiry) Station.spacingExpired h)

theorem exec_budgetExpiry {s : State} {u : Station} (h : s.st.comesDue s.st.stc.budgetExpiry u) :
    exec .budgetExpiry s = .next { s with st := u.budgetDue.settleStc } :=
  congrArg (fun x : Station => Host.Outcome.next (State.mk x s.pending))
    (Station.armed_live (expiry := fun t => t.stc.budgetExpiry) Station.budgetExpired h)

/-- A moment that comes moves nothing but the clock. -/
theorem Station.comesDue_clock {st u : Station} {expiry : Option Nat} (h : st.comesDue expiry u) : ∃ c, u = { st with clock := c } := by
  obtain ⟨_, _, _, reached⟩ := h
  exact Station.reach_clock reached

/-- The counts of a pump granted are held at their tops, and its confirm window begins (R97). -/
theorem PumpRec.granted_counts (p : PumpRec) (now : Nat) :
    (p.granted now).timer = some (now + 10 * p.settings.confirmTime) ∧ (p.granted now).startsToday = min 65535 (p.startsToday + 1) ∧
    (p.granted now).startsTotal = min 4294967295 (p.startsTotal + 1) := by
  simp only [PumpRec.granted, secs, satAdd, Config.top16, Config.top32, and_self]

/-- The part of O44 about SPACING_EXPIRY. -/
theorem spacingExpiry_judges_the_head (s : State) (u : Station) (due : s.st.comesDue s.st.stc.spacingExpiry u)
    (within : s.st.overloaded = false) :
    ∃ t, exec .spacingExpiry s = .next t ∧ t.pending = s.pending ∧ KeepsOuter u t.st ∧
      (s.st.stc.queue = [] → t.st.stc.queue = [] ∧ t.st.stc.spacingExpiry = none ∧ t.st.pumps = s.st.pumps ∧
        t.st.rkc = s.st.rkc) ∧
      ∀ e es, s.st.stc.queue = e :: es →
        (u.budgetFits e.motor = true → u.spacingElapsed = false →
          t.st.stc.queue = { e with hold := .spacing } :: es ∧ t.st.pumps = s.st.pumps ∧ t.st.rkc = s.st.rkc ∧
          t.st.stc.lastGrant = s.st.stc.lastGrant ∧ t.st.stc.budgetSince = none ∧ t.st.stc.capacityHeld = false) ∧
        (u.budgetFits e.motor = false →
          t.st.stc.queue = { e with hold := .budget } :: es ∧ t.st.pumps = s.st.pumps ∧ t.st.rkc = s.st.rkc ∧
          t.st.stc.lastGrant = s.st.stc.lastGrant ∧
          t.st.stc.budgetSince = some (s.st.stc.budgetSince.getD u.uptime)) ∧
        (u.budgetFits e.motor = true → u.spacingElapsed = true →
          t.st.stc.lastGrant = some u.uptime ∧ t.st.stc.spacingExpiry = some (u.uptime + 10 * s.st.consts.startSpacing) ∧
          (∀ n : PumpNo, e.motor = .pump n → s.st.pumps[n].settings.installed = true → s.st.pumps[n].state = .waiting →
            let a := s.st.pumps[n]
            let b := t.st.pumps[n]
            b.state = .starting ∧ t.st.ctu.pumpRun[n] = true ∧ t.st.queued (.pump n) = false ∧
            b.history = a.history.dropWhile (fun g => decide (g + 36000 < u.uptime)) ++ [u.uptime] ∧
            b.startsToday = min 65535 (a.startsToday + 1) ∧ b.startsTotal = min 4294967295 (a.startsTotal + 1) ∧
            b.demand = a.demand ∧ b.shed = false ∧ b.deferred = .none ∧ b.runLost = a.runLost ∧
            b.timer = some (u.uptime + 10 * a.settings.confirmTime) ∧ t.st.connectedLoad ≤ t.st.activeLimit ∧
            t.st.committedLoad ≤ t.st.activeLimit ∧ ∀ k, k ≠ n → t.st.pumps[k] = s.st.pumps[k]) ∧
          (e.motor = .rake → s.st.rkc.state = .waiting → s.st.settled .torqueTrip = false →
            (s.st.rkc.homing = true → s.st.settled .limTop = false) →
            (s.st.rkc.homing = false → s.st.settled .limBottom = false) →
            t.st.pumps = s.st.pumps ∧ t.st.queued .rake = false ∧ t.st.rkc.retries = s.st.consts.retries ∧
            t.st.rkc.state = (if s.st.rkc.homing then .raising else .lowering) ∧
            t.st.rkc.demand = (s.st.rkc.homing && s.st.rkc.demand) ∧
            t.st.ctu.drive = s.st.ctu.drive.request u.clock t.st.rkc.state.direction ∧
            t.st.connectedLoad ≤ t.st.activeLimit ∧ t.st.committedLoad ≤ t.st.activeLimit)) := by
  have ran := exec_spacingExpiry due
  obtain ⟨c, rfl⟩ := Station.comesDue_clock due
  have outer : KeepsOuter { s.st with clock := c } (Station.spacingDue { s.st with clock := c }).settleStc :=
    ((keeps_stc _ _).trans (keeps_ring _)).trans (keeps_settleStc _)
  have idle := settleStc_idle (v := Station.spacingDue { s.st with clock := c }) rfl within
  have spaced := @spacing_held (Station.spacingDue { s.st with clock := c }) rfl within
  have held := @budget_held (Station.spacingDue { s.st with clock := c }) rfl within
  have loads := @granted_loads (Station.spacingDue { s.st with clock := c }) rfl within
  have record := @granted_record (Station.spacingDue { s.st with clock := c }) rfl within
  have pump := @granted_pump (Station.spacingDue { s.st with clock := c }) rfl within
  have rake := @granted_rake (Station.spacingDue { s.st with clock := c }) rfl within
  generalize (Station.spacingDue { s.st with clock := c }).settleStc = t at ran outer idle spaced held loads record pump rake
  refine ⟨_, ran, rfl, outer, fun empty => ?_, fun e es queue => ⟨spaced queue, fun exceeds => ?_, fun fits elapsed => ?_⟩⟩
  · dsimp only
    rw [idle empty, eventEnd_stc]
    exact ⟨empty, rfl, eventEnd_pumps _, eventEnd_rkc _⟩
  · obtain ⟨head, pumps, rkc, lastGrant, since, -, -⟩ := held queue exceeds
    exact ⟨head, pumps, rkc, lastGrant, since⟩
  obtain ⟨connected, committed⟩ := loads queue fits elapsed
  obtain ⟨lastGrant, spacing⟩ := record queue fits elapsed
  refine ⟨lastGrant, spacing, fun n motor _ waits => ?_, fun motor waits trip top bottom => ?_⟩
  · obtain ⟨pumps, output, unqueued⟩ := pump queue fits elapsed motor waits
    obtain ⟨timer, today, total⟩ := s.st.pumps[n].granted_counts (Station.uptime { s.st with clock := c })
    dsimp only
    rw [pump_of_set pumps]
    refine ⟨rfl, output, unqueued, rfl, today, total, rfl, rfl, rfl, rfl, timer, connected, committed, fun k other => ?_⟩
    rw [pumps, set_other _ _ other]
    rfl
  · obtain ⟨pumps, unqueued, retries, state, demand, drive⟩ := rake queue fits elapsed motor waits trip top bottom
    dsimp only
    refine ⟨pumps, unqueued, retries, state, demand, ?_, connected, committed⟩
    rw [state, drive]
    rfl

/-- The loads and the budget are judged as before the expiry. -/
theorem budgetDue_loads (u : Station) :
    u.budgetDue.overloaded = u.overloaded ∧ ∀ m, u.budgetDue.budgetFits m = u.budgetFits m := by
  unfold Station.budgetDue
  obtain ⟨t, q, b, shape⟩ := Station.report_shape
    ({ u with stc := { u.stc with capacityHeld := true } } : Station) Alarm.capacityHeld true
  rw [shape]
  exact ⟨rfl, fun m => by cases m <;> rfl⟩

theorem budgetDue_stc (u : Station) : u.budgetDue.stc = { u.stc with capacityHeld := true, heard := true } :=
  congrArg (fun x : StartControl => { x with heard := true }) (Station.report_stc ..)

/-- The part of O44 about BUDGET_EXPIRY. -/
theorem budgetExpiry_judges_the_head (s : State) (u : Station) (due : s.st.comesDue s.st.stc.budgetExpiry u)
    (within : s.st.overloaded = false) :
    ∃ t, exec .budgetExpiry s = .next t ∧ t.pending = s.pending ∧ KeepsOuter u t.st ∧
      ∀ e es, s.st.stc.queue = e :: es → u.budgetFits e.motor = false →
        t.st.stc.capacityHeld = true ∧ t.st.alt.points[Alarm.capacityHeld].condition = true ∧
        t.st.stc.budgetSince = s.st.stc.budgetSince ∧ t.st.stc.queue = { e with hold := .budget } :: es ∧
        t.st.pumps = s.st.pumps ∧ t.st.rkc = s.st.rkc := by
  have ran := exec_budgetExpiry due
  have running : s.st.stc.budgetSince.isSome = true := by
    obtain ⟨-, e, armed, -⟩ := due
    unfold StartControl.budgetExpiry at armed
    split at armed
    · cases armed
    · exact Option.isSome_map.symm.trans (congrArg Option.isSome armed)
  obtain ⟨c, rfl⟩ := Station.comesDue_clock due
  have outer : KeepsOuter { s.st with clock := c } (Station.budgetDue { s.st with clock := c }).settleStc :=
    (((keeps_stc _ _).trans (keeps_report _ _ _)).trans (keeps_ring _)).trans (keeps_settleStc _)
  obtain ⟨overloaded, fits⟩ := budgetDue_loads { s.st with clock := c }
  have stc := budgetDue_stc { s.st with clock := c }
  have pumps : (Station.budgetDue { s.st with clock := c }).pumps = s.st.pumps := Station.report_pumps ..
  have rkc : (Station.budgetDue { s.st with clock := c }).rkc = s.st.rkc := Station.report_rkc ..
  have point : (Station.budgetDue { s.st with clock := c }).alt.points[Alarm.capacityHeld].condition = true :=
    Station.report_condition _ _ _
  generalize Station.budgetDue { s.st with clock := c } = v at ran outer overloaded fits stc pumps rkc point
  refine ⟨_, ran, rfl, outer, fun e es queue exceeds => ?_⟩
  obtain ⟨head, pumped, raked, -, since, capacity, shown⟩ := budget_held (v := v) (by rw [stc]) (overloaded.trans within)
    (by rw [stc]; exact queue) ((fits _).trans exceeds)
  obtain ⟨b, begun⟩ := Option.isSome_iff_exists.mp running
  refine ⟨capacity.trans (by rw [stc]), (congrArg PointRec.condition shown).trans point, ?_, head, pumped.trans pumps, raked.trans rkc⟩
  rw [since, stc, begun]
  rfl

/-- Settles O44. -/
theorem expiriesJudgeTheHead : Obligations.ExpiriesJudgeTheHead :=
  ⟨startQueue_keeps_order, shedPass_takes_the_candidates, spacingExpiry_judges_the_head, budgetExpiry_judges_the_head⟩

end Sys2Proof.Machine
end

section
/-! PROOFS. What the Start Controller's event leaves of a pump that it does not touch, and of the points of other owners (R82, R86, R89,
R111). -/

namespace Sys2Proof.Machine

/-! ### The alarm table through the moves of motors -/

section

variable (st : Station) (n : PumpNo)

@[simp] theorem Station.testPumpDown_alt : st.testPumpDown.alt = st.alt := by
  unfold Station.testPumpDown Station.alternate
  split
  · split <;> rfl
  · rfl

@[simp] theorem Station.enter_alt (s : PumpState) : (st.enter n s).alt = st.alt := by simp [Station.enter, apply_ite Station.alt]

@[simp] theorem Station.stopNow_alt : (st.stopNow n).alt = st.alt := by simp [Station.stopNow]

@[simp] theorem Station.clearDemand_alt : (st.clearDemand n).alt = st.alt := by
  unfold Station.clearDemand
  dsimp only
  split <;> rfl

@[simp] theorem Station.withdrawPump_alt : (st.withdrawPump n).alt = st.alt := by
  unfold Station.withdrawPump
  split <;> rfl

@[simp] theorem Station.enqueue_alt (m : Motor) : (st.enqueue m).alt = st.alt := by
  unfold Station.enqueue
  split <;> rfl

@[simp] theorem Station.shedPump_alt : (st.shedPump n).alt = st.alt := by
  have unshed (t : Station) : (t.reportUnshed n).alt = t.alt := rfl
  simp [Station.shedPump, unshed, apply_ite Station.alt]

@[simp] theorem Station.motorFault_alt : (st.motorFault n).alt = st.alt := by simp [Station.motorFault, Station.enterFaulted]

@[simp] theorem Station.enterAuto_alt : (st.enterAuto n).alt = st.alt := by
  unfold Station.enterAuto
  dsimp only
  split
  · simp
  · split <;> simp

@[simp] theorem Station.leaveAuto_alt (s : PumpState) : (st.leaveAuto n s).alt = st.alt := by simp [Station.leaveAuto]

theorem Station.selectorChange_alt (pos : Position) : (st.selectorChange n pos).alt = st.alt := by
  unfold Station.selectorChange
  split <;> simp

theorem Station.pumpNotice_alt : (st.pumpNotice n).alt = st.alt := by
  unfold Station.pumpNotice
  split
  · exact st.selectorChange_alt n _
  · rfl

end

/-! ### The points of other owners -/

theorem Alarm.runLost_ne (n : PumpNo) {k : PointNo} (h : 12 ≤ k.val) : Alarm.runLost n ≠ k := by
  have below : (Alarm.runLost n).val < 12 := show 6 + n.val < 12 by omega
  exact fun e => by rw [e] at below; omega

theorem Alarm.runLost_ne_fault (n m : PumpNo) : Alarm.runLost n ≠ Alarm.pumpFault m := Alarm.ne_pumpFault m (Nat.le_add_right 6 n.val)

theorem Alarm.runLost_inj {n m : PumpNo} (h : n ≠ m) : Alarm.runLost n ≠ Alarm.runLost m := by
  intro e
  have same : 6 + n.val = 6 + m.val := congrArg Fin.val e
  exact h (Fin.ext (Nat.add_left_cancel same))

section

variable {k : PointNo}

theorem reportPump_point (st : Station) (n : PumpNo) (fault : k ≠ Alarm.pumpFault n) (lost : k ≠ Alarm.runLost n)
    (limited : k ≠ Alarm.startLimited) : (st.reportPump n).alt.points[k] = st.alt.points[k] := by
  unfold Station.reportPump Station.judgeStartLimited
  rw [Station.report_others _ _ limited, Station.report_others _ _ lost, Station.report_others _ _ fault]

theorem shedPump_point (st : Station) (n : PumpNo) (fault : k ≠ Alarm.pumpFault n) (lost : k ≠ Alarm.runLost n)
    (limited : k ≠ Alarm.startLimited) : ((st.shedPump n).reportPump n).alt.points[k] = st.alt.points[k] := by
  rw [reportPump_point _ n fault lost limited, Station.shedPump_alt]

theorem grantPump_point (st : Station) (n : PumpNo) (fault : k ≠ Alarm.pumpFault n) (lost : k ≠ Alarm.runLost n)
    (limited : k ≠ Alarm.startLimited) : (st.grantPump n).alt.points[k] = st.alt.points[k] := by
  unfold Station.grantPump
  split
  · dsimp only
    rw [reportPump_point _ n fault lost limited, Station.enter_alt]
    rfl
  · rfl

/-- The rake reports RAKE_JAMMED alone. -/
theorem rakeKeeps_point (other : k ≠ Alarm.rakeJammed) (p : PointRec) : RakeKeeps fun st => st.alt.points[k] = p where
  rkc _ _ h := h
  drive _ _ h := h
  ring _ h := h
  enqueue a h := by rw [Station.enqueue_alt]; exact h
  withdraw _ h := h
  jammed a h := (a.report_others _ other).trans h

end

/-- No motor reports GEN_RUNNING. -/
theorem stcKeeps_genRunning (p : PointRec) : StcKeeps fun st => st.alt.points[Alarm.genRunning] = p where
  stc _ _ h := h
  report a k on hk h := (a.report_others on (by obtain rfl | rfl := hk <;> decide)).trans h
  shedPump a n h := (shedPump_point a n (Alarm.ne_pumpFault n (by decide)) (Alarm.runLost_ne n (by decide)).symm (by decide)).trans h
  shedRake _ h := (rakeKeeps_point (by decide) p).shedRake h
  grantPump a n h := (grantPump_point a n (Alarm.ne_pumpFault n (by decide)) (Alarm.runLost_ne n (by decide)).symm (by decide)).trans h
  grantRake _ h := (rakeKeeps_point (by decide) p).grantRake h

theorem settleStc_genRunning (st : Station) : st.settleStc.alt.points[Alarm.genRunning] = st.alt.points[Alarm.genRunning] :=
  (stcKeeps_genRunning _).settleStc rfl

theorem reportPump_genRunning (st : Station) (n : PumpNo) :
    (st.reportPump n).alt.points[Alarm.genRunning] = st.alt.points[Alarm.genRunning] :=
  reportPump_point st n (Alarm.ne_pumpFault n (by decide)) (Alarm.runLost_ne n (by decide)).symm (by decide)

/-! ### A pump at rest -/

/-- The record of pump n and its output. -/
def Station.standing (st : Station) (n : PumpNo) : PumpRec × Bool := (st.pumps[n], st.ctu.pumpRun[n])

theorem standing_of_pumpSide {a b : Station} {n : PumpNo} (h : b.pumpSide n = a.pumpSide n) : b.standing n = a.standing n := by
  simp only [Station.pumpSide, Prod.mk.injEq] at h
  rw [Station.standing, h.1, h.2.1]
  rfl

@[simp] theorem Station.report_standing (st : Station) (k : PointNo) (on : Bool) (n : PumpNo) :
    (st.report k on).standing n = st.standing n := by simp [Station.standing]

@[simp] theorem Station.reportPump_standing (st : Station) (m n : PumpNo) : (st.reportPump m).standing n = st.standing n := by
  simp [Station.standing]

theorem shedPump_standing {st : Station} {n : PumpNo} (still : st.pumps[n].state.inMotion = false) (m : PumpNo) :
    ((st.shedPump m).reportPump m).standing n = st.standing n := by
  rw [Station.reportPump_standing]
  by_cases own : n = m
  · subst own
    rw [shedPump_resting still]
    rfl
  · exact standing_of_pumpSide (Station.shedPump_pumpSide st n own)

/-- A grant reaches a pump in WAITING alone. -/
theorem grantPump_standing {st : Station} {n : PumpNo} (notWaiting : st.pumps[n].state ≠ .waiting) (m : PumpNo) :
    (st.grantPump m).standing n = st.standing n := by
  by_cases own : n = m
  · subst own
    rw [Station.grantPump, if_neg notWaiting]
  · exact standing_of_pumpSide (Station.grantPump_pumpSide st n own)

/-- A pump at rest and its output stand through the Start Controller's event. -/
theorem stcKeeps_rest {x : PumpRec × Bool} (n : PumpNo) (rest : x.1.state.atRest) : StcKeeps fun st => st.standing n = x where
  stc _ _ h := h
  report a k on _ h := by rw [Station.report_standing]; exact h
  shedPump a m h := (shedPump_standing (by subst h; exact rest.2) m).trans h
  shedRake a h := (standing_of_pumpSide (a.shedRake_pumpSide n)).trans h
  grantPump a m h := (grantPump_standing (by subst h; exact rest.1) m).trans h
  grantRake a h := (standing_of_pumpSide (a.grantRake_pumpSide n)).trans h

theorem settleStc_rest {st : Station} {n : PumpNo} (rest : st.pumps[n].state.atRest) : st.settleStc.standing n = st.standing n :=
  (stcKeeps_rest n (x := st.standing n) rest).settleStc rfl

/-! ### RUN_LOST -/

/-- RUN_n_LOST holds its condition (Table 6-4). -/
def Station.lostShown (st : Station) (n : PumpNo) : Prop := st.alt.points[Alarm.runLost n].condition = st.pumps[n].runLost

theorem reportPump_lostShown (st : Station) (n : PumpNo) : (st.reportPump n).lostShown n := by
  unfold Station.lostShown
  rw [Station.reportPump_pumps]
  unfold Station.reportPump Station.judgeStartLimited
  rw [Station.report_others _ _ (Alarm.runLost_ne n (by decide)), Station.report_condition]
  simp

/-- A pump at rest with its RUN_LOST condition through the Start Controller's event. -/
theorem stcKeeps_lost {x : PumpRec × Bool} (n : PumpNo) (rest : x.1.state.atRest) :
    StcKeeps fun st => st.standing n = x ∧ st.alt.points[Alarm.runLost n].condition = x.1.runLost where
  stc _ _ h := h
  report a k on hk h := by
    have other : Alarm.runLost n ≠ k := Alarm.runLost_ne n (by obtain rfl | rfl := hk <;> decide)
    rw [Station.report_standing, Station.report_others _ _ other]
    exact h
  shedPump a m h := by
    have stands := (stcKeeps_rest n rest).shedPump a m h.1
    refine ⟨stands, ?_⟩
    by_cases own : n = m
    · subst own
      exact (reportPump_lostShown _ n).trans (congrArg (fun x : PumpRec × Bool => x.1.runLost) stands)
    · rw [shedPump_point a m (Alarm.runLost_ne_fault n m) (Alarm.runLost_inj own) (Alarm.runLost_ne n (by decide))]
      exact h.2
  shedRake a h := by
    have point := (rakeKeeps_point (Alarm.runLost_ne n (by decide)) _).shedRake (a := a) rfl
    exact ⟨(stcKeeps_rest n rest).shedRake a h.1, (congrArg PointRec.condition point).trans h.2⟩
  grantPump a m h := by
    refine ⟨(stcKeeps_rest n rest).grantPump a m h.1, ?_⟩
    by_cases own : n = m
    · subst own
      rw [Station.grantPump, if_neg (by obtain ⟨rfl, -⟩ := h; exact rest.1)]
      exact h.2
    · rw [grantPump_point a m (Alarm.runLost_ne_fault n m) (Alarm.runLost_inj own) (Alarm.runLost_ne n (by decide))]
      exact h.2
  grantRake a h := by
    have point := (rakeKeeps_point (Alarm.runLost_ne n (by decide)) _).grantRake (a := a) rfl
    exact ⟨(stcKeeps_rest n rest).grantRake a h.1, (congrArg PointRec.condition point).trans h.2⟩

theorem settleStc_lostShown {st : Station} {n : PumpNo} (rest : st.pumps[n].state.atRest) (shown : st.lostShown n) :
    st.settleStc.alt.points[Alarm.runLost n].condition = st.pumps[n].runLost :=
  ((stcKeeps_lost n (x := st.standing n) rest).settleStc ⟨rfl, shown⟩).2

/-! ### With the loads within the limit -/

/-- The shed list counts against the connected load. -/
theorem overloaded_of_loads {st : Station} (connected : st.connectedLoad ≤ st.activeLimit) (committed : st.committedLoad ≤ st.activeLimit) :
    st.overloaded = false := by
  rw [Bool.eq_false_iff]
  exact fun exceeds => (overloaded_iff st).mp exceeds ⟨(Nat.sub_le _ _).trans connected, committed⟩

theorem grantTest_overloaded {st : Station} (within : st.overloaded = false) : st.grantTest.overloaded = false := by
  have held (h : Hold) : (st.hold h).overloaded = false := within
  unfold Station.grantTest
  split
  · exact within
  · split
    next fits =>
      split
      · exact overloaded_of_loads (grant_connected fits) (grant_fits fits)
      · exact held _
    · exact held _

theorem eventEnd_overloaded (st : Station) : st.eventEnd.overloaded = st.overloaded := by
  have shed : st.eventEnd.shedLoad = st.shedLoad := by
    simp only [Station.shedLoad, Station.power, eventEnd_pumps, eventEnd_stc]
  rw [Station.overloaded, Station.loadAfterShedding, eventEnd_activeLimit, eventEnd_connectedLoad, eventEnd_committedLoad, shed]
  rfl

/-- Loads within the limit stay within it (R82). -/
theorem settleStc_overloaded {st : Station} (within : st.overloaded = false) : st.settleStc.overloaded = false := by
  by_cases heard : st.stc.heard = true
  · rw [settleStc_within heard within, eventEnd_overloaded]
    exact grantTest_overloaded within
  · rw [settleStc_unheard (Bool.eq_false_iff.mpr heard)]
    exact within

section

variable {st : Station} {n : PumpNo}

theorem deliverGrant_standing (notWaiting : st.pumps[n].state ≠ .waiting) (m : Motor) :
    (st.deliverGrant m).standing n = st.standing n := by
  cases m with
  | pump k => exact grantPump_standing notWaiting k
  | rake => exact standing_of_pumpSide (st.grantRake_pumpSide n)

theorem grantTest_standing (notWaiting : st.pumps[n].state ≠ .waiting) : st.grantTest.standing n = st.standing n := by
  unfold Station.grantTest
  split
  · rfl
  next e _ _ =>
    split
    · split
      · rw [grant_eq, holdNewHead_kept]
        exact deliverGrant_standing (st := st.grantTaken e.motor) (by cases e.motor <;> exact notWaiting) e.motor |>.trans
          (by cases e.motor <;> rfl)
      · rfl
    · rfl

/-- Within the limit no event moves a pump that does not wait. -/
theorem settleStc_standing (within : st.overloaded = false) (notWaiting : st.pumps[n].state ≠ .waiting) :
    st.settleStc.standing n = st.standing n := by
  by_cases heard : st.stc.heard = true
  · rw [settleStc_within heard within, ← grantTest_standing notWaiting]
    simp [Station.standing]
  · rw [settleStc_unheard (Bool.eq_false_iff.mpr heard)]

/-- Nor a rake that does not wait. -/
theorem grantTest_rkc (notWaiting : st.rkc.state ≠ .waiting) : st.grantTest.rkc = st.rkc := by
  have delivered (t : Station) (same : t.rkc = st.rkc) (m : Motor) : (t.deliverGrant m).rkc = st.rkc := by
    cases m with
    | pump k => exact (rake_of_rakeSide (t.grantPump_rakeSide k)).1.trans same
    | rake =>
      rw [Station.deliverGrant, Station.grantRake, if_neg (by rw [same]; exact notWaiting)]
      exact same
  unfold Station.grantTest
  split
  · rfl
  next e _ _ =>
    split
    · split
      · rw [grant_eq, holdNewHead_kept]
        exact delivered _ (by cases e.motor <;> rfl) _
      · rfl
    · rfl

end

end Sys2Proof.Machine
end

section
/-! PROOFS. What a taken change of RUN_FB n makes of pump n, by its state (R98, R101, R103, R104). -/

namespace Sys2Proof.Machine

/-! ### A pump that the Start Controller's event does not move -/

/-- Pump n does not wait, and it is at rest or the loads lie within the limit: no event of the Start Controller moves it. -/
def Station.undisturbed (st : Station) (n : PumpNo) : Prop :=
  st.pumps[n].state ≠ .waiting ∧ (st.pumps[n].state.inMotion = false ∨ st.overloaded = false)

theorem undisturbed_of_rest {st : Station} {n : PumpNo} (rest : st.pumps[n].state.atRest) : st.undisturbed n := ⟨rest.1, .inl rest.2⟩

theorem undisturbed_congr {a b : Station} {n : PumpNo} (stands : b.standing n = a.standing n) (loads : b.overloaded = a.overloaded)
    (h : a.undisturbed n) : b.undisturbed n := by
  have record : b.pumps[n] = a.pumps[n] := congrArg Prod.fst stands
  rw [Station.undisturbed, record, loads]
  exact h

theorem settleStc_undisturbed {st : Station} {n : PumpNo} (h : st.undisturbed n) :
    st.settleStc.standing n = st.standing n ∧ st.settleStc.undisturbed n := by
  obtain ⟨notWaiting, still | within⟩ := h
  · have stands := settleStc_rest (st := st) ⟨notWaiting, still⟩
    have record : st.settleStc.pumps[n] = st.pumps[n] := congrArg Prod.fst stands
    exact ⟨stands, by rw [record]; exact notWaiting, .inl (by rw [record]; exact still)⟩
  · have stands := settleStc_standing within notWaiting
    have record : st.settleStc.pumps[n] = st.pumps[n] := congrArg Prod.fst stands
    exact ⟨stands, by rw [record]; exact notWaiting, .inr (settleStc_overloaded within)⟩

theorem report_overloaded (st : Station) (k : PointNo) (on : Bool) : (st.report k on).overloaded = st.overloaded := by
  obtain ⟨t, q, b, shape⟩ := Station.report_shape st k on
  rw [shape]
  rfl

theorem reportPump_overloaded (st : Station) (n : PumpNo) : (st.reportPump n).overloaded = st.overloaded := by
  simp only [Station.reportPump, Station.judgeStartLimited, report_overloaded]

/-! ### The handlings (R98, R101, R103, R104) -/

section

variable (st : Station) (n : PumpNo)

/-- The record of a pump confirmed running, and of one stopped at once for its deferred stop (R98, R100). -/
def PumpRec.confirmed (p : PumpRec) (now : Nat) : PumpRec := ({ p with runLost := false } : PumpRec).entered now .running

def PumpRec.confirmedStop (p : PumpRec) (now : Nat) : PumpRec := { p.confirmed now with deferred := .none }.entered now .stopping

/-- The record after a lost run (R103), after a stop confirmed (R101), after an uncommanded run (R104). -/
def PumpRec.lost (p : PumpRec) (now : Nat) : PumpRec := ({ p with deferred := .none, runLost := true } : PumpRec).entered now .resting

def PumpRec.uncommanded (p : PumpRec) (now : Nat) : PumpRec :=
  { ({ p with demand := false, shed := false, inhibit := false } : PumpRec).entered now .faulted with cause := some .uncommandedRun }

/-- STARTING to RUNNING. -/
def Station.running (st : Station) (n : PumpNo) : Station := (st.setPump n { st.pumps[n] with runLost := false }).enter n .running

theorem running_pump : (st.running n).pumps[n] = st.pumps[n].confirmed st.uptime := by
  simp [Station.running, PumpRec.confirmed, Station.uptime]

theorem running_standing : (st.running n).standing n = (st.pumps[n].confirmed st.uptime, st.ctu.pumpRun[n]) := by
  rw [Station.standing, running_pump]
  simp [Station.running]

theorem running_uptime : (st.running n).uptime = st.uptime := (keeps_enter _ n .running).uptime

theorem stopNow_standing : (st.stopNow n).standing n =
    ({ st.pumps[n] with deferred := .none }.entered st.uptime .stopping, false) := by
  rw [Station.standing, pump_of_set (stopNow_pump_eq st n), stopNow_pumpRun]

theorem runConfirmed_runs (deferred : st.pumps[n].deferred = .none ∨ st.pumps[n].deferred = .normal ∧ st.pumps[n].settings.minRun ≠ 0) :
    st.runConfirmed n = st.running n := by
  have confirmed := running_pump st n
  unfold Station.running at *
  unfold Station.runConfirmed
  dsimp only
  rw [confirmed]
  obtain none | ⟨normal, long⟩ := deferred
  · rw [PumpRec.confirmed, PumpRec.entered, none]
  · rw [PumpRec.confirmed, PumpRec.entered, normal]
    exact if_neg long

theorem runConfirmed_stops (deferred : st.pumps[n].deferred = .cutoff ∨ st.pumps[n].deferred = .normal ∧ st.pumps[n].settings.minRun = 0) :
    (st.runConfirmed n).standing n = (st.pumps[n].confirmedStop st.uptime, false) := by
  have confirmed := running_pump st n
  have stops : st.runConfirmed n = (st.running n).stopNow n := by
    unfold Station.running at *
    unfold Station.runConfirmed
    dsimp only
    rw [confirmed]
    obtain cutoff | ⟨normal, zero⟩ := deferred
    · rw [PumpRec.confirmed, PumpRec.entered, cutoff]
    · rw [PumpRec.confirmed, PumpRec.entered, normal]
      exact if_pos zero
  rw [stops, stopNow_standing, confirmed, running_uptime]
  rfl

theorem enterResting_standing (off : st.pumps[n].settings.minOff ≠ 0) :
    (st.enterResting n).standing n = (st.pumps[n].entered st.uptime .resting, st.ctu.pumpRun[n]) := by
  have record : (st.enter n .resting).pumps[n] = st.pumps[n].entered st.uptime .resting := by simp
  have rests : st.enterResting n = st.enter n .resting := by
    unfold Station.enterResting
    dsimp only
    rw [record]
    exact if_neg off
  rw [rests, Station.standing, record, Station.enter_pumpRun]

theorem lostRun_standing (off : st.pumps[n].settings.minOff ≠ 0) :
    (st.lostRun n).standing n = (st.pumps[n].lost st.uptime, false) := by
  have record : ((st.setPumpRun n false).setPump n { (st.setPumpRun n false).pumps[n] with deferred := .none, runLost := true }).pumps[n] =
      { st.pumps[n] with deferred := .none, runLost := true } := Station.setPump_self ..
  unfold Station.lostRun
  dsimp only
  rw [enterResting_standing _ _ (by rw [record]; exact off), record]
  simp [PumpRec.lost, Station.uptime, Station.setPumpRun]

theorem enterFaulted_pump (c : PumpCause) :
    (st.enterFaulted n c).pumps[n] = { st.pumps[n].entered st.uptime .faulted with cause := some c } := by
  simp [Station.enterFaulted]

theorem uncommandedRun_pump : (st.uncommandedRun n).pumps[n] = st.pumps[n].uncommanded st.uptime := by
  have uptime : (((st.withdrawPump n).clearDemand n).setInhibit n false).uptime = st.uptime :=
    ((((ControlRun.refl st).withdrawPump n).clearDemand n).setInhibit n _).keepsOuter.uptime
  have record : (((st.withdrawPump n).clearDemand n).setInhibit n false).pumps[n] =
      { st.pumps[n] with demand := false, shed := false, inhibit := false } := by simp [Station.setInhibit]
  rw [Station.uncommandedRun, enterFaulted_pump, uptime, record]
  rfl

end

/-! ### The loads as a start is confirmed -/

/-- RUN_FB on, a pump counts in both loads after its start is confirmed as before (Table 5-1). -/
theorem running_overloaded {st : Station} {n : PumpNo} (starting : st.pumps[n].state = .starting) (seen : st.stc.runFbSeen[n] = true) :
    (st.running n).overloaded = st.overloaded := by
  have shifts : Shifts st (st.running n) := ((Shifts.refl st).setPump n { st.pumps[n] with runLost := false }).enter n .running
  have record := running_pump st n
  have others {k : PumpNo} (other : k ≠ n) : (st.running n).pumps[k] = st.pumps[k] := by
    simp [Station.running, set_other _ _ other]
  have rkc : (st.running n).rkc = st.rkc :=
    (rake_of_rakeSide (show (st.running n).rakeSide = st.rakeSide by simp [Station.running])).1
  have shed : (st.running n).stc.shedPumps = st.stc.shedPumps := (enter_stc _ n .running).2.1
  have power : (st.running n).power = st.power := funext fun k => congrArg PumpSettings.ratedPower (shifts.settings k)
  have connects : (st.running n).connects = st.connects := by
    funext k
    by_cases own : k = n
    · subst own
      rw [Station.connects, Station.connects, shifts.seen, seen]
      rfl
    · rw [Station.connects, others own, shifts.seen]; rfl
  have commits : (st.running n).commits = st.commits := by
    funext k
    by_cases own : k = n
    · subst own
      rw [Station.commits, Station.commits, record, starting]
      rfl
    · rw [Station.commits, others own]; rfl
  have rake : (st.running n).rakeLoad = st.rakeLoad := by rw [Station.rakeLoad, rkc, shifts.outer.consts]; rfl
  simp only [Station.overloaded, Station.loadAfterShedding, Station.connectedLoad, Station.committedLoad, Station.shedLoad,
    shifts.activeLimit, connects, commits, power, rake, shed, shifts.seen]
  rfl

/-! ### The delivery to both owners (R49) -/

/-- The RUN_FB column already shows the contact of pump n. -/
theorem stcFeedback_seen {st : Station} {n : PumpNo} (seen : st.stc.runFbSeen[n] = st.settled (.runFb n)) :
    st.stcFeedback n = st.ring.settleStc := by
  have same : st.stc.runFbSeen.set n (st.settled (.runFb n)) = st.stc.runFbSeen := by
    rw [← seen]
    exact Vector.set_getElem_self _
  have column : st.seeFeedback n = st := by rw [Station.seeFeedback, same]
  rw [Station.stcFeedback, column]

/-- At `t` pump n is as its handling at `y` left it. -/
structure Reached (n : PumpNo) (y t : Station) : Prop where
  outer : KeepsOuter y t
  stands : y.undisturbed n → t.standing n = y.standing n ∧ t.undisturbed n
  fault : y.pumps[n].state.atRest → t.alt.points[Alarm.pumpFault n].condition = y.pumpFaultCondition n
  lost : y.pumps[n].state.atRest → t.alt.points[Alarm.runLost n].condition = y.pumps[n].runLost

namespace Reached

variable {n : PumpNo} {y t : Station}

theorem record (h : Reached n y t) (calm : y.undisturbed n) : t.pumps[n] = y.pumps[n] := congrArg Prod.fst (h.stands calm).1

/-- The reports of the pump (R111). -/
theorem reported (y : Station) (n : PumpNo) : Reached n y (y.reportPump n) where
  outer := keeps_reportPump y n
  stands calm := ⟨y.reportPump_standing n n, undisturbed_congr (y.reportPump_standing n n) (reportPump_overloaded y n) calm⟩
  fault _ := (reportPump_faultShown y n).trans (pumpFaultCondition_of_keeps (keeps_reportPump y n) (by rw [Station.reportPump_pumps]))
  lost _ := (reportPump_lostShown y n).trans (by rw [Station.reportPump_pumps])

/-- An event of the Start Controller. -/
theorem settleStc (h : Reached n y t) : Reached n y t.settleStc where
  outer := h.outer.trans (keeps_settleStc t)
  stands calm := by
    obtain ⟨stands, calm'⟩ := h.stands calm
    obtain ⟨kept, still⟩ := settleStc_undisturbed calm'
    exact ⟨kept.trans stands, still⟩
  fault rest := by
    have record := h.record (undisturbed_of_rest rest)
    have condition := pumpFaultCondition_of_keeps h.outer record
    have side := settleStc_pumpSide (st := t) (by rw [record]; exact rest) ((h.fault rest).trans condition.symm)
    exact (congrArg (fun x : PumpRec × Bool × PointRec => x.2.2.condition) side).trans (h.fault rest)
  lost rest := by
    have record := h.record (undisturbed_of_rest rest)
    have shown : t.lostShown n := (h.lost rest).trans (by rw [record])
    rw [settleStc_lostShown (by rw [record]; exact rest) shown, record]

theorem ring (h : Reached n y t) : Reached n y t.ring := ⟨h.outer.trans (keeps_ring t), h.stands, h.fault, h.lost⟩

theorem pumpEvent (st : Station) (n : PumpNo) (f : Station → Station) : Reached n (f st) (st.pumpEvent n f) :=
  (reported (f st) n).settleStc

end Reached

/-- A taken change of RUN_FB n delivered to the pump. -/
def Station.pumpHears (st : Station) (n : PumpNo) (on : Bool) : Station := st.pumpEvent n fun w => w.pumpFeedback n on

theorem pumpHears_reached (st : Station) (n : PumpNo) (on : Bool) : Reached n (st.pumpFeedback n on) (st.pumpHears n on) :=
  .pumpEvent st n fun w => w.pumpFeedback n on

theorem pumpHears_arranged (st : Station) (n : PumpNo) (on : Bool) : Arranged st (st.pumpHears n on) :=
  ((((Shifts.refl st).pumpFeedback n on).reportPump n).toArranged).trans (settleStc_arranged _)

theorem both_straight (st : Station) (f g : Station → Station) : st.both false f g = g (f st) := rfl

theorem both_swapped (st : Station) (f g : Station → Station) : st.both true f g = f (g st) := rfl

/-- The pump has the change at a station `a` that shows it as `x` does; what it makes of it there stands at the end, whichever owner
is first (R49). -/
theorem feedback_reached {x : Station} {n : PumpNo} (on swapped : Bool) (within : x.overloaded = false)
    (seen : x.stc.runFbSeen[n] = x.settled (.runFb n)) :
    ∃ a t, x.both swapped (fun s => s.pumpHears n on) (fun s => s.stcFeedback n) = t ∧ Arranged x a ∧
      a.overloaded = false ∧ Arranged x t ∧ Reached n (a.pumpFeedback n on) t ∧
      (swapped = false → a = x) ∧ (x.pumps[n].state ≠ .waiting → a.standing n = x.standing n) := by
  have column {w : Station} (h : Arranged x w) : w.stcFeedback n = w.ring.settleStc :=
    stcFeedback_seen (by rw [h.seen, seen, h.outer.settled])
  have rung {w : Station} (h : Arranged x w) : Arranged x w.ring.settleStc :=
    (h.trans (Shifts.refl w).ring.toArranged).trans (settleStc_arranged _)
  cases swapped with
  | false =>
    have first := pumpHears_arranged x n on
    exact ⟨x, _, (both_straight ..).trans (column first), .refl x, within, rung first,
      (pumpHears_reached x n on).ring.settleStc, fun _ => rfl, fun _ => rfl⟩
  | true =>
    have first := rung (.refl x)
    have within' := settleStc_overloaded (st := x.ring) within
    have kept := settleStc_standing (st := x.ring) (n := n) within
    have second := congrArg (fun s : Station => s.pumpHears n on) (column (.refl x))
    generalize x.ring.settleStc = a at first within' kept second
    exact ⟨a, _, (both_swapped ..).trans second, first, within', first.trans (pumpHears_arranged a n on),
      pumpHears_reached a n on, nofun, kept⟩

end Sys2Proof.Machine
end

section
/-! PROOFS. The taken changes of RUN_FB n and PUMP_FAULT n (R98, R101, R103 to R105). -/

namespace Sys2Proof.Machine

theorem PumpState.stopping_atRest : PumpState.stopping.atRest := ⟨by decide, rfl⟩

theorem PumpState.resting_atRest : PumpState.resting.atRest := ⟨by decide, rfl⟩

theorem PumpState.faulted_atRest : PumpState.faulted.atRest := ⟨by decide, rfl⟩

/-! ### RUN_FB by the pump's state -/

section

variable {a t : Station} {n : PumpNo}

theorem confirmed_reached (h : Reached n (a.pumpFeedback n true) t) (starting : a.pumps[n].state = .starting)
    (seen : a.stc.runFbSeen[n] = true) (within : a.overloaded = false)
    (deferred : a.pumps[n].deferred = .none ∨ a.pumps[n].deferred = .normal ∧ a.pumps[n].settings.minRun ≠ 0) :
    t.standing n = (a.pumps[n].confirmed a.uptime, a.ctu.pumpRun[n]) := by
  have runs : a.pumpFeedback n true = a.running n := by
    unfold Station.pumpFeedback
    rw [starting]
    exact runConfirmed_runs a n deferred
  rw [runs] at h
  have calm : (a.running n).undisturbed n := by
    rw [Station.undisturbed, running_pump, running_overloaded starting seen]
    exact ⟨(by decide : PumpState.running ≠ .waiting), .inr within⟩
  exact (h.stands calm).1.trans (running_standing a n)

/-- A pump that its handling puts to rest stands so at the end. -/
theorem rest_reached {y : Station} {x : PumpRec × Bool} (h : Reached n y t) (stands : y.standing n = x) (rest : x.1.state.atRest) :
    t.standing n = x ∧ t.alt.points[Alarm.runLost n].condition = x.1.runLost ∧
      t.alt.points[Alarm.pumpFault n].condition = y.pumpFaultCondition n := by
  subst stands
  exact ⟨(h.stands (undisturbed_of_rest rest)).1, h.lost rest, h.fault rest⟩

theorem confirmedStop_reached (h : Reached n (a.pumpFeedback n true) t) (starting : a.pumps[n].state = .starting)
    (deferred : a.pumps[n].deferred = .cutoff ∨ a.pumps[n].deferred = .normal ∧ a.pumps[n].settings.minRun = 0) :
    t.standing n = (a.pumps[n].confirmedStop a.uptime, false) := by
  have stops : a.pumpFeedback n true = a.runConfirmed n := by
    unfold Station.pumpFeedback
    rw [starting]
  rw [stops] at h
  exact (rest_reached h (runConfirmed_stops a n deferred) PumpState.stopping_atRest).1

theorem lostRun_reached (h : Reached n (a.pumpFeedback n false) t) (running : a.pumps[n].state = .running)
    (off : a.pumps[n].settings.minOff ≠ 0) :
    t.standing n = (a.pumps[n].lost a.uptime, false) ∧ t.alt.points[Alarm.runLost n].condition = true := by
  have lost : a.pumpFeedback n false = a.lostRun n := by
    unfold Station.pumpFeedback
    rw [running]
  rw [lost] at h
  obtain ⟨stands, point, -⟩ := rest_reached h (lostRun_standing a n off) PumpState.resting_atRest
  exact ⟨stands, point⟩

theorem stopConfirmed_reached (h : Reached n (a.pumpFeedback n false) t) (stopping : a.pumps[n].state = .stopping)
    (off : a.pumps[n].settings.minOff ≠ 0) : t.standing n = (a.pumps[n].entered a.uptime .resting, a.ctu.pumpRun[n]) := by
  have rests : a.pumpFeedback n false = a.enterResting n := by
    unfold Station.pumpFeedback
    rw [stopping]
  rw [rests] at h
  exact (rest_reached h (enterResting_standing a n off) PumpState.resting_atRest).1

theorem uncommanded_reached (h : Reached n (a.pumpFeedback n true) t)
    (off : a.pumps[n].state = .ready ∨ a.pumps[n].state = .resting ∨ a.pumps[n].state = .inhibited ∨ a.pumps[n].state = .waiting ∨
      a.pumps[n].state = .off ∧ a.pumpNoticed n = true) :
    t.pumps[n] = a.pumps[n].uncommanded a.uptime ∧ t.alt.points[Alarm.pumpFault n].condition = true := by
  have faults : a.pumpFeedback n true = a.uncommandedRun n := by
    unfold Station.pumpFeedback
    obtain state | state | state | state | ⟨state, noticed⟩ := off <;> rw [state]
    exact if_pos noticed
  rw [faults] at h
  have record := uncommandedRun_pump a n
  obtain ⟨stands, -, point⟩ := rest_reached (x := (_, (a.uncommandedRun n).ctu.pumpRun[n])) h (Prod.ext record rfl) PumpState.faulted_atRest
  refine ⟨congrArg Prod.fst stands, point.trans ?_⟩
  rw [Station.pumpFaultCondition, record]
  rfl

theorem unmoved_reached {on : Bool} (h : Reached n (a.pumpFeedback n on) t)
    (state : a.pumps[n].state = .hand ∨ a.pumps[n].state = .faulted ∨ a.pumps[n].state = .uninstalled ∨
      on = true ∧ a.pumps[n].state = .stopping) : t.pumps[n] = a.pumps[n] := by
  have same : a.pumpFeedback n on = a := by
    unfold Station.pumpFeedback
    obtain state | state | state | ⟨rfl, state⟩ := state <;> rw [state]
    all_goals cases on <;> rfl
  rw [same] at h
  have rest : a.pumps[n].state.atRest := by obtain state | state | state | ⟨-, state⟩ := state <;> rw [state] <;> exact ⟨by decide, rfl⟩
  exact h.record (undisturbed_of_rest rest)

end

/-! ### The change taken -/

/-- The notices that a pump has had stay had. -/
theorem pumpNoticed_of_keeps {a b : Station} {n : PumpNo} (k : KeepsOuter a b) : b.pumpNoticed n = a.pumpNoticed n := by
  have settled (i : Input) : (b.ctu.input i).hasSettled = (a.ctu.input i).hasSettled := congrArg InputRec.hasSettled (k.inputs i)
  have hand : b.ctu.hoaHand[n].hasSettled = a.ctu.hoaHand[n].hasSettled := settled (.hoaHand n)
  have auto : b.ctu.hoaAuto[n].hasSettled = a.ctu.hoaAuto[n].hasSettled := settled (.hoaAuto n)
  have feedback : b.ctu.runFb[n].hasSettled = a.ctu.runFb[n].hasSettled := settled (.runFb n)
  have fault : b.ctu.pumpFault[n].hasSettled = a.ctu.pumpFault[n].hasSettled := settled (.pumpFault n)
  unfold Station.pumpNoticed
  rw [hand, auto, feedback, fault]

theorem InputRec.take_settled {r : InputRec} (now : Nat) (h : r.hasSettled = true) : r.take now = ⟨r.raw, r.raw, true, none, some now⟩ := by
  rw [InputRec.take, h]

/-- The change comes at a station that differs in its clock alone, and its contact had settled before. -/
theorem changeComesDue_clock {st u : Station} {i : Input} (h : st.changeComesDue i u) :
    (∃ c, u = { st with clock := c }) ∧ (st.ctu.input i).hasSettled = true := by
  obtain ⟨-, due, armed, reached⟩ := h
  exact ⟨Station.reach_clock reached, dueWhen_settled armed⟩

/-- A taken change of RUN_FB n, in the column of the motor table and before either owner has it (R46, R79). -/
def Station.feedbackTaken (u : Station) (n : PumpNo) : Station :=
  (u.setInput (.runFb n) ⟨(u.ctu.input (.runFb n)).raw, (u.ctu.input (.runFb n)).raw, true, none, some u.uptime⟩).seeFeedback n

theorem takeChange_feedback {u : Station} {n : PumpNo} (swapped : Bool) (h : (u.ctu.input (.runFb n)).hasSettled = true) :
    u.takeChange (.runFb n) swapped = (u.feedbackTaken n).both swapped (fun s => s.pumpHears n (u.ctu.input (.runFb n)).raw)
      (fun s => s.stcFeedback n) := by
  rw [Station.takeChange, InputRec.take_settled _ h]
  rfl

theorem feedbackTaken_settled (u : Station) (n : PumpNo) : (u.feedbackTaken n).settled (.runFb n) = (u.ctu.input (.runFb n)).raw := by
  have record := ContactUnit.input_setInput_self u.ctu
    ⟨(u.ctu.input (.runFb n)).raw, (u.ctu.input (.runFb n)).raw, true, none, some u.uptime⟩ (.runFb n)
  exact congrArg InputRec.settled record

theorem feedbackTaken_seen (u : Station) (n : PumpNo) : (u.feedbackTaken n).stc.runFbSeen[n] = (u.ctu.input (.runFb n)).raw :=
  (Vector.getElem_set_self n.isLt).trans (feedbackTaken_settled u n)

theorem feedbackTaken_noticed {u : Station} {n : PumpNo} (h : u.pumpNoticed n = true) : (u.feedbackTaken n).pumpNoticed n = true := by
  simp only [Station.pumpNoticed, Bool.and_eq_true] at h
  obtain ⟨⟨⟨hand, auto⟩, -⟩, fault⟩ := h
  have feedback : (u.feedbackTaken n).ctu.runFb[n].hasSettled = true :=
    congrArg InputRec.hasSettled (Vector.getElem_set_self (xs := u.ctu.runFb) n.isLt)
  simp only [Station.pumpNoticed, Bool.and_eq_true]
  exact ⟨⟨⟨hand, auto⟩, feedback⟩, fault⟩

/-- What the taken change of RUN_FB n, delivered at `x`, has made of pump n at `t`, by the state of the pump. -/
structure FeedbackMade (n : PumpNo) (swapped on : Bool) (x t : Station) : Prop where
  outer : KeepsOuter x t
  seen : t.stc.runFbSeen[n] = on
  confirmed : on = true → x.pumps[n].state = .starting →
    x.pumps[n].deferred = .none ∨ x.pumps[n].deferred = .normal ∧ x.pumps[n].settings.minRun ≠ 0 →
    t.standing n = (x.pumps[n].confirmed x.uptime, x.ctu.pumpRun[n])
  confirmedStop : on = true → x.pumps[n].state = .starting →
    x.pumps[n].deferred = .cutoff ∨ x.pumps[n].deferred = .normal ∧ x.pumps[n].settings.minRun = 0 →
    t.standing n = (x.pumps[n].confirmedStop x.uptime, false)
  lost : on = false → x.pumps[n].state = .running → x.pumps[n].settings.minOff ≠ 0 →
    t.standing n = (x.pumps[n].lost x.uptime, false) ∧ t.alt.points[Alarm.runLost n].condition = true
  stopped : on = false → x.pumps[n].state = .stopping → x.pumps[n].settings.minOff ≠ 0 →
    t.pumps[n] = x.pumps[n].entered x.uptime .resting
  uncommanded : on = true → x.pumps[n].state = .ready ∨ x.pumps[n].state = .resting ∨ x.pumps[n].state = .inhibited ∨
      (x.pumps[n].state = .waiting ∧ swapped = false) ∨ (x.pumps[n].state = .off ∧ x.pumpNoticed n = true) →
    t.pumps[n] = x.pumps[n].uncommanded x.uptime ∧ t.alt.points[Alarm.pumpFault n].condition = true
  unmoved : x.pumps[n].state = .hand ∨ x.pumps[n].state = .faulted ∨ x.pumps[n].state = .uninstalled ∨
      on = true ∧ x.pumps[n].state = .stopping → t.pumps[n] = x.pumps[n]

theorem feedback_made {x : Station} {n : PumpNo} (on swapped : Bool) (within : x.overloaded = false)
    (seen : x.stc.runFbSeen[n] = on) (contact : x.settled (.runFb n) = on) :
    ∃ t, x.both swapped (fun s => s.pumpHears n on) (fun s => s.stcFeedback n) = t ∧ FeedbackMade n swapped on x t := by
  obtain ⟨a, t, event, arranged, within', whole, reached, straight, same⟩ :=
    feedback_reached (n := n) on swapped within (seen.trans contact.symm)
  have uptime : a.uptime = x.uptime := arranged.outer.uptime
  have column : a.stc.runFbSeen[n] = on := by rw [arranged.seen]; exact seen
  have noticed : a.pumpNoticed n = x.pumpNoticed n := pumpNoticed_of_keeps arranged.outer
  have stands {p : PumpState} (state : x.pumps[n].state = p) (other : p ≠ .waiting) :
      a.pumps[n] = x.pumps[n] ∧ a.ctu.pumpRun[n] = x.ctu.pumpRun[n] := Prod.mk.inj (same (by rw [state]; exact other))
  refine ⟨t, event, whole.outer, by rw [whole.seen]; exact seen, ?_, ?_, ?_, ?_, ?_, ?_⟩
  · rintro rfl starting deferred
    have made := confirmed_reached (n := n) (a := a) (t := t)
    obtain ⟨record, output⟩ := stands starting (by decide)
    rw [record, output, uptime] at made
    exact made reached starting column within' deferred
  · rintro rfl starting deferred
    have made := confirmedStop_reached (n := n) (a := a) (t := t)
    rw [(stands starting (by decide)).1, uptime] at made
    exact made reached starting deferred
  · rintro rfl running off
    have made := lostRun_reached (n := n) (a := a) (t := t)
    rw [(stands running (by decide)).1, uptime] at made
    exact made reached running off
  · rintro rfl stopping off
    have made := stopConfirmed_reached (n := n) (a := a) (t := t)
    rw [(stands stopping (by decide)).1, uptime] at made
    exact congrArg Prod.fst (made reached stopping off)
  · rintro rfl state
    have record : a.pumps[n] = x.pumps[n] := by
      obtain state | state | state | ⟨-, first⟩ | ⟨state, -⟩ := state
      · exact (stands state (by decide)).1
      · exact (stands state (by decide)).1
      · exact (stands state (by decide)).1
      · rw [straight first]
      · exact (stands state (by decide)).1
    have made := uncommanded_reached (n := n) (a := a) (t := t) reached
    rw [record, uptime, noticed] at made
    exact made (state.imp_right (Or.imp_right (Or.imp_right (Or.imp_left And.left))))
  · intro state
    have record : a.pumps[n] = x.pumps[n] := by
      obtain state | state | state | ⟨-, state⟩ := state <;> exact (stands state (by decide)).1
    have made := unmoved_reached reached
    rw [record] at made
    exact made state

/-- A taken change of RUN_FB n, from the station at which it comes. -/
theorem feedbackTaken_made {u : Station} {n : PumpNo} (swapped : Bool) (settled : (u.ctu.input (.runFb n)).hasSettled = true)
    (within : (u.feedbackTaken n).overloaded = false) :
    ∃ t, u.takeChange (.runFb n) swapped = t ∧ FeedbackMade n swapped (u.ctu.input (.runFb n)).raw (u.feedbackTaken n) t := by
  rw [takeChange_feedback swapped settled]
  exact feedback_made _ swapped within (feedbackTaken_seen u n) (feedbackTaken_settled u n)

/-- A start confirmed goes on, or gives way to a stop deferred (R98). -/
theorem PumpRec.deferred_cases (p : PumpRec) : (p.deferred = .none ∨ p.deferred = .normal ∧ p.settings.minRun ≠ 0) ∨
    (p.deferred = .cutoff ∨ p.deferred = .normal ∧ p.settings.minRun = 0) := by
  by_cases zero : p.settings.minRun = 0 <;> cases p.deferred <;> simp [zero]

/-- The part of O43 about RUN_FB n. -/
theorem feedbackChange_moves_the_pump (s : State) (n : PumpNo) (swapped : Bool) (u : Station) (due : s.st.changeComesDue (.runFb n) u)
    (_quiet : s.st.stc.heard = false) :
    let r := s.st.ctu.input (.runFb n)
    let v := u.setInput (.runFb n) ⟨r.raw, r.raw, true, none, some u.uptime⟩
    let a := s.st.pumps[n]
    (v.seeFeedback n).overloaded = false →
    ∃ t, exec (.debounceExpiry (.runFb n) swapped) s = .next t ∧ t.pending = s.pending ∧ KeepsOuter v t.st ∧
      let b := t.st.pumps[n]
      t.st.stc.runFbSeen[n] = r.raw ∧
      (r.raw = true → a.state = .starting → b.runLost = false ∧ b.demand = a.demand ∧
        (a.deferred = .none ∨ (a.deferred = .normal ∧ a.settings.minRun ≠ 0) →
          b.state = .running ∧ b.timer = some (u.uptime + 10 * a.settings.minRun) ∧ b.minRunElapsed = false ∧
          b.deferred = a.deferred ∧ t.st.ctu.pumpRun[n] = s.st.ctu.pumpRun[n]) ∧
        (a.deferred = .cutoff ∨ (a.deferred = .normal ∧ a.settings.minRun = 0) →
          b.state = .stopping ∧ b.timer = some (u.uptime + 10 * a.settings.stopConfirmTime) ∧ b.deferred = .none ∧
          t.st.ctu.pumpRun[n] = false)) ∧
      (r.raw = false → a.state = .running → a.settings.minOff ≠ 0 →
        b.state = .resting ∧ b.timer = some (u.uptime + 10 * a.settings.minOff) ∧ b.runLost = true ∧ b.deferred = .none ∧
        b.demand = a.demand ∧ t.st.ctu.pumpRun[n] = false ∧ t.st.alt.points[Alarm.runLost n].condition = true) ∧
      (r.raw = false → a.state = .stopping → a.settings.minOff ≠ 0 →
        b.state = .resting ∧ b.timer = some (u.uptime + 10 * a.settings.minOff) ∧ b.runLost = a.runLost ∧
        b.demand = a.demand ∧ b.shed = a.shed) ∧
      (r.raw = true → a.state = .ready ∨ a.state = .resting ∨ a.state = .inhibited ∨
          (a.state = .waiting ∧ swapped = false) ∨ (a.state = .off ∧ s.st.pumpNoticed n = true) →
        b.state = .faulted ∧ b.cause = some .uncommandedRun ∧ b.demand = false ∧ b.shed = false ∧ b.inhibit = false ∧
        t.st.alt.points[Alarm.pumpFault n].condition = true) ∧
      (a.state = .hand ∨ a.state = .faulted ∨ a.state = .uninstalled ∨ (r.raw = true ∧ a.state = .stopping) → b = a) := by
  obtain ⟨⟨c, rfl⟩, settled⟩ := changeComesDue_clock due
  intro r v p within
  have ran := exec_debounceExpiry swapped due
  obtain ⟨t, taken, made⟩ := feedbackTaken_made (u := { s.st with clock := c }) (n := n) swapped settled within
  have noticed : s.st.pumpNoticed n = true → (Station.feedbackTaken { s.st with clock := c } n).pumpNoticed n = true :=
    feedbackTaken_noticed (u := { s.st with clock := c })
  refine ⟨⟨t, s.pending⟩, ran.trans (congrArg (fun x : Station => Host.Outcome.next (State.mk x s.pending)) taken), rfl,
    KeepsOuter.trans (keeps_stc _ _) made.outer, made.seen, fun on starting => ?_, fun off running rest => ?_, fun off stopping rest => ?_,
    fun on state => ?_, made.unmoved⟩
  · have runs := made.confirmed on starting
    have stops := made.confirmedStop on starting
    have either : t.pumps[n].runLost = false ∧ t.pumps[n].demand = p.demand := by
      obtain go | stop := p.deferred_cases
      · rw [(Prod.mk.inj (runs go)).1]
        exact ⟨rfl, rfl⟩
      · rw [(Prod.mk.inj (stops stop)).1]
        exact ⟨rfl, rfl⟩
    refine ⟨either.1, either.2, fun go => ?_, fun stop => ?_⟩
    · obtain ⟨record, output⟩ := Prod.mk.inj (runs go)
      dsimp only
      rw [record]
      exact ⟨rfl, rfl, rfl, rfl, output⟩
    · obtain ⟨record, output⟩ := Prod.mk.inj (stops stop)
      dsimp only
      rw [record]
      exact ⟨rfl, rfl, rfl, output⟩
  · obtain ⟨stands, point⟩ := made.lost off running rest
    obtain ⟨record, output⟩ := Prod.mk.inj stands
    dsimp only
    rw [record]
    exact ⟨rfl, rfl, rfl, rfl, rfl, output, point⟩
  · have record := made.stopped off stopping rest
    dsimp only
    rw [record]
    exact ⟨rfl, rfl, rfl, rfl, rfl⟩
  · obtain ⟨record, point⟩ := made.uncommanded on
      (state.imp_right (Or.imp_right (Or.imp_right (Or.imp_right fun ⟨state, had⟩ => ⟨state, noticed had⟩))))
    dsimp only
    rw [record]
    exact ⟨rfl, rfl, rfl, rfl, rfl, point⟩

/-! ### PUMP_FAULT (R105) -/

theorem motorFault_standing (st : Station) (n : PumpNo) : (st.motorFault n).standing n =
    ({ st.pumps[n].cleared.entered st.uptime .faulted with cause := some .motorFault }, false) := by
  have output : (st.motorFault n).ctu.pumpRun = (st.takenOff n).ctu.pumpRun := Station.enter_pumpRun (st.takenOff n) n .faulted
  rw [Station.standing, Station.motorFault_pump, output, Station.takenOff_pumpRun]

/-- A pump that waited has left the queue (R78). -/
theorem motorFault_unqueued {st : Station} {n : PumpNo} (waiting : st.pumps[n].state = .waiting) :
    (st.motorFault n).queued (.pump n) = false := by
  have deferred (t : Station) (d : Deferred) : (t.setDeferred n d).queued (.pump n) = t.queued (.pump n) := rfl
  have inhibited (t : Station) (b : Bool) : (t.setInhibit n b).queued (.pump n) = t.queued (.pump n) := rfl
  have output (t : Station) (b : Bool) : (t.setPumpRun n b).queued (.pump n) = t.queued (.pump n) := rfl
  have faulted (t : Station) : (t.enterFaulted n .motorFault).queued (.pump n) = t.queued (.pump n) := (enter_stc t n .faulted).1 _
  have cleared (t : Station) : (t.clearDemand n).queued (.pump n) = t.queued (.pump n) := by
    unfold Station.clearDemand
    dsimp only
    split <;> rfl
  rw [Station.motorFault, faulted, inhibited, deferred, cleared, output, Station.withdrawPump, if_pos waiting]
  exact withdraw_unqueued st _

/-- A taken change of PUMP_FAULT n, before the pump has it (R46). -/
def Station.faultTaken (u : Station) (n : PumpNo) : Station :=
  u.setInput (.pumpFault n) ⟨(u.ctu.input (.pumpFault n)).raw, (u.ctu.input (.pumpFault n)).raw, true, none, some u.uptime⟩

theorem takeChange_fault {u : Station} {n : PumpNo} (swapped : Bool) (h : (u.ctu.input (.pumpFault n)).hasSettled = true) :
    u.takeChange (.pumpFault n) swapped =
      (u.faultTaken n).pumpEvent n fun s => s.pumpFaultChange n (u.ctu.input (.pumpFault n)).raw := by
  rw [Station.takeChange, InputRec.take_settled _ h]
  rfl

/-- A motor fault at a pump in an auto state (R105). -/
theorem faultChange_stops {x : Station} {n : PumpNo} (auto : x.pumps[n].state.auto = true) :
    let t := x.pumpEvent n fun s => s.pumpFaultChange n true
    t.standing n = ({ x.pumps[n].cleared.entered x.uptime .faulted with cause := some .motorFault }, false) ∧
      (x.pumps[n].state = .waiting → t.queued (.pump n) = false) ∧ t.faultShown n := by
  have faults : x.pumpFaultChange n true = x.motorFault n := if_pos (by rw [auto]; rfl)
  have reached := Reached.pumpEvent x n fun s => s.pumpFaultChange n true
  have event : (x.pumpEvent n fun s => s.pumpFaultChange n true) = ((x.motorFault n).reportPump n).settleStc :=
    congrArg (fun y : Station => (y.reportPump n).settleStc) faults
  have stands := motorFault_standing x n
  have rest : (x.motorFault n).pumps[n].state.atRest := by
    rw [(Prod.mk.inj stands).1]
    exact PumpState.faulted_atRest
  dsimp only at reached ⊢
  rw [faults] at reached
  refine ⟨(reached.stands (undisturbed_of_rest rest)).1.trans stands, fun waiting => ?_, ?_⟩
  · have leaves := settleStc_leaves (n := n) (a := (x.motorFault n).reportPump n) (by rw [Station.reportPump_pumps]; exact rest)
    rw [event]
    refine leaves.queue ?_
    rw [Station.queued, Station.reportPump_stc]
    exact motorFault_unqueued waiting
  · have record := reached.record (undisturbed_of_rest rest)
    exact (reached.fault rest).trans (pumpFaultCondition_of_keeps reached.outer record).symm

/-- Elsewhere the reports alone follow. -/
theorem faultChange_stays {x : Station} {n : PumpNo} {on : Bool} (quiet : x.stc.heard = false)
    (unmoved : on = false ∨ x.pumps[n].state.auto = false) :
    (x.pumpEvent n fun s => s.pumpFaultChange n on) = x.reportPump n := by
  have same : x.pumpFaultChange n on = x := if_neg (by obtain h | h := unmoved <;> rw [h] <;> simp)
  have event : (x.pumpEvent n fun s => s.pumpFaultChange n on) = (x.reportPump n).settleStc :=
    congrArg (fun y : Station => (y.reportPump n).settleStc) same
  rw [event]
  exact settleStc_unheard (by rw [Station.reportPump_stc]; exact quiet)

/-- The part of O43 about PUMP_FAULT n. -/
theorem faultChange_moves_the_pump (s : State) (n : PumpNo) (swapped : Bool) (u : Station) (due : s.st.changeComesDue (.pumpFault n) u)
    (quiet : s.st.stc.heard = false) :
    let r := s.st.ctu.input (.pumpFault n)
    let a := s.st.pumps[n]
    ∃ t, exec (.debounceExpiry (.pumpFault n) swapped) s = .next t ∧ t.pending = s.pending ∧
      KeepsOuter (u.setInput (.pumpFault n) ⟨r.raw, r.raw, true, none, some u.uptime⟩) t.st ∧
      (r.raw = true → a.state.auto = true →
        t.st.pumps[n].state = .faulted ∧ t.st.pumps[n].cause = some .motorFault ∧ t.st.pumps[n].demand = false ∧
        t.st.pumps[n].shed = false ∧ t.st.pumps[n].inhibit = false ∧ t.st.pumps[n].deferred = .none ∧
        t.st.ctu.pumpRun[n] = false ∧ (a.state = .waiting → t.st.queued (.pump n) = false)) ∧
      (r.raw = false ∨ a.state.auto = false → t.st.pumps = s.st.pumps ∧ t.st.ctu.pumpRun = s.st.ctu.pumpRun) ∧
      t.st.alt.points[Alarm.pumpFault n].condition = t.st.pumpFaultCondition n := by
  obtain ⟨⟨c, rfl⟩, settled⟩ := changeComesDue_clock due
  intro r p
  have ran := exec_debounceExpiry swapped due
  have taken := takeChange_fault (u := { s.st with clock := c }) (n := n) swapped settled
  have outer : KeepsOuter _ (Station.pumpEvent _ n fun x => x.pumpFaultChange n r.raw) :=
    (ControlRun.pumpEvent (((ControlRun.refl (Station.faultTaken { s.st with clock := c } n))).pumpFaultChange n r.raw)).keepsOuter
  have stops := faultChange_stops (x := Station.faultTaken { s.st with clock := c } n) (n := n)
  have stays := faultChange_stays (x := Station.faultTaken { s.st with clock := c } n) (n := n) (on := r.raw) quiet
  have event := ran.trans (congrArg (fun x : Station => Host.Outcome.next (State.mk x s.pending)) taken)
  change exec _ s = .next ⟨Station.pumpEvent _ n fun x => x.pumpFaultChange n r.raw, s.pending⟩ at event
  by_cases moved : r.raw = true ∧ p.state.auto = true
  · obtain ⟨on, auto⟩ := moved
    rw [on] at event outer
    obtain ⟨stands, queue, shown⟩ := stops auto
    refine ⟨_, event, rfl, outer, fun _ _ => ?_, fun unmoved => ?_, shown⟩
    · obtain ⟨record, output⟩ := Prod.mk.inj stands
      dsimp only
      rw [record]
      exact ⟨rfl, rfl, rfl, rfl, rfl, rfl, output, queue⟩
    · rw [on, auto] at unmoved
      exact absurd unmoved (by decide)
  · have unmoved : r.raw = false ∨ p.state.auto = false := by simpa only [not_and_or, Bool.not_eq_true] using moved
    rw [stays unmoved] at event outer
    refine ⟨_, event, rfl, outer, fun on auto => absurd ⟨on, auto⟩ moved, fun _ => ?_, reportPump_faultShown _ n⟩
    exact ⟨Station.reportPump_pumps _ n, Station.reportPump_pumpRun _ n⟩

end Sys2Proof.Machine
end

section
/-! PROOFS. A taken change of GEN_RUN: the limit re-formed, the shed passes, LOAD_SHED (R80, R86 to R89). -/

namespace Sys2Proof.Machine

/-! ### LOAD_SHED and the shed list through the grant test -/

theorem shedEmpty_iff (c : StartControl) : c.shedEmpty = true ↔ c.shedRake = false ∧ ∀ n : PumpNo, c.shedPumps[n] = false := by
  simp [StartControl.shedEmpty, allPumps]

theorem unshed_shedEmpty {c : StartControl} (m : Motor) (h : c.shedEmpty = true) : (c.unshed m).shedEmpty = true := by
  rw [shedEmpty_iff] at h ⊢
  cases m with
  | rake => exact ⟨rfl, h.2⟩
  | pump k =>
    refine ⟨h.1, fun n => ?_⟩
    by_cases own : n = k
    · subst own
      exact Vector.getElem_set_self _
    · exact (set_other _ _ own).trans (h.2 n)

/-- LOAD_SHED as it was, and a shed list that was empty as it was. -/
def Station.shedKept (a b : Station) : Prop :=
  b.stc.loadShed = a.stc.loadShed ∧ (a.stc.shedEmpty = true → b.stc.shedEmpty = true)

theorem shedKept_of_marks {a b c : Station} (same : c.marks = b.marks) (h : a.shedKept b) : a.shedKept c := by
  have load : c.stc.loadShed = b.stc.loadShed := (congrArg StartControl.loadShed same : c.marks.loadShed = b.marks.loadShed)
  have list : c.stc.shedEmpty = b.stc.shedEmpty := (congrArg StartControl.shedEmpty same : c.marks.shedEmpty = b.marks.shedEmpty)
  rw [Station.shedKept, load, list]
  exact h

theorem shedKept_unshed {a b c : Station} (m : Motor) (load : c.stc.loadShed = b.stc.loadShed)
    (list : c.stc.shedEmpty = (b.stc.unshed m).shedEmpty) (h : a.shedKept b) : a.shedKept c :=
  ⟨load.trans h.1, fun empty => list.trans (unshed_shedEmpty m (h.2 empty))⟩

theorem rakeKeeps_shed (a : Station) : RakeKeeps a.shedKept where
  rkc _ _ h := h
  drive _ _ h := h
  ring _ h := h
  enqueue t h := shedKept_of_marks (t.enqueue_marks _) h
  withdraw t h := shedKept_unshed (b := t) .rake rfl rfl h
  jammed t h := shedKept_of_marks (t.report_marks _ _) h

theorem grantTest_shed (st : Station) : st.shedKept st.grantTest := by
  have delivered (t : Station) (m : Motor) (h : st.shedKept t) : st.shedKept (t.deliverGrant m) := by
    cases m with
    | pump n =>
      by_cases waits : t.pumps[n].state = .waiting
      · obtain ⟨-, -, marks, -⟩ := grantPump_waiting waits
        exact shedKept_of_marks marks h
      · rw [Station.deliverGrant, Station.grantPump, if_neg waits]
        exact h
    | rake => exact (rakeKeeps_shed st).grantRake h
  have start : st.shedKept st := ⟨rfl, id⟩
  unfold Station.grantTest
  split
  · exact start
  next e _ _ =>
    split
    · split
      · have taken : st.shedKept (st.grantTaken e.motor) := by
          cases e.motor with
          | pump n => exact shedKept_unshed (b := st) (.pump n) rfl rfl start
          | rake => exact shedKept_unshed (b := st) .rake rfl rfl start
        rw [grant_eq]
        exact shedKept_of_marks (holdNewHead_marks _) (delivered _ _ taken)
      · exact start
    · exact start

/-- LOAD_SHED, once on, stays on through the passes (R89). -/
theorem shedPasses_loadShed (k : Nat) {st : Station} (h : st.stc.loadShed = true) : (Station.shedPasses k st).stc.loadShed = true := by
  induction k generalizing st with
  | zero => exact h
  | succ k ih =>
    unfold Station.shedPasses
    split
    · refine ih ?_
      by_cases none : st.chosen = []
      · rw [shedPass_none none]; exact h
      · exact shedPass_loadShed none
    · exact h

/-- With GEN_RUN on LOAD_SHED stands through the end of the event, and with GEN_RUN off and nothing shed it turns off (R89). -/
theorem eventEnd_loadShed (st : Station) :
    (st.settled .genRun = true → st.eventEnd.stc.loadShed = st.stc.loadShed) ∧
    (st.settled .genRun = false → st.stc.shedEmpty = true → st.eventEnd.stc.loadShed = false ∧
      (st.stc.loadShed = true → st.eventEnd.alt.points[Alarm.loadShed].condition = false)) := by
  rw [eventEnd_stc]
  refine ⟨fun on => by rw [on]; exact Bool.and_true _, fun off empty => ⟨by rw [off, empty]; exact Bool.and_false _, fun shed => ?_⟩⟩
  have tested : st.testLoadShed.alt.points[Alarm.loadShed].condition = false := by
    rw [Station.testLoadShed, if_pos ⟨shed, off, empty⟩]
    exact Station.report_condition ..
  have judged : st.testLoadShed.judgeBudget.alt.points[Alarm.loadShed] = st.testLoadShed.alt.points[Alarm.loadShed] := by
    unfold Station.judgeBudget
    split
    · split <;> rfl
    · exact Station.report_others _ _ (by decide)
  exact (congrArg PointRec.condition judged).trans tested

/-! ### A pump that a pass takes -/

theorem overloaded_of_chosen {st : Station} {m : Motor} (h : m ∈ st.chosen) : st.overloaded = true := by
  rw [overloaded_iff]
  intro within
  have goes := (shedChoice_takes st st.shedCandidates st.loadAfterShedding st.committedLoad).2.2 0 (List.length_pos_of_mem h)
  exact goes within

/-- A pump that the first pass takes stands stopped at the end of the event (R87, R106). -/
theorem settleStc_sheds {x : Station} {n : PumpNo} (heard : x.stc.heard = true) (h : .pump n ∈ x.chosen) :
    x.settleStc.standing n = (x.pumps[n].shedNow x.uptime, false) ∧
      (x.settled .genRun = true → x.settleStc.stc.loadShed = true) := by
  obtain ⟨record, output, -⟩ := shedPass_pump h
  have first : x.settleStc = (Station.shedPasses 7 x.shedPass).grantTest.eventEnd := by
    rw [Station.settleStc, if_pos heard, stcEvent_eq, Station.shedPasses, if_pos (overloaded_of_chosen h)]
  have keeps := stcKeeps_rest n (x := (x.pumps[n].shedNow x.uptime, false)) PumpState.stopping_atRest
  have stands := keeps.grantTest (keeps.shedPasses (st := x.shedPass) (Prod.ext record output) 7)
  have load := shedPasses_loadShed 7 (shedPass_loadShed (List.ne_nil_of_mem h))
  have outer := (shedPasses_shifts 7 x.shedPass).outer.trans (grantTest_shifts _).outer
  have settled : (Station.shedPasses 7 x.shedPass).grantTest.settled .genRun = x.settled .genRun := by
    rw [outer.settled, (keeps_shedPass x).settled]
  rw [first]
  refine ⟨?_, fun on => ?_⟩
  · rw [← stands]
    simp [Station.standing]
  · rw [(eventEnd_loadShed _).1 (settled.trans on), (grantTest_shed _).1, load]

/-! ### The limit re-formed (R80) -/

/-- The active limit formed from GEN_RUN, and GEN_RUNNING reported. -/
def Station.limitFormed (v : Station) : Station := v.formLimit.report Alarm.genRunning (v.settled .genRun)

theorem genChange_eq (v : Station) : v.genChange = v.limitFormed.settleStc := rfl

/-- The motor table with GEN_RUN in it, before word reaches the Start Controller. -/
def Station.genTabled (v : Station) : Station := { v with stc := { v.stc with genSeen := v.settled .genRun } }

theorem shedChoice_congr {a b : Station} (limit : b.activeLimit = a.activeLimit) (connects : b.motorConnects = a.motorConnects)
    (power : b.motorPower = a.motorPower) (l : List Motor) (k c : Nat) : b.shedChoice l k c = a.shedChoice l k c := by
  induction l generalizing k c with
  | nil => rfl
  | cons m l ih => simp only [Station.shedChoice, limit, connects, power, ih]

/-- A pass takes the same motors from the same motor table. -/
theorem chosen_congr {a b : Station} (pumps : b.pumps = a.pumps) (seen : b.stc.runFbSeen = a.stc.runFbSeen) (consts : b.consts = a.consts)
    (limit : b.activeLimit = a.activeLimit) (candidates : b.shedCandidates = a.shedCandidates)
    (connected : b.loadAfterShedding = a.loadAfterShedding) (committed : b.committedLoad = a.committedLoad) : b.chosen = a.chosen := by
  have motors (m : Motor) : b.motorConnects m = a.motorConnects m ∧ b.motorPower m = a.motorPower m := by
    cases m with
    | pump n => simp only [Station.motorConnects, Station.motorPower, Station.connects, Station.power, pumps, seen, and_self]
    | rake => simp only [Station.motorConnects, Station.motorPower, consts, and_self]
  rw [Station.chosen, Station.chosen, candidates, connected, committed]
  exact shedChoice_congr limit (funext fun m => (motors m).1) (funext fun m => (motors m).2) _ _ _

section

variable (v : Station)

theorem limitFormed_stc : v.limitFormed.stc = { v.stc with genSeen := v.settled .genRun, heard := true } := Station.report_stc ..

theorem limitFormed_loads : v.limitFormed.overloaded = v.genTabled.overloaded ∧ v.limitFormed.chosen = v.genTabled.chosen := by
  unfold Station.limitFormed
  obtain ⟨t, q, b, shape⟩ := Station.report_shape v.formLimit Alarm.genRunning (v.settled .genRun)
  rw [shape]
  exact ⟨rfl, chosen_congr rfl rfl rfl rfl rfl rfl rfl⟩

theorem limitFormed_standing (n : PumpNo) : v.limitFormed.standing n = v.standing n := Station.report_standing ..

theorem limitFormed_rkc : v.limitFormed.rkc = v.rkc := Station.report_rkc ..

theorem limitFormed_outer : KeepsOuter v v.limitFormed := ((keeps_stc v _).trans (keeps_ring _)).trans (keeps_report _ _ _)

theorem limitFormed_point : v.limitFormed.alt.points[Alarm.genRunning].condition = v.settled .genRun := Station.report_condition ..

/-- GEN_RUN in the table and at its point after the event. -/
theorem genChange_shows : KeepsOuter v v.genChange ∧ v.genChange.stc.genSeen = v.settled .genRun ∧
    v.genChange.stc.runFbSeen = v.stc.runFbSeen ∧ v.genChange.alt.points[Alarm.genRunning].condition = v.settled .genRun := by
  have arranged := settleStc_arranged v.limitFormed
  rw [genChange_eq, settleStc_genRunning, arranged.limit, arranged.seen, limitFormed_stc]
  exact ⟨(limitFormed_outer v).trans arranged.outer, rfl, rfl, limitFormed_point v⟩

/-- With the loads within the limit nothing stops, and LOAD_SHED turns off where nothing is shed any more (R82, R89). -/
theorem genChange_within (within : v.genTabled.overloaded = false) :
    (∀ n : PumpNo, v.pumps[n].state ≠ .waiting → v.genChange.pumps[n] = v.pumps[n]) ∧
    (v.rkc.state ≠ .waiting → v.genChange.rkc = v.rkc) ∧
    (v.settled .genRun = true → v.genChange.stc.loadShed = v.stc.loadShed) ∧
    (v.settled .genRun = false → v.stc.shedEmpty = true → v.genChange.stc.loadShed = false ∧
      (v.stc.loadShed = true → v.genChange.alt.points[Alarm.loadShed].condition = false)) := by
  have heard : v.limitFormed.stc.heard = true := by rw [limitFormed_stc]
  have fits := (limitFormed_loads v).1.trans within
  have stc := limitFormed_stc v
  have rkc := limitFormed_rkc v
  have settled := (limitFormed_outer v).settled .genRun
  have pumps (n : PumpNo) : v.limitFormed.pumps[n] = v.pumps[n] := congrArg Prod.fst (limitFormed_standing v n)
  rw [genChange_eq]
  generalize v.limitFormed = x at heard fits stc rkc settled pumps
  have ends := eventEnd_loadShed x.grantTest
  obtain ⟨load, empty⟩ := grantTest_shed x
  rw [(grantTest_shifts x).outer.settled, settled, load, stc] at ends
  rw [stc] at empty
  refine ⟨fun n notWaiting => ?_, fun notWaiting => ?_, ?_⟩
  · rw [← pumps]
    exact congrArg Prod.fst (settleStc_standing fits (by rw [pumps]; exact notWaiting))
  · rw [settleStc_within heard fits, eventEnd_rkc, grantTest_rkc (by rw [rkc]; exact notWaiting), rkc]
  · rw [settleStc_within heard fits]
    exact ⟨ends.1, fun off none => ends.2 off (empty none)⟩

/-- A pump that the first pass takes stops (R87). -/
theorem genChange_sheds {n : PumpNo} (h : .pump n ∈ v.genTabled.chosen) :
    v.genChange.standing n = (v.pumps[n].shedNow v.uptime, false) ∧
      (v.settled .genRun = true → v.genChange.stc.loadShed = true) := by
  have heard : v.limitFormed.stc.heard = true := by rw [limitFormed_stc]
  rw [← (limitFormed_loads v).2] at h
  have record : v.limitFormed.pumps[n] = v.pumps[n] := congrArg Prod.fst (limitFormed_standing v n)
  have sheds := settleStc_sheds heard h
  rwa [record, (limitFormed_outer v).uptime, (limitFormed_outer v).settled] at sheds

end

/-- The part of O43 about GEN_RUN. -/
theorem genRunChange_sheds (s : State) (swapped : Bool) (u : Station) (due : s.st.changeComesDue .genRun u) :
    let v := u.withChange .genRun
    let on := v.settled .genRun
    let w : Station := { v with stc := { v.stc with genSeen := on } }
    ∃ t, exec (.debounceExpiry .genRun swapped) s = .next t ∧ t.pending = s.pending ∧ KeepsOuter v t.st ∧
      t.st.stc.genSeen = on ∧ t.st.alt.points[Alarm.genRunning].condition = on ∧
      t.st.activeLimit = (if on then s.st.consts.genLimit else s.st.consts.utilityLimit) ∧
      (s.st.rotationSafe → t.st.committedLoad ≤ t.st.activeLimit) ∧
      (w.overloaded = false →
        (∀ n : PumpNo, s.st.pumps[n].state ≠ .waiting → t.st.pumps[n] = s.st.pumps[n]) ∧
        (s.st.rkc.state ≠ .waiting → t.st.rkc = s.st.rkc) ∧
        (on = true → t.st.stc.loadShed = s.st.stc.loadShed) ∧
        (on = false → s.st.stc.shedEmpty = true → t.st.stc.loadShed = false ∧
          (s.st.stc.loadShed = true → t.st.alt.points[Alarm.loadShed].condition = false))) ∧
      ∀ n : PumpNo, .pump n ∈ w.shedChoice w.shedCandidates w.loadAfterShedding w.committedLoad →
        t.st.pumps[n].state = .stopping ∧ t.st.ctu.pumpRun[n] = false ∧ t.st.pumps[n].demand = s.st.pumps[n].demand ∧
        (s.st.pumps[n].demand = true → t.st.pumps[n].shed = true) ∧ (on = true → t.st.stc.loadShed = true) := by
  have ran := exec_debounceExpiry swapped due
  have taken : u.takeChange .genRun swapped = (u.withChange .genRun).genChange := rfl
  rw [taken] at ran
  obtain ⟨⟨c, rfl⟩, -⟩ := changeComesDue_clock due
  obtain ⟨outer, seen, -, point⟩ := genChange_shows (Station.withChange { s.st with clock := c } .genRun)
  have loads := fun safe : s.st.rotationSafe => (genChange_loadSafe (st := Station.withChange { s.st with clock := c } .genRun) safe).2.1
  have within := genChange_within (Station.withChange { s.st with clock := c } .genRun)
  have sheds := fun n => @genChange_sheds (Station.withChange { s.st with clock := c } .genRun) n
  generalize (Station.withChange { s.st with clock := c } .genRun).genChange = t at ran outer seen point loads within sheds
  refine ⟨_, ran, rfl, outer, seen, point, ?_, loads, within, fun n chosen => ?_⟩
  · dsimp only
    rw [Station.activeLimit, seen, outer.consts]
    rfl
  · obtain ⟨stands, load⟩ := sheds n chosen
    obtain ⟨record, output⟩ := Prod.mk.inj stands
    dsimp only
    rw [record]
    exact ⟨rfl, output, rfl, fun demand => Bool.or_eq_true_iff.mpr (.inl demand), load⟩

end Sys2Proof.Machine
end

section
/-! PROOFS. The settling notices of a pump and of the Start Controller (R48, R80, R90, R113). -/

namespace Sys2Proof.Machine

/-! ### The Start Controller's notice -/

/-- At `t` the motor table and GEN_RUNNING are as the contacts have settled at `st` (R79, R80). -/
structure TableShown (st t : Station) : Prop where
  outer : KeepsOuter st t
  limit : t.stc.genSeen = st.settled .genRun
  column : ∀ n : PumpNo, t.stc.runFbSeen[n] = st.settled (.runFb n)
  point : t.alt.points[Alarm.genRunning].condition = st.settled .genRun

theorem stcSettled_of_keeps {a b : Station} (k : KeepsOuter a b) : b.stcSettled = a.stcSettled := by
  have settled (i : Input) : (b.ctu.input i).hasSettled = (a.ctu.input i).hasSettled := congrArg InputRec.hasSettled (k.inputs i)
  have feedback (n : PumpNo) : b.ctu.runFb[n].hasSettled = a.ctu.runFb[n].hasSettled := settled (.runFb n)
  have gen : b.ctu.genRun.hasSettled = a.ctu.genRun.hasSettled := settled .genRun
  simp only [Station.stcSettled, feedback, gen]

/-- The motor table with its RUN_FB column filled (R90). -/
def Station.columnFilled (st : Station) : Station :=
  { st with stc := { st.stc with runFbSeen := Vector.ofFn fun n : Fin 6 => st.settled (.runFb n) } }

theorem noteStc_open {st : Station} (h : st.stcSettled = false) : st.noteStc = st := if_neg (by rw [h]; decide)

theorem noteStc_settled {st : Station} (h : st.stcSettled = true) : st.noteStc = st.columnFilled.genChange := if_pos h

theorem noteStc_shows {st : Station} (h : st.stcSettled = true) : TableShown st st.noteStc := by
  obtain ⟨outer, limit, column, point⟩ := genChange_shows st.columnFilled
  rw [noteStc_settled h]
  refine ⟨KeepsOuter.trans (keeps_stc _ _) outer, limit, fun n => ?_, point⟩
  rw [column]
  exact Vector.getElem_ofFn n.isLt

theorem noteStc_quiet {st : Station} (quiet : st.stc.heard = false) : st.noteStc.stc.heard = false := by
  unfold Station.noteStc
  split
  · exact settleStc_quiet _
  · exact quiet

theorem noteStc_outer (st : Station) : KeepsOuter st st.noteStc := (ControlRun.refl st).noteStc.keepsOuter

/-- A pump at rest stands through the notice, and so does its fault point. -/
theorem noteStc_rest {st : Station} {n : PumpNo} (rest : st.pumps[n].state.atRest) : st.noteStc.standing n = st.standing n := by
  cases settled : st.stcSettled with
  | false => rw [noteStc_open settled]
  | true =>
    have stands := limitFormed_standing st.columnFilled n
    rw [noteStc_settled settled, genChange_eq]
    refine (settleStc_rest ?_).trans stands
    rw [(Prod.mk.inj stands).1]
    exact rest

theorem noteStc_faultShown {st : Station} {n : PumpNo} (rest : st.pumps[n].state.atRest) (shown : st.faultShown n) :
    st.noteStc.faultShown n := by
  have record : st.noteStc.pumps[n] = st.pumps[n] := congrArg Prod.fst (noteStc_rest rest)
  have condition := pumpFaultCondition_of_keeps (noteStc_outer st) record
  cases settled : st.stcSettled with
  | false => rw [noteStc_open settled]; exact shown
  | true =>
    have side : st.columnFilled.limitFormed.pumpSide n = st.pumpSide n :=
      Station.report_pumpSide _ n (Alarm.ne_pumpFault n (by decide)) _
    have formed : st.columnFilled.limitFormed.pumps[n] = st.pumps[n] := congrArg Prod.fst side
    have point := congrArg (fun x : PumpRec × Bool × PointRec => x.2.2.condition) side
    have keeps : KeepsOuter st st.columnFilled.limitFormed := KeepsOuter.trans (keeps_stc _ _) (limitFormed_outer st.columnFilled)
    have shown' : st.columnFilled.limitFormed.faultShown n :=
      point.trans (shown.trans (pumpFaultCondition_of_keeps keeps formed).symm)
    have kept := settleStc_pumpSide (by rw [formed]; exact rest) shown'
    have event : st.noteStc = st.columnFilled.limitFormed.settleStc := noteStc_settled settled
    rw [← event] at kept
    exact (congrArg (fun x : PumpRec × Bool × PointRec => x.2.2.condition) kept).trans (point.trans (shown.trans condition.symm))

/-! ### A pump's notice (R113) -/

/-- The state to which the settled contacts take a pump found in OFF. -/
def Station.noticeState (st : Station) (n : PumpNo) : PumpState := match st.ctu.selectors[n].position with
  | .off => .off
  | .hand => .hand
  | .auto => if st.settled (.pumpFault n) then .faulted else if st.settled (.runFb n) then .stopping else .ready

theorem noticeState_of_keeps {a b : Station} (k : KeepsOuter a b) (n : PumpNo) : b.noticeState n = a.noticeState n := by
  unfold Station.noticeState
  rw [k.selectors, k.settled, k.settled]

theorem noticeState_atRest (st : Station) (n : PumpNo) : (st.noticeState n).atRest := by
  unfold Station.noticeState
  split
  · exact ⟨by decide, rfl⟩
  · exact ⟨by decide, rfl⟩
  · split
    · exact PumpState.faulted_atRest
    · split
      · exact PumpState.stopping_atRest
      · exact ⟨by decide, rfl⟩

theorem selectorChange_noticeState {st : Station} {n : PumpNo} (off : st.pumps[n].state = .off) :
    (st.selectorChange n st.ctu.selectors[n].position).pumps[n].state = st.noticeState n := by
  unfold Station.noticeState
  cases position : st.ctu.selectors[n].position with
  | off =>
    unfold Station.selectorChange
    rw [off]
    exact off
  | hand =>
    unfold Station.selectorChange
    rw [off]
    simp [PumpRec.entered]
  | auto =>
    rw [selectorChange_auto_enters (.inl off)]
    exact (st.enterAuto_pump n).1

/-- What the notice makes of a pump: from OFF by the selector, and nothing elsewhere. -/
theorem notePump_moves {y : Station} {n : PumpNo} (quiet : y.stc.heard = false) (noticed : y.pumpNoticed n = true) :
    (y.pumps[n].state = .off → (y.notePump n).pumps[n].state = y.noticeState n ∧ (y.notePump n).faultShown n) ∧
    (y.pumps[n].state ≠ .off → (y.notePump n).pumps = y.pumps) := by
  have event : y.notePump n = ((y.pumpNotice n).reportPump n).settleStc := if_pos noticed
  refine ⟨fun off => ?_, fun other => ?_⟩
  · have taken : y.pumpNotice n = y.selectorChange n y.ctu.selectors[n].position := if_pos off
    obtain ⟨record, -, shown⟩ := selectorEvent_pump (pos := y.ctu.selectors[n].position) (n := n) quiet
    have same : y.notePump n = y.pumpEvent n fun s => s.selectorChange n y.ctu.selectors[n].position := by
      rw [event, taken]
      rfl
    rw [same]
    exact ⟨(congrArg PumpRec.state record).trans (selectorChange_noticeState off), shown⟩
  · have same : y.pumpNotice n = y := if_neg other
    rw [event, same, settleStc_unheard (by rw [Station.reportPump_stc]; exact quiet), Station.reportPump_pumps]

theorem notePump_outer (y : Station) (n : PumpNo) : KeepsOuter y (y.notePump n) := (ControlRun.refl y).notePump n |>.keepsOuter

/-- The pump's notice leaves the motor table and GEN_RUNNING. -/
theorem notePump_table {st t : Station} (n : PumpNo) (h : TableShown st t) : TableShown st (t.notePump n) := by
  cases noticed : t.pumpNoticed n with
  | false =>
    have same : t.notePump n = t := if_neg (by rw [noticed]; decide)
    rw [same]
    exact h
  | true =>
    have event : t.notePump n = ((t.pumpNotice n).reportPump n).settleStc := if_pos noticed
    have arranged : Arranged t (t.notePump n) := by
      rw [event]
      exact (((Shifts.refl t).pumpNotice n).reportPump n).toArranged.trans (settleStc_arranged _)
    have point : (t.notePump n).alt.points[Alarm.genRunning] = t.alt.points[Alarm.genRunning] := by
      rw [event, settleStc_genRunning, reportPump_genRunning, Station.pumpNotice_alt]
    exact ⟨h.outer.trans arranged.outer, arranged.limit.trans h.limit, fun k => by rw [arranged.seen]; exact h.column k,
      (congrArg PointRec.condition point).trans h.point⟩

/-! ### Both notices at one contact (R48) -/

section

variable {v : Station} {n : PumpNo}

/-- In OFF the pump takes its selector, whichever notice is first. -/
theorem feedbackNotice_moves (swapped : Bool) (quiet : v.stc.heard = false) (noticed : v.pumpNoticed n = true)
    (off : v.pumps[n].state = .off) : let t := v.both swapped (fun s => s.notePump n) Station.noteStc
    KeepsOuter v t ∧ t.pumps[n].state = v.noticeState n ∧ t.faultShown n := by
  cases swapped with
  | false =>
    obtain ⟨state, shown⟩ := (notePump_moves quiet noticed).1 off
    have outer := notePump_outer v n
    rw [both_straight]
    dsimp only
    generalize v.notePump n = a at state shown outer
    have rest : a.pumps[n].state.atRest := by rw [state]; exact noticeState_atRest v n
    have record : a.noteStc.pumps[n] = a.pumps[n] := congrArg Prod.fst (noteStc_rest rest)
    exact ⟨outer.trans (noteStc_outer a), by rw [record]; exact state, noteStc_faultShown rest shown⟩
  | true =>
    have rest : v.pumps[n].state.atRest := by rw [off]; exact ⟨by decide, rfl⟩
    have record : v.noteStc.pumps[n] = v.pumps[n] := congrArg Prod.fst (noteStc_rest rest)
    have outer := noteStc_outer v
    have still := noteStc_quiet quiet
    rw [both_swapped]
    dsimp only
    generalize v.noteStc = a at record outer still
    obtain ⟨state, shown⟩ := (notePump_moves still ((pumpNoticed_of_keeps outer).trans noticed)).1 (by rw [record]; exact off)
    exact ⟨outer.trans (notePump_outer a n), state.trans (noticeState_of_keeps outer n), shown⟩

theorem feedbackNotice_shows (swapped : Bool) (settled : v.stcSettled = true) :
    TableShown v (v.both swapped (fun s => s.notePump n) Station.noteStc) := by
  cases swapped with
  | false =>
    have outer := notePump_outer v n
    have shows := noteStc_shows ((stcSettled_of_keeps outer).trans settled)
    rw [both_straight]
    exact ⟨outer.trans shows.outer, shows.limit.trans (outer.settled _), fun k => (shows.column k).trans (outer.settled _),
      shows.point.trans (outer.settled _)⟩
  | true => exact notePump_table n (noteStc_shows settled)

end

/-- The contact settles for the first time at a station that differs in its clock alone. -/
theorem settlingComesDue_clock {st u : Station} {i : Input} (h : st.settlingComesDue i u) : ∃ c, u = { st with clock := c } := by
  obtain ⟨-, _, -, reached⟩ := h
  exact Station.reach_clock reached

theorem exec_withSettling {s : State} {i : Input} {u : Station} (swapped : Bool) (h : s.st.settlingComesDue i u) :
    exec (.firstSettling i swapped) s = .next { s with st := (u.withSettling i).notice i swapped } := exec_firstSettling swapped h

/-- The pump's four contacts have settled: what its notice makes of it, from the station `v` at which the last of them has. -/
theorem pumpContact_notice {v : Station} {n : PumpNo} {i : Input} (swapped : Bool)
    (hi : i = .hoaHand n ∨ i = .hoaAuto n ∨ i = .runFb n ∨ i = .pumpFault n) (quiet : v.stc.heard = false)
    (noticed : v.pumpNoticed n = true) :
    ∃ t, v.notice i swapped = t ∧ (∀ j, t.settled j = v.settled j) ∧
      (i = .hoaHand n ∨ i = .hoaAuto n → t.ctu.selectors[n] = v.decoded n) ∧
      (v.pumps[n].state = .off → t.pumps[n].state = t.noticeState n ∧ t.faultShown n) ∧
      (v.pumps[n].state ≠ .off → i ≠ .runFb n → t.pumps = v.pumps) := by
  have alone (y : Station) (quiet : y.stc.heard = false) (noticed : y.pumpNoticed n = true) :
      (y.pumps[n].state = .off → (y.notePump n).pumps[n].state = (y.notePump n).noticeState n ∧ (y.notePump n).faultShown n) ∧
      (y.pumps[n].state ≠ .off → (y.notePump n).pumps = y.pumps) := by
    have moves := notePump_moves quiet noticed
    rwa [← noticeState_of_keeps (notePump_outer y n) n] at moves
  have pair : v.settlePair n = v.setSelector n (v.decoded n) := by
    simp only [Station.pumpNoticed, Bool.and_eq_true] at noticed
    obtain ⟨⟨⟨hand, auto⟩, -⟩, -⟩ := noticed
    rw [Station.settlePair, if_pos (by rw [Station.pairSettled, hand, auto]; rfl)]
  have selected : v.notice i swapped = (v.settlePair n).notePump n → ∃ t, v.notice i swapped = t ∧
      (∀ j, t.settled j = v.settled j) ∧ t.ctu.selectors[n] = v.decoded n ∧
      (v.pumps[n].state = .off → t.pumps[n].state = t.noticeState n ∧ t.faultShown n) ∧
      (v.pumps[n].state ≠ .off → t.pumps = v.pumps) := by
    intro notice
    have outer := notePump_outer (v.setSelector n (v.decoded n)) n
    obtain ⟨moves, stays⟩ := alone (v.setSelector n (v.decoded n)) quiet noticed
    rw [pair] at notice
    refine ⟨_, notice, fun j => (outer.settled j).trans ?_, ?_, moves, stays⟩
    · cases j <;> rfl
    · rw [outer.selectors]
      exact Vector.getElem_set_self n.isLt
  obtain rfl | rfl | rfl | rfl := hi
  · obtain ⟨t, notice, settled, selector, moves, stays⟩ := selected rfl
    exact ⟨t, notice, settled, fun _ => selector, moves, fun other _ => stays other⟩
  · obtain ⟨t, notice, settled, selector, moves, stays⟩ := selected rfl
    exact ⟨t, notice, settled, fun _ => selector, moves, fun other _ => stays other⟩
  · have outer : KeepsOuter v (v.both swapped (fun s => s.notePump n) Station.noteStc) := by
      cases swapped with
      | false => exact (notePump_outer v n).trans (noteStc_outer _)
      | true => exact (noteStc_outer v).trans (notePump_outer _ n)
    refine ⟨_, rfl, outer.settled, nofun, fun off => ?_, fun _ feedback => absurd rfl feedback⟩
    obtain ⟨-, state, shown⟩ := feedbackNotice_moves swapped quiet noticed off
    exact ⟨state.trans (noticeState_of_keeps outer n).symm, shown⟩
  · obtain ⟨moves, stays⟩ := alone v quiet noticed
    exact ⟨_, rfl, (notePump_outer v n).settled, nofun, moves, fun other _ => stays other⟩

/-- The part of O43 about a pump's settling notice. -/
theorem pumpNotice_moves_the_pump (s : State) (n : PumpNo) (i : Input) (swapped : Bool) (u : Station)
    (hi : i = .hoaHand n ∨ i = .hoaAuto n ∨ i = .runFb n ∨ i = .pumpFault n) (due : s.st.settlingComesDue i u)
    (quiet : s.st.stc.heard = false) :
    let v := u.withSettling i
    let sel := v.decoded n
    v.pumpNoticed n = true →
    ∃ t, exec (.firstSettling i swapped) s = .next t ∧ t.pending = s.pending ∧
      (i = .hoaHand n ∨ i = .hoaAuto n → t.st.ctu.selectors[n] = sel) ∧
      (s.st.pumps[n].state = .off →
        let position := t.st.ctu.selectors[n].position
        t.st.pumps[n].state = (match position with
          | .off => .off
          | .hand => .hand
          | .auto => if v.settled (.pumpFault n) then .faulted else if v.settled (.runFb n) then .stopping else .ready) ∧
        t.st.alt.points[Alarm.pumpFault n].condition = t.st.pumpFaultCondition n) ∧
      (s.st.pumps[n].state ≠ .off → i ≠ .runFb n → t.st.pumps = s.st.pumps) := by
  intro v sel noticed
  have ran := exec_withSettling swapped due
  obtain ⟨same, still⟩ : v.pumps = s.st.pumps ∧ v.stc = s.st.stc := by
    obtain ⟨c, rfl⟩ := settlingComesDue_clock due
    exact ⟨rfl, rfl⟩
  obtain ⟨t, notice, settled, selector, moves, stays⟩ := pumpContact_notice swapped hi (by rw [still]; exact quiet) noticed
  rw [same] at moves stays
  change exec _ s = .next { s with st := v.notice i swapped } at ran
  rw [notice] at ran
  refine ⟨_, ran, rfl, selector, fun off => ?_, stays⟩
  obtain ⟨state, shown⟩ := moves off
  rw [Station.noticeState, settled, settled] at state
  exact ⟨state, shown⟩

/-- The part of O43 about the Start Controller's settling notice. -/
theorem stcNotice_fills_the_table (s : State) (i : Input) (swapped : Bool) (u : Station) (hi : i = .genRun ∨ ∃ n, i = .runFb n)
    (due : s.st.settlingComesDue i u) :
    let v := u.withSettling i
    (i = .genRun → v.stcSettled = false → exec (.firstSettling i swapped) s = .next { s with st := v }) ∧
    (v.stcSettled = true →
      ∃ t, exec (.firstSettling i swapped) s = .next t ∧ t.pending = s.pending ∧ KeepsOuter v t.st ∧
        t.st.stc.genSeen = v.settled .genRun ∧ (∀ n : PumpNo, t.st.stc.runFbSeen[n] = v.settled (.runFb n)) ∧
        t.st.alt.points[Alarm.genRunning].condition = v.settled .genRun) := by
  have ran := exec_withSettling swapped due
  intro v
  refine ⟨?_, fun settled => ?_⟩
  · rintro rfl unsettled
    exact ran.trans (congrArg (fun x : Station => Host.Outcome.next (State.mk x s.pending)) (noteStc_open unsettled))
  have shows : TableShown v (v.notice i swapped) := by
    obtain rfl | ⟨n, rfl⟩ := hi
    · exact noteStc_shows settled
    · exact feedbackNotice_shows swapped settled
  exact ⟨_, ran, rfl, shows.outer, shows.limit, shows.column, shows.point⟩

/-- Settles O43: each taken change and each notice by what it makes of the pump at its delivery, which the Start Controller's event
leaves to a pump at rest and, with the loads within the limit, to one that does not wait. -/
theorem contactsMoveThePump : Obligations.ContactsMoveThePump :=
  ⟨genRunChange_sheds, pumpNotice_moves_the_pump, stcNotice_fills_the_table, feedbackChange_moves_the_pump, faultChange_moves_the_pump⟩

end Sys2Proof.Machine
end
